-- ==== Sys2Proof/Word.lean ====
section
/-! DEFINITION. The word types of the unit, two's-complement reading of a field, and the shapes of
a register field and of a row of the register table (R5, R6). -/

namespace Sys2Proof

/-- A register word: 32 bits (R5, R428). -/
abbrev Word := BitVec 32
/-- A byte of a memory, a frame or a message. -/
abbrev Byte := BitVec 8
/-- A lane, scalar or predicate register of a Kerf thread (R144): 16 bits. -/
abbrev Half := BitVec 16

namespace Machine

/-- A field of a register: the register's address, the lowest bit and the width. -/
structure Fld where
  reg : Nat
  lo  : Nat
  w   : Nat
  deriving DecidableEq, Repr

/-- What a write to a register word can do (R6, R61). -/
inductive RegKind where
  | ro       -- no writable field
  | rw       -- RW, ST or W1C bits, by the row's masks
  | cmd      -- a command register
  | counter  -- a 48-bit counter of two words with its overflow bit (R61)
  deriving DecidableEq, Repr

/-- A row of the register table: first address, two levels of repeats, words per register, kind, the
value after reset in head and in tile role, the mask of RW bits and of bits cleared by writing 1. -/
structure RegRow where
  lo : Nat
  n1 : Nat
  s1 : Nat
  n2 : Nat
  s2 : Nat
  words : Nat
  kind : RegKind
  resetH : Nat
  resetT : Nat
  rw : Nat
  w1 : Nat
  deriving DecidableEq, Repr

end Machine
end Sys2Proof
end

