-- ==== Sys2Proof/Syntax.lean ====
section
/-! DEFINITION. The commands of the unit: one constructor for each row of the table of operations and
events, with what its sender or the outside world supplies as operands, and the shapes of those
operands (frames, messages, measured values). -/

namespace Sys2Proof

/-- Who sends a flume-manager command: the host over a control message, or RC0 firmware (R236, R546). -/
inductive Src where
  | host
  | firmware
  deriving DecidableEq, Repr

/-- How a received frame ends: with an END unit and its trailer CRC, with an ABORT unit, by the loss of the link,
or with a control unit that does not belong there (R285, R287). -/
inductive FrameEnd where
  | crc (w : Word)
  | abort
  | lost
  | badUnit
  deriving DecidableEq, Repr

/-- A frame as it arrives: the header unit, the bytes of its data units, and its end (R287, R288). -/
structure RxFrame where
  hdr  : List Byte
  data : List Byte
  fin  : FrameEnd
  deriving DecidableEq, Repr

/-- The capability word of the far end (R76): maximum rate, port width code, whether every eye of the far end
meets the figures of the present rate, and whether the major versions of the lane firmware agree. -/
structure CapWord where
  rate  : Nat
  width : Nat
  eyeOk : Bool
  sameFw : Bool
  deriving DecidableEq, Repr

/-- A copy of a two-copy flash record (R360, R456): sequence, whether its CRC checks, its contents. -/
structure FlashCopy where
  seq  : Nat
  ok   : Bool
  data : List Byte
  deriving DecidableEq, Repr

/-- What the board's flash and the fuses hold when the unit starts, for what the model does not hold yet (log entry 49):
whether the flash device is usable (R454), copies of records, pieces of the image slots (1,024 × slot + piece), what the
cryptographic checks find on each slot, key hashes, revoke bits, FSECVER, the production bit, and a cut fuse burn. -/
structure Device where
  flashOk : Bool
  recs : List (Nat × FlashCopy)
  img  : List (Nat × List Byte)
  chk  : List Nat
  keys : List Nat
  revoked : List Nat
  fsec : Nat
  prod : Bool
  burn : Bool
  deriving DecidableEq, Repr

/-- What the outside shows at a power step (R490): whether memory training passes and the channels that fail it, the
lamp-side supplies after the wait (VLED in mV, VDRV and VGATE in range), and what the lamp-board EEPROM returns. -/
structure StepFacts where
  trained : Bool
  bad   : Nat
  vled  : Nat
  vdrv  : Bool
  vgate : Bool
  ee    : List Byte
  deriving DecidableEq, Repr

/-- The operations and events of the table, in its order. -/
inductive Instr where
  /-- PORST_RISE (R452). -/
  | porstRise (head : Bool) (headnum bootsel : Nat) (dev : Device)
  /-- LAMP_SIDE_TEST (R521). -/
  | lampSideTest (vdrv vgate : Nat)
  /-- FIRMWARE_START (R465). -/
  | firmwareStart (ee : List Byte) (conv : Option (List Byte))
  /-- REGISTER_WRITE (R6). -/
  | registerWrite (addr : Nat) (value : Word)
  /-- TIME_NS_READ (R28). -/
  | timeNsRead
  /-- PPSIN_NS_READ (R542). -/
  | ppsinNsRead
  /-- TRC_RD0_READ (R234). -/
  | trcRd0Read
  /-- FLM_EDATA0_READ (R236). -/
  | flmEdata0Read
  /-- PTP_ANNOUNCE_RX (R30). -/
  | ptpAnnounceRx (port gm rank : Nat) (logInt : Int)
  /-- SERVO_SAMPLE (R34). -/
  | servoSample (t1 t2 t3 t4 cs cd : Int)
  /-- SERVO_TIMEOUT (R35). -/
  | servoTimeout
  /-- ACQUIRE (R37). -/
  | servoAcquire
  /-- SLEW (R40). -/
  | servoSlew
  /-- STEP (R41). -/
  | servoStep
  /-- CANCEL (R56). -/
  | lqCancel (q slot : Nat)
  /-- HOLD (R35). -/
  | servoHold
  /-- RESUME (R35). -/
  | servoResume
  /-- STEP_EXECUTE (R41). -/
  | stepExecute
  /-- LQ_INSERT (R54). -/
  | lqInsert (w3 : Word)
  /-- FLIP (R349). -/
  | lqFlip
  /-- PHASE (R549). -/
  | lqPhase
  /-- GRID (R51). -/
  | lqGrid
  /-- GRID_TAKE_EFFECT (R51). -/
  | gridTakeEffect
  /-- RAMP (R401). -/
  | lqRamp
  /-- LPEMODE (R401). -/
  | lqLpemode
  /-- CALSET (R371). -/
  | lqCalset
  /-- MCLK (R59). -/
  | lqMclk
  /-- PIN (R53). -/
  | lqPin
  /-- MARK (R53). -/
  | lqMark
  /-- PACING_TICK (R18). -/
  | pacingTick
  /-- SLOT_COMPLETE (R266). -/
  | slotComplete
  /-- SLOT_ABANDON (R270). -/
  | slotAbandon
  /-- COMMIT_DEADLINE (R271). -/
  | commitDeadline
  /-- SECTION_COMMIT (R271). -/
  | sectionCommit
  /-- WALLRDY_SEND (R272). -/
  | wallrdySend
  /-- WALL_DECIDE (R272). -/
  | wallDecide
  /-- WALLRDY_RX (R273). -/
  | wallrdyRx (p : Nat)
  /-- WALLDEC_RX (R272). -/
  | walldecRx (p : Nat)
  /-- OFFER_RX (R277). -/
  | offerRx (p : Nat) (full grid : Bool)
  /-- OFFERREPLY_RX (R278). -/
  | offerreplyRx (p : Nat)
  /-- OFFER_TIMEOUT (R276). -/
  | offerTimeout
  /-- MOVEEND_RX (R280). -/
  | moveendRx (p : Nat)
  /-- VACATE (R265). -/
  | plcVacate (engine : Nat)
  /-- RESTORE (R265). -/
  | plcRestore (engine : Nat)
  /-- REPLACE (R265). -/
  | plcReplace
  /-- RECLAIM (R280). -/
  | plcReclaim (entry : Nat)
  /-- RETURN (R280). -/
  | plcReturn (entry : Nat)
  /-- TIM_SYNC_SEND (R45). -/
  | timSyncSend
  /-- TIM_SYNC_RX (R47). -/
  | timSyncRx (p : Nat)
  /-- TIM_PDLYREQ_SEND (R46). -/
  | timPdlyreqSend
  /-- TIM_PDLYREQ_RX (R294). -/
  | timPdlyreqRx (p : Nat)
  /-- TIM_PDLYRSP_RX (R46). -/
  | timPdlyrspRx (p : Nat)
  /-- PEER_TIM_LOST (R44). -/
  | peerTimLost
  /-- TIM_SOURCE_SWITCH (R324). -/
  | timSourceSwitch
  /-- PPS_OUT_PULSE (R58). -/
  | ppsOutPulse
  /-- PPS_IN_EDGE (R542). -/
  | ppsInEdge
  /-- PORT_ENABLE (R71). -/
  | portEnable (p : Nat) (cid : Option (Nat × Nat))
  /-- RECEIVER_DETECT (R72). -/
  | receiverDetect (p : Nat)
  /-- DETECT_RETRY (R77). -/
  | detectRetry (p : Nat) (found : Bool)
  /-- LANE_LOCK (R72). -/
  | laneLock (p : Nat) (lanes : List (Nat × Nat)) (unc : Nat)
  /-- SKEW_RESTART (R69). -/
  | skewRestart (p : Nat)
  /-- CAPABILITY_EXCHANGE (R76). -/
  | capabilityExchange (p : Nat) (c : CapWord) (eyes : List (Nat × Nat))
  /-- RATE_STEP (R75). -/
  | rateStep (p : Nat) (lock : Bool) (eyes : List (Nat × Nat)) (far : Bool)
  /-- DIRECT_BRINGUP_TIMEOUT (R73). -/
  | directBringupTimeout (p : Nat)
  /-- BRINGUP_FAIL_TIMEOUT (R79). -/
  | bringupFailTimeout (p : Nat)
  /-- LANE_LOSS (R78). -/
  | laneLoss (l : Nat) (cid : Option (Nat × Nat))
  /-- EI_ENTRY (R81). -/
  | eiEntry (p : Nat) (far : Bool)
  /-- FAST_EXIT (R83). -/
  | fastExit (p : Nat) (cid : Option (Nat × Nat))
  /-- EXIT_BURST_DETECT (R82). -/
  | exitBurstDetect (p : Nat)
  /-- FAST_EXIT_TIMEOUT (R84). -/
  | fastExitTimeout (p : Nat) (cid : Option (Nat × Nat))
  /-- RETRAIN (R75). -/
  | laneRetrain (l : Nat)
  /-- CAL (R85). -/
  | laneCal (l : Nat)
  /-- IDLE (R82). -/
  | laneIdle (l : Nat)
  /-- WAKE (R82). -/
  | laneWake (l : Nat)
  /-- PRBSON (R92). -/
  | lanePrbsOn (l : Nat)
  /-- PRBSOFF (R92). -/
  | lanePrbsOff (l : Nat)
  /-- CAL_DUE (R85). -/
  | calDue (k : Nat)
  /-- CALREQ_SEND (R87). -/
  | calreqSend (p : Nat)
  /-- CALREQ_RX (R87). -/
  | calreqRx (p ahead : Nat)
  /-- CALGRANT_RX (R88). -/
  | calgrantRx (p : Nat)
  /-- CAL_WINDOW_START (R88). -/
  | calWindowStart (p : Nat)
  /-- CAL_RUN_END (R86). -/
  | calRunEnd (k : Nat) (eyes : List ((Nat × Nat) × (Nat × Nat)))
  /-- CAL_STARVE (R88). -/
  | calStarve (p : Nat)
  /-- ETH_PORT_BRINGUP (R80). -/
  | ethPortBringup (q : Nat)
  /-- ETH_FRAME_RX (R95). -/
  | ethFrameRx (p : Nat) (l : List Byte) (fcs full cmax vrx : Bool)
  /-- FRAME_CLOSE_TIMEOUT (R103). -/
  | frameCloseTimeout (f : Nat)
  /-- ETH_FRAME_TX (R96). -/
  | ethFrameTx (p : Nat)
  /-- OPEN (R97). -/
  | flowOpen (f : Nat)
  /-- CLOSE (R99). -/
  | flowClose (f : Nat)
  /-- STILL_FENCE (R106). -/
  | stillFence (k buf token : Nat)
  /-- START (R107). -/
  | monStart
  /-- STOP (R107). -/
  | monStop
  /-- ARM (R112). -/
  | monArm
  /-- MON_SOF (R110). -/
  | monSof
  /-- MON_PACKET (R109). -/
  | monPacket
  /-- CONTROL_REQUEST (R433). -/
  | controlRequest (p : Nat) (v6 : Bool) (ip udp : Nat) (payload : List Byte)
  /-- RELAY_TIMEOUT (R326). -/
  | relayTimeout
  /-- CTL_RESPONSE_RX (R326). -/
  | ctlResponseRx (p : Nat)
  /-- TILE_CTL_REQUEST (R327). -/
  | tileCtlRequest (p : Option Nat)
  /-- NOTIFY_SEND (R440). -/
  | notifySend (d : Nat)
  /-- CTL_NOTIFICATION_RX (R440). -/
  | ctlNotificationRx (p : Nat)
  /-- ENABLE (R448). -/
  | cvuEnable (u : Nat)
  /-- DISABLE (R448). -/
  | cvuDisable (u : Nat)
  /-- WCK2DQ_MEASURE (R131). -/
  | wck2dqMeasure (c t : Nat)
  /-- MEM_FREQ_CHANGE (R132). -/
  | memFreqChange (rate : Nat)
  /-- RATE_CHANGE_DONE (R133). -/
  | rateChangeDone (ok again : Bool) (bad : Nat)
  /-- MR4_POLL (R134). -/
  | mr4Poll (c : Nat) (fields : List Nat)
  /-- SELF_REFRESH_ENTRY (R137). -/
  | selfRefreshEntry (c : Nat)
  /-- SELF_REFRESH_EXIT (R138). -/
  | selfRefreshExit (c : Nat)
  /-- ADD (R179). -/
  | kAdd (e t : Nat)
  /-- ADDS (R180). -/
  | kAdds (e t : Nat)
  /-- MUL (R181). -/
  | kMul (e t : Nat)
  /-- MAC (R181). -/
  | kMac (e t : Nat)
  /-- MIN (R182). -/
  | kMin (e t : Nat)
  /-- MAX (R182). -/
  | kMax (e t : Nat)
  /-- CLMP (R182). -/
  | kClmp (e t : Nat)
  /-- SHL (R182). -/
  | kShl (e t : Nat)
  /-- SHR (R182). -/
  | kShr (e t : Nat)
  /-- CVT (R183). -/
  | kCvt (e t : Nat)
  /-- LD (R184). -/
  | kLd (e t : Nat)
  /-- ST (R184). -/
  | kSt (e t : Nat)
  /-- PULL (R186). -/
  | kPull (e t : Nat)
  /-- PUSH (R186). -/
  | kPush (e t : Nat)
  /-- LUT3 (R188). -/
  | kLut3 (e t : Nat)
  /-- SCLV_OPEN (R189). -/
  | kSclvOpen (e t : Nat)
  /-- SCLV_RUN (R189). -/
  | kSclvRun (e t : Nat)
  /-- SCLV_CLOSE (R189). -/
  | kSclvClose (e t : Nat)
  /-- SCLH (R191). -/
  | kSclh (e t : Nat)
  /-- BLND (R193). -/
  | kBlnd (e t : Nat)
  /-- WAITF (R194). -/
  | kWaitf (e t : Nat)
  /-- SIGF (R195). -/
  | kSigf (e t : Nat)
  /-- RELO (R196). -/
  | kRelo (e t : Nat)
  /-- BR (R198). -/
  | kBr (e t : Nat)
  /-- JMP (R199). -/
  | kJmp (e t : Nat)
  /-- YLD (R201). -/
  | kYld (e t : Nat)
  /-- HALT (R202). -/
  | kHalt (e t : Nat)
  /-- FLUMEWAIT_RELEASE (R148). -/
  | flumewaitRelease (e t : Nat)
  /-- EVWAIT_RELEASE (R194). -/
  | evwaitRelease (e t : Nat)
  /-- SAMPLER_RETURN (R168). -/
  | samplerReturn (c : Nat) (lut : Bool)
  /-- STOP_ENGINE (R150). -/
  | stopEngine (e : Nat)
  /-- ENGINE_STOP_DRAINED (R150). -/
  | engineStopDrained (e : Nat)
  /-- RESUME_ENGINE (R150). -/
  | resumeEngine (e : Nat)
  /-- STEP_ENGINE (R150). -/
  | stepEngine (e t : Nat)
  /-- CLEAR_SLOT (R150). -/
  | clearSlot (e t : Nat)
  /-- GATE (R170). -/
  | engGate (e : Nat)
  /-- UNGATE (R170). -/
  | engUngate (e : Nat)
  /-- PACE_WINDOW (R152). -/
  | paceWindow (c count : Nat)
  /-- LUT_LOAD (R161). -/
  | lutLoad (c slot sub size : Nat)
  /-- LUT_LOAD_DONE (R161). -/
  | lutLoadDone (c : Nat)
  /-- LUT_UNLOAD (R161). -/
  | lutUnload (c slot sub : Nat)
  /-- LUT_MARK (R161). -/
  | lutMark (c slot sub size : Nat)
  /-- SPAWN (R206). -/
  | thrSpawn
  /-- KILL (R207). -/
  | thrKill (t : Nat)
  /-- SIGNAL (R213). -/
  | thrSignal (t : Nat)
  /-- SETPRIO (R209). -/
  | thrSetprio (t prio : Nat)
  /-- THREAD_PLACE (R210). -/
  | threadPlace
  /-- CTXALLOC (R231). -/
  | ctxalloc (src : Src)
  /-- CTXFREE (R232). -/
  | ctxfree (src : Src)
  /-- CTX_DRAIN_DONE (R232). -/
  | ctxDrainDone (c : Nat)
  /-- SETDEPTH (R216). -/
  | setdepth (src : Src) (depth : Nat)
  /-- FLM_PUSH (R218). -/
  | flmPush (src : Src)
  /-- GOPEN (R225). -/
  | gopen (src : Src) (win1 : Nat)
  /-- GCLOSE (R227). -/
  | gclose (src : Src)
  /-- GSKIP (R227). -/
  | gskip (src : Src)
  /-- FETCH_TAKE (R223). -/
  | fetchTake (c : Nat) (unc : Bool)
  /-- FETCH_DONE (R213). -/
  | fetchDone (c : Nat)
  /-- OUT_TAKE (R224). -/
  | outTake (u : Nat) (unc : Bool)
  /-- OUT_COMPLETE (R224). -/
  | outComplete (u : Nat)
  /-- TRC_CLEAR (R234). -/
  | trcClear
  /-- LOAD (R251). -/
  | progLoad (prog : Nat)
  /-- PROGRAM_LOAD_DONE (R252). -/
  | programLoadDone
  /-- UNLOAD (R253). -/
  | progUnload (prog : Nat)
  /-- ARM_SET (R242). -/
  | armSet (next : Bool)
  /-- DISARM (R242). -/
  | disarm
  /-- TALLY_RX (R302). -/
  | tallyRx (p : Nat) (u : List Byte)
  /-- FRAME_HEADER_RX (R295). -/
  | frameHeaderRx (p : Nat) (r : RxFrame)
  /-- FRAME_TX (R304). -/
  | frameTx (p fills : Nat)
  /-- PIX_RX (R307). -/
  | pixRx (p : Nat)
  /-- PIX_HOLD_RELEASE (R308). -/
  | pixHoldRelease (p : Nat)
  /-- CMT_RX (R309). -/
  | cmtRx (p : Nat)
  /-- ACK_RX (R335). -/
  | ackRx (p : Nat)
  /-- DISCOVER_RX (R315). -/
  | discoverRx (p : Nat)
  /-- REPORT_RX (R319). -/
  | reportRx (p : Nat)
  /-- HEAD_NUM_WRITE (R312). -/
  | headNumWrite (v : Word)
  /-- ENUM (R314). -/
  | skdEnum (port : Nat) (all : Bool)
  /-- ENUM_DONE (R314). -/
  | enumDone
  /-- ISSUE (R329). -/
  | wcIssue
  /-- WC_CANCEL (R329). -/
  | wcCancel
  /-- WALLCMD_ARM_RX (R330). -/
  | wallcmdArmRx (p : Nat)
  /-- WALLCMD_ANSWER_RX (R331). -/
  | wallcmdAnswerRx (p : Nat)
  /-- WALLCMD_COMMIT_RX (R332). -/
  | wallcmdCommitRx (p : Nat)
  /-- WALLCMD_ABORT_RX (R332). -/
  | wallcmdAbortRx (p : Nat)
  /-- WALLCMD_REPEAT (R329). -/
  | wallcmdRepeat
  /-- HREPORT_DEADLINE (R329). -/
  | hreportDeadline
  /-- ARM_DEADLINE (R331). -/
  | armDeadline
  /-- WALLCMD_REVERT (R333). -/
  | wallcmdRevert
  /-- IMG_START (R334). -/
  | imgStart
  /-- IMG_STOP (R334). -/
  | imgStop
  /-- IMG_PIECE_SEND (R334). -/
  | imgPieceSend
  /-- IMG_PASS_END (R335). -/
  | imgPassEnd
  /-- IMGANN_RX (R471). -/
  | imgannRx (p : Nat)
  /-- IMG_RX (R471). -/
  | imgRx (p : Nat)
  /-- LAUNCH (R349). -/
  | ldLaunch
  /-- ROW_START (R346). -/
  | rowStart (vled : Nat) (vdrv vgate failA failB : Bool) (mv : Nat) (pins probes : List (Nat × Nat))
  /-- SLOT_PAD_START (R352). -/
  | slotPadStart (trims : List Int) (resid : Nat)
  /-- HV_RECOVER (R355). -/
  | hvRecover
  /-- ARMGEOM (R344). -/
  | armgeom
  /-- ARMDRV (R354). -/
  | armdrv
  /-- LDU_DISARM (R353). -/
  | lduDisarm
  /-- FLIP_QUEUE (R370). -/
  | flipQueue
  /-- STORESET (R362). -/
  | storeset (n : Nat)
  /-- ERASESET (R383). -/
  | eraseset (n : Nat)
  /-- STOREMAP (R366). -/
  | storemap
  /-- LCR_STORE_DONE (R363). -/
  | lcrStoreDone
  /-- RESCAN (R359). -/
  | rescan (ee : List Byte)
  /-- SINK_CAL (R374). -/
  | sinkCal
  /-- SINK_CAL_DUE (R374). -/
  | sinkCalDue
  /-- PROBE (R379). -/
  | lcrProbe
  /-- PROBE_REPEAT (R379). -/
  | probeRepeat
  /-- PROBESTOP (R379). -/
  | probestop
  /-- SHORTTEST (R380). -/
  | shorttest
  /-- SHORTTEST_DONE (R380). -/
  | shorttestDone (pairs : List Nat)
  /-- CLRFLT (R381). -/
  | clrflt
  /-- NTC_CONVERT (R382). -/
  | ntcConvert (temps : List Int)
  /-- LB_SENSOR_READ (R382). -/
  | lbSensorRead (temps : List (Option Int))
  /-- LPE_SAMPLE (R386). -/
  | lpeSample
  /-- LPE_OUTPUT_DELIVER (R386). -/
  | lpeOutputDeliver
  /-- HBT_SEND (R409). -/
  | hbtSend
  /-- HBT_RX (R416). -/
  | hbtRx (p : Nat) (prim rev : Bool)
  /-- HBT_MISS (R416). -/
  | hbtMiss
  /-- RDN_START_WAIT (R416). -/
  | rdnStartWait
  /-- DIG_RX (R412). -/
  | digRx (p : Nat)
  /-- COMPARE_DEADLINE (R412). -/
  | compareDeadline
  /-- VOTEREQ_RX (R421). -/
  | votereqRx (p : Nat)
  /-- RECOMPUTE_DONE (R421). -/
  | recomputeDone
  /-- VERDICT_RX (R421). -/
  | verdictRx (p : Nat)
  /-- VOTE_TIMEOUT (R421). -/
  | voteTimeout
  /-- SWAP_RX (R419). -/
  | swapRx (p : Nat)
  /-- DRILL (R424). -/
  | rdnDrill (dur : Nat)
  /-- RDN_CLEAR (R416). -/
  | rdnClear
  /-- RESYNC (R425). -/
  | rdnResync
  /-- EPOCH_CLOSE (R425). -/
  | epochClose
  /-- EPOCH_RX (R426). -/
  | epochRx (p : Nat)
  /-- EPREQ_RX (R425). -/
  | epreqRx (p : Nat)
  /-- ACTIVATE (R472). -/
  | bootActivate
  /-- RESTART (R473). -/
  | bootRestart
  /-- CONFIRM (R476). -/
  | bootConfirm
  /-- REVERT (R474). -/
  | bootRevert
  /-- SAVE (R479). -/
  | bootSave
  /-- STAGE (R471). -/
  | bootStage (running : Bool)
  /-- STOREBD (R457). -/
  | storebd
  /-- STORECOR (R468). -/
  | storecor
  /-- DL_OPEN (R470). -/
  | dlOpen
  /-- DL_PIECE (R470). -/
  | dlPiece
  /-- DL_ABORT (R470). -/
  | dlAbort
  /-- RECOVERY_INFO (R482). -/
  | recoveryInfo (seq : Nat) (crc : Bool)
  /-- RECOVERY_BAUD (R482). -/
  | recoveryBaud (seq : Nat) (crc : Bool) (rate : Nat)
  /-- RECOVERY_WRITE (R482). -/
  | recoveryWrite (seq : Nat) (crc : Bool) (slot piece pcrc : Nat) (data : List Byte) (ok : Bool)
  /-- RECOVERY_COMMIT (R482). -/
  | recoveryCommit (seq : Nat) (crc : Bool) (slot len : Nat)
  /-- RECOVERY_ERASE (R483). -/
  | recoveryErase (seq : Nat) (crc : Bool) (mask : Nat)
  /-- RECOVERY_WRITEBD (R482). -/
  | recoveryWritebd (seq : Nat) (crc : Bool) (offset : Nat) (data : List Byte)
  /-- RECOVERY_BOOT (R482). -/
  | recoveryBoot (seq : Nat) (crc : Bool)
  /-- POWER_COMMAND (R488). -/
  | powerCommand (target : Nat)
  /-- POWER_STEP (R490). -/
  | powerStep (f : StepFacts)
  /-- SUPPLY_FAULT (R491). -/
  | supplyFault
  /-- SUPPLY_RECOVER (R491). -/
  | supplyRecover (head : Bool) (headnum bootsel : Nat) (dev : Device)
  /-- VCMD (R493). -/
  | vcmd (mv : Nat)
  /-- VOLTAGE_STEP (R493). -/
  | voltageStep (meas : Nat) (ack : Bool)
  /-- THM_SAMPLE (R495). -/
  | thmSample (n : Nat) (t : Int)
  /-- STOP_FACTOR_ZERO (R499). -/
  | stopFactorZero
  /-- TRIP_OFF_CHECK (R501). -/
  | tripOffCheck
  /-- HOUSEKEEPING_ROUND (R496). -/
  | housekeepingRound (mv : List Nat)
  /-- PORST_N_FALL (R491). -/
  | porstNFall
  /-- REFERENCE_CLOCK_CHANGE (R536). -/
  | referenceClockChange (k : Nat) (ok : Bool)
  /-- SINK_CALIBRATION_RUN_END (R374). -/
  | sinkCalibrationRunEnd (trims : List Int) (resid : Nat)
  /-- DOWNLOAD_PIECE_DONE (R470). -/
  | downloadPieceDone (ok : Bool)
  /-- BOOT_COMMAND_DONE (R476). -/
  | bootCommandDone
  deriving DecidableEq, Repr

end Sys2Proof
end

