-- ==== Sys2Proof/Config.lean ====
section
/-! DEFINITION. What the spec leaves open or to a part: free values, which no proof can evaluate, and
the identity of a part. A free value is one of these constants applied to a plain counter of the state
or to the operands it depends on. -/

namespace Sys2Proof.Config

/-- Free 32-bit values, one for each draw (log entry 3). -/
opaque freeWord : Nat → BitVec 32
/-- Free bytes, one for each draw: what a device, a retention loss or a part leaves (log entry 3). -/
opaque freeByte : Nat → BitVec 8
/-- Free natural numbers, one for each draw (log entry 3). -/
opaque freeNat : Nat → Nat

/-- The device stepping read in GLB_ID (R451): a part's own number (log entry 4). -/
opaque stepping : BitVec 8
/-- The unit serial number, fused at manufacture (R451, R460; log entry 4). -/
opaque unitSN : BitVec 64

end Sys2Proof.Config
end

