-- ==== Sys2Proof/Machine/Crc.lean ====
section
/-! DEFINITION. Cyclic redundancy checks of a byte string in the usual parameter model: width, polynomial,
initial value, input and output reflection, final XOR (R289, R446). -/

namespace Sys2Proof.Machine

/-- The `w` low bits of `n` in reverse order. -/
def reflect : Nat → Nat → Nat
  | 0, _ => 0
  | w + 1, n => (n % 2) * 2 ^ w + reflect w (n / 2)

/-- One bit shifted into a CRC register of width `w`. -/
def crcBit (w poly : Nat) (reg : Nat) (b : Bool) : Nat :=
  let top := reg.testBit (w - 1) != b
  let r := reg * 2 % 2 ^ w
  if top then r ^^^ poly else r

/-- The bits of a byte in the order they are fed. -/
def byteBits (refin : Bool) (b : Byte) : List Bool :=
  let l := (List.range 8).map (fun k => b.toNat.testBit k)
  if refin then l else l.reverse

/-- The CRC register after a byte string. -/
def crcBytes (w poly : Nat) (refin : Bool) (l : List Byte) (reg : Nat) : Nat :=
  l.foldl (fun r b => (byteBits refin b).foldl (crcBit w poly) r) reg

/-- A CRC of the parameter model. -/
def crcOf (w poly init : Nat) (refin refout : Bool) (xorout : Nat) (l : List Byte) : Nat :=
  let r := crcBytes w poly refin l init
  (if refout then reflect w r else r) ^^^ xorout

/-- The header and TALLY CRC-16 (R286, R289). -/
def crc16 (l : List Byte) : Nat := crcOf 16 0x1021 0xFFFF false false 0 l

/-- CRC-32C (R289). -/
def crc32c (l : List Byte) : Nat := crcOf 32 0x1EDC6F41 0xFFFFFFFF true true 0xFFFFFFFF l

end Sys2Proof.Machine
end

