-- ==== Sys2Proof/Machine/Map.lean ====
section
/-! DEFINITION. Finite maps from addresses or indices to data, kept as sorted lists in one canonical
form: keys strictly rising and no entry equal to what an unlisted key reads as. Every memory and
every sparse table of the machine is one of these. -/

namespace Sys2Proof.Machine

/-- What key `k` reads as; `d` is what an unlisted key reads as. -/
def mget {α : Type} (d : α) : List (Nat × α) → Nat → α
  | [], _ => d
  | (j, v) :: m, k => if j = k then v else mget d m k

/-- Put an entry before the first greater key. -/
def minsert {α : Type} (k : Nat) (v : α) : List (Nat × α) → List (Nat × α)
  | [] => [(k, v)]
  | (j, w) :: m => if k < j then (k, v) :: (j, w) :: m else (j, w) :: minsert k v m

/-- The list without the entries of key `k`. -/
def merase {α : Type} (k : Nat) : List (Nat × α) → List (Nat × α)
  | [] => []
  | (j, w) :: m => if j = k then merase k m else (j, w) :: merase k m

/-- Write `v` at key `k`: the canonical form is kept, so writing the default removes the entry. -/
def mput {α : Type} [DecidableEq α] (d : α) (m : List (Nat × α)) (k : Nat) (v : α) :
    List (Nat × α) :=
  if v = d then merase k m else minsert k v (merase k m)

/-- Keys strictly rising. -/
def msorted {α : Type} : List (Nat × α) → Bool
  | [] => true
  | [_] => true
  | (j, _) :: (k, w) :: m => decide (j < k) && msorted ((k, w) :: m)

/-- No entry holds the default of its key. -/
def mclean {α : Type} [DecidableEq α] (d : Nat → α) : List (Nat × α) → Bool
  | [] => true
  | (j, v) :: m => decide (v ≠ d j) && mclean d m

/-- The canonical form of a map whose unlisted key `k` reads as `d k`. -/
def mwf {α : Type} [DecidableEq α] (d : Nat → α) (m : List (Nat × α)) : Bool :=
  msorted m && mclean d m

/-- The map brought to its canonical form, as `d` now gives what an unlisted key reads as; nothing reads otherwise. -/
def mnorm {α : Type} [DecidableEq α] (d : Nat → α) (m : List (Nat × α)) : List (Nat × α) :=
  if mwf d m then m else m.foldr (fun x l => mput (d x.1) l x.1 x.2) []

/-- The list with element `i` replaced; unchanged past its end. -/
def lset {α : Type} : List α → Nat → α → List α
  | [], _, _ => []
  | _ :: t, 0, v => v :: t
  | h :: t, n + 1, v => h :: lset t n v

/-- Element `i`, or `d` past the end. -/
def lget {α : Type} (d : α) : List α → Nat → α
  | [], _ => d
  | h :: _, 0 => h
  | _ :: t, n + 1 => lget d t n

end Sys2Proof.Machine
end

