-- ==== Sys2Proof/Machine/RegMap.lean ====
section
/-! DEFINITION. The registers of the unit: their addresses, their fields, and one table of what a
read and a write of each does (R6, R9, R61, R428, R543). Transcribed from the register tables of
R60, R93, R117, R140, R171, R172, R236, R260, R283, R311, R336, R358, R383, R404, R427, R451, R485,
R502 and R528. Names are the manual's. -/

namespace Sys2Proof.Machine

/-- Base of lane `l` = 4q + n: quad base + 0x1000 + n × 0x800 (R93). -/
abbrev laneBase (l : Nat) : Nat := 0x00041000 + (l / 4) * 0x4000 + (l % 4) * 0x800

/-! ### GLB (R451): addresses, then fields -/

abbrev GLB_ID : Nat := 0x0
abbrev GLB_STRAP : Nat := 0x4
abbrev GLB_UNITSN_L : Nat := 0x8
abbrev GLB_UNITSN_H : Nat := 0xC
abbrev GLB_FWVER : Nat := 0x10
abbrev GLB_PACE : Nat := 0x40
abbrev GLB_NDEST (i j : Nat) : Nat := 0x0000_0100 + i * 0x20 + j * 0x4
abbrev GLB_NDEST_W4 (i : Nat) : Nat := 0x0000_0100 + i * 0x20 + 0x10
abbrev GLB_NMASK : Nat := 0x140
abbrev GLB_NSEQ : Nat := 0x150
abbrev GLB_NLOGIDX : Nat := 0x154
abbrev GLB_CTLERR : Nat := 0x180
abbrev GLB_DUPRSP : Nat := 0x188
abbrev GLB_NDROP : Nat := 0x190
abbrev GLB_SVCBAD : Nat := 0x198
abbrev GLB_NLOG (i : Nat) : Nat := 0x1000 + i * 0x4
abbrev GLB_ID_PART : Fld := ⟨GLB_ID, 0, 16⟩
abbrev GLB_ID_STEPPING : Fld := ⟨GLB_ID, 16, 8⟩
abbrev GLB_STRAP_ROLE : Fld := ⟨GLB_STRAP, 0, 1⟩
abbrev GLB_STRAP_BOOTSEL : Fld := ⟨GLB_STRAP, 1, 2⟩
abbrev GLB_STRAP_HEADNUM : Fld := ⟨GLB_STRAP, 3, 6⟩
abbrev GLB_STRAP_NOLAMP : Fld := ⟨GLB_STRAP, 9, 1⟩
abbrev GLB_PACE_PACE : Fld := ⟨GLB_PACE, 0, 16⟩
abbrev GLB_PACE_CREW : Fld := ⟨GLB_PACE, 16, 3⟩
abbrev GLB_PACE_VALID : Fld := ⟨GLB_PACE, 19, 1⟩
abbrev GLB_NDEST_W4_UDP (i : Nat) : Fld := ⟨(GLB_NDEST_W4 i), 0, 16⟩
abbrev GLB_NDEST_W4_PORT (i : Nat) : Fld := ⟨(GLB_NDEST_W4 i), 16, 2⟩
abbrev GLB_NDEST_W4_IPV6 (i : Nat) : Fld := ⟨(GLB_NDEST_W4 i), 18, 1⟩
abbrev GLB_NDEST_W4_EN (i : Nat) : Fld := ⟨(GLB_NDEST_W4 i), 19, 1⟩
abbrev GLB_NSEQ_TAG : Fld := ⟨GLB_NSEQ, 0, 16⟩
abbrev GLB_NLOGIDX_IDX : Fld := ⟨GLB_NLOGIDX, 0, 8⟩
abbrev GLB_NLOGIDX_WRAP : Fld := ⟨GLB_NLOGIDX, 8, 1⟩

/-! ### PWR (R502, R528): addresses, then fields -/

abbrev PWR_CMD : Nat := 0x10000
abbrev PWR_STAT : Nat := 0x10004
abbrev PWR_VCMD : Nat := 0x10008
abbrev PWR_VCFG : Nat := 0x1000C
abbrev PWR_VMEAS : Nat := 0x10010
abbrev PWR_LSDET : Nat := 0x10014
abbrev PWR_TRANS : Nat := 0x10040
abbrev PWR_AUTO : Nat := 0x10048
abbrev PWR_CMD_TARGET : Fld := ⟨PWR_CMD, 0, 3⟩
abbrev PWR_CMD_STAT : Fld := ⟨PWR_CMD, 28, 4⟩
abbrev PWR_STAT_STATE : Fld := ⟨PWR_STAT, 0, 3⟩
abbrev PWR_STAT_TARGET : Fld := ⟨PWR_STAT, 3, 3⟩
abbrev PWR_STAT_TRANS : Fld := ⟨PWR_STAT, 6, 1⟩
abbrev PWR_STAT_HVEN : Fld := ⟨PWR_STAT, 7, 1⟩
abbrev PWR_STAT_REASON : Fld := ⟨PWR_STAT, 8, 4⟩
abbrev PWR_STAT_LASTAUTO : Fld := ⟨PWR_STAT, 12, 4⟩
abbrev PWR_VCMD_MV : Fld := ⟨PWR_VCMD, 0, 10⟩
abbrev PWR_VCMD_STAT : Fld := ⟨PWR_VCMD, 28, 4⟩
abbrev PWR_VCFG_PMADDR : Fld := ⟨PWR_VCFG, 0, 7⟩
abbrev PWR_VCFG_SLEW : Fld := ⟨PWR_VCFG, 8, 8⟩
abbrev PWR_VMEAS_MV : Fld := ⟨PWR_VMEAS, 0, 10⟩
abbrev PWR_LSDET_DONE : Fld := ⟨PWR_LSDET, 0, 1⟩
abbrev PWR_LSDET_VDRVT : Fld := ⟨PWR_LSDET, 1, 1⟩
abbrev PWR_LSDET_VGATET : Fld := ⟨PWR_LSDET, 2, 1⟩
abbrev PWR_LSDET_NOLAMP : Fld := ⟨PWR_LSDET, 3, 1⟩
abbrev PWR_LSDET_VDRVMV : Fld := ⟨PWR_LSDET, 8, 8⟩
abbrev PWR_LSDET_VGATEMV : Fld := ⟨PWR_LSDET, 16, 8⟩

/-! ### TMU (R60): addresses, then fields -/

abbrev TMU_TIME_NS : Nat := 0x20000
abbrev TMU_TIME_SL : Nat := 0x20004
abbrev TMU_TIME_SH : Nat := 0x20008
abbrev TMU_CMD : Nat := 0x2000C
abbrev TMU_SRV_STAT : Nat := 0x20010
abbrev TMU_SRV_OFS : Nat := 0x20014
abbrev TMU_SRV_FREQ : Nat := 0x20018
abbrev TMU_SRV_KP : Nat := 0x2001C
abbrev TMU_SRV_KI : Nat := 0x20020
abbrev TMU_SRV_CFG : Nat := 0x20024
abbrev TMU_PTP_CFG : Nat := 0x20028
abbrev TMU_TSCOR (i : Nat) : Nat := 0x20030 + i * 0x4
abbrev TMU_RATE : Nat := 0x20040
abbrev TMU_RATE_DEN : Nat := 0x20044
abbrev TMU_SLOTS : Nat := 0x20048
abbrev TMU_LAUNCH_L : Nat := 0x20050
abbrev TMU_LAUNCH_H : Nat := 0x20054
abbrev TMU_PEER : Nat := 0x20060
abbrev TMU_PEER_OFS : Nat := 0x20064
abbrev TMU_TIM : Nat := 0x20070
abbrev TMU_TIM_STAT : Nat := 0x20074
abbrev TMU_TIM_LDLY : Nat := 0x20078
abbrev TMU_LQ : Nat := 0x20080
abbrev TMU_LQX : Nat := 0x20088
abbrev TMU_LQFULL : Nat := 0x20090
abbrev TMU_JREF : Nat := 0x20098
abbrev TMU_GMCHG : Nat := 0x200A0
abbrev TMU_LQ_IN0 : Nat := 0x200B0
abbrev TMU_LQ_IN1 : Nat := 0x200B4
abbrev TMU_LQ_IN2 : Nat := 0x200B8
abbrev TMU_LQ_IN3 : Nat := 0x200BC
abbrev TMU_LQ_INS : Nat := 0x200C0
abbrev TMU_LQ_LAST : Nat := 0x200C4
abbrev TMU_GSCLK : Nat := 0x20100
abbrev TMU_PHASE : Nat := 0x20104
abbrev TMU_PPS : Nat := 0x20110
abbrev TMU_PPSIN_NS : Nat := 0x20114
abbrev TMU_PPSIN_SL : Nat := 0x20118
abbrev TMU_MCLK (i : Nat) : Nat := 0x20120 + i * 0x4
abbrev TMU_GSTG_W0 (i : Nat) : Nat := 0x20130 + i * 0x10
abbrev TMU_GSTG_W1 (i : Nat) : Nat := 0x20134 + i * 0x10
abbrev TMU_GSTG_W2 (i : Nat) : Nat := 0x20138 + i * 0x10
abbrev TMU_GSTG_W3 (i : Nat) : Nat := 0x2013C + i * 0x10
abbrev TMU_LQE (i : Nat) : Nat := 0x21000 + i * 0x4
abbrev TMU_TIME_NS_NS : Fld := ⟨TMU_TIME_NS, 0, 30⟩
abbrev TMU_TIME_SH_S : Fld := ⟨TMU_TIME_SH, 0, 16⟩
abbrev TMU_CMD_OP : Fld := ⟨TMU_CMD, 0, 4⟩
abbrev TMU_CMD_ENTRY : Fld := ⟨TMU_CMD, 4, 10⟩
abbrev TMU_CMD_STAT : Fld := ⟨TMU_CMD, 28, 4⟩
abbrev TMU_SRV_STAT_STATE : Fld := ⟨TMU_SRV_STAT, 0, 3⟩
abbrev TMU_SRV_STAT_SRC : Fld := ⟨TMU_SRV_STAT, 3, 2⟩
abbrev TMU_SRV_STAT_SRVSAT : Fld := ⟨TMU_SRV_STAT, 5, 1⟩
abbrev TMU_SRV_STAT_GMCHG : Fld := ⟨TMU_SRV_STAT, 6, 1⟩
abbrev TMU_SRV_STAT_JREF : Fld := ⟨TMU_SRV_STAT, 7, 1⟩
abbrev TMU_SRV_STAT_PEERLOST : Fld := ⟨TMU_SRV_STAT, 8, 1⟩
abbrev TMU_SRV_STAT_PTPDEV : Fld := ⟨TMU_SRV_STAT, 9, 1⟩
abbrev TMU_SRV_STAT_STEPPED : Fld := ⟨TMU_SRV_STAT, 10, 1⟩
abbrev TMU_SRV_STAT_SLEWING : Fld := ⟨TMU_SRV_STAT, 11, 1⟩
abbrev TMU_SRV_STAT_PORT : Fld := ⟨TMU_SRV_STAT, 12, 2⟩
abbrev TMU_SRV_STAT_HELD : Fld := ⟨TMU_SRV_STAT, 14, 1⟩
abbrev TMU_SRV_STAT_GRIDBAD : Fld := ⟨TMU_SRV_STAT, 15, 1⟩
abbrev TMU_SRV_STAT_STEPPEND : Fld := ⟨TMU_SRV_STAT, 16, 1⟩
abbrev TMU_SRV_CFG_JTHR : Fld := ⟨TMU_SRV_CFG, 0, 12⟩
abbrev TMU_SRV_CFG_LTHR : Fld := ⟨TMU_SRV_CFG, 12, 8⟩
abbrev TMU_SRV_CFG_JCNT : Fld := ⟨TMU_SRV_CFG, 20, 5⟩
abbrev TMU_SRV_CFG_GMSKIP : Fld := ⟨TMU_SRV_CFG, 25, 3⟩
abbrev TMU_SRV_CFG_SLEW : Fld := ⟨TMU_SRV_CFG, 28, 4⟩
abbrev TMU_PTP_CFG_DOMAIN : Fld := ⟨TMU_PTP_CFG, 0, 7⟩
abbrev TMU_PTP_CFG_PORTS : Fld := ⟨TMU_PTP_CFG, 7, 4⟩
abbrev TMU_PTP_CFG_IPV6 : Fld := ⟨TMU_PTP_CFG, 11, 1⟩
abbrev TMU_PTP_CFG_DRQUNI : Fld := ⟨TMU_PTP_CFG, 12, 1⟩
abbrev TMU_PTP_CFG_ARTO : Fld := ⟨TMU_PTP_CFG, 16, 4⟩
abbrev TMU_PTP_CFG_DLYAVG : Fld := ⟨TMU_PTP_CFG, 20, 4⟩
abbrev TMU_RATE_NUM : Fld := ⟨TMU_RATE, 0, 20⟩
abbrev TMU_RATE_DEN_DEN : Fld := ⟨TMU_RATE_DEN, 0, 16⟩
abbrev TMU_SLOTS_SLOTS : Fld := ⟨TMU_SLOTS, 0, 4⟩
abbrev TMU_PEER_REFHEAD : Fld := ⟨TMU_PEER, 0, 6⟩
abbrev TMU_PEER_EN : Fld := ⟨TMU_PEER, 6, 1⟩
abbrev TMU_PEER_PORT : Fld := ⟨TMU_PEER, 7, 4⟩
abbrev TMU_PEER_AGREE : Fld := ⟨TMU_PEER, 11, 10⟩
abbrev TMU_TIM_PER : Fld := ⟨TMU_TIM, 0, 4⟩
abbrev TMU_TIM_PDLY : Fld := ⟨TMU_TIM, 4, 4⟩
abbrev TMU_TIM_PORTEN : Fld := ⟨TMU_TIM, 8, 16⟩
abbrev TMU_TIM_STAT_HOPS : Fld := ⟨TMU_TIM_STAT, 0, 6⟩
abbrev TMU_TIM_STAT_HEADSTATE : Fld := ⟨TMU_TIM_STAT, 6, 3⟩
abbrev TMU_TIM_STAT_STEPPEND : Fld := ⟨TMU_TIM_STAT, 9, 1⟩
abbrev TMU_TIM_LDLY_LDLY : Fld := ⟨TMU_TIM_LDLY, 0, 24⟩
abbrev TMU_LQ_INS_SLOT : Fld := ⟨TMU_LQ_INS, 0, 8⟩
abbrev TMU_LQ_INS_QUEUE : Fld := ⟨TMU_LQ_INS, 8, 2⟩
abbrev TMU_LQ_INS_STATE : Fld := ⟨TMU_LQ_INS, 10, 3⟩
abbrev TMU_LQ_INS_PEND : Fld := ⟨TMU_LQ_INS, 16, 9⟩
abbrev TMU_LQ_LAST_LATENS : Fld := ⟨TMU_LQ_LAST, 0, 30⟩
abbrev TMU_LQ_LAST_QUEUE : Fld := ⟨TMU_LQ_LAST, 30, 2⟩
abbrev TMU_GSCLK_CYC : Fld := ⟨TMU_GSCLK, 0, 24⟩
abbrev TMU_PHASE_P : Fld := ⟨TMU_PHASE, 0, 24⟩
abbrev TMU_PPS_EN : Fld := ⟨TMU_PPS, 0, 1⟩
abbrev TMU_PPS_WIDTH : Fld := ⟨TMU_PPS, 8, 8⟩
abbrev TMU_PPSIN_NS_NS : Fld := ⟨TMU_PPSIN_NS, 0, 30⟩
abbrev TMU_MCLK_FS (i : Nat) : Fld := ⟨(TMU_MCLK i), 0, 3⟩
abbrev TMU_MCLK_X256 (i : Nat) : Fld := ⟨(TMU_MCLK i), 3, 1⟩
abbrev TMU_GSTG_W0_NUM (i : Nat) : Fld := ⟨(TMU_GSTG_W0 i), 0, 20⟩
abbrev TMU_GSTG_W0_VALID (i : Nat) : Fld := ⟨(TMU_GSTG_W0 i), 31, 1⟩
abbrev TMU_GSTG_W1_DEN (i : Nat) : Fld := ⟨(TMU_GSTG_W1 i), 0, 16⟩
abbrev TMU_GSTG_W2_SLOTS (i : Nat) : Fld := ⟨(TMU_GSTG_W2 i), 0, 4⟩
abbrev TMU_GSTG_W3_CYC (i : Nat) : Fld := ⟨(TMU_GSTG_W3 i), 0, 24⟩

/-! ### LNK (R93): addresses, then fields -/

abbrev LNK_QCFG (i : Nat) : Nat := 0x0004_0000 + i * 0x4000
abbrev LNK_QSTAT (i : Nat) : Nat := 0x0004_0000 + i * 0x4000 + 0x4
abbrev LNK_LCFG (i : Nat) : Nat := laneBase i
abbrev LNK_LCMD (i : Nat) : Nat := laneBase i + 0x4
abbrev LNK_LSTAT (i : Nat) : Nat := laneBase i + 0x8
abbrev LNK_CID (i : Nat) : Nat := laneBase i + 0xC
abbrev LNK_CAL (i : Nat) : Nat := laneBase i + 0x10
abbrev LNK_EYE (i : Nat) : Nat := laneBase i + 0x14
abbrev LNK_TXEQ (i : Nat) : Nat := laneBase i + 0x18
abbrev LNK_RXEQ (i : Nat) : Nat := laneBase i + 0x1C
abbrev LNK_PRBS (i : Nat) : Nat := laneBase i + 0x20
abbrev LNK_PRBSERR (i : Nat) : Nat := laneBase i + 0x40
abbrev LNK_FECCOR (i : Nat) : Nat := laneBase i + 0x48
abbrev LNK_FECUNC (i : Nat) : Nat := laneBase i + 0x50
abbrev LNK_SYMERR (i : Nat) : Nat := laneBase i + 0x58
abbrev LNK_BIPERR (i : Nat) : Nat := laneBase i + 0x60
abbrev LNK_LOSS (i : Nat) : Nat := laneBase i + 0x68
abbrev LNK_CALRUN (i : Nat) : Nat := laneBase i + 0x70
abbrev LNK_FXFAIL (i : Nat) : Nat := laneBase i + 0x78
abbrev LNK_DIRFAIL (i : Nat) : Nat := laneBase i + 0x80
abbrev LNK_QCFG_MODE (i : Nat) : Fld := ⟨(LNK_QCFG i), 0, 2⟩
abbrev LNK_QCFG_ETHW (i : Nat) : Fld := ⟨(LNK_QCFG i), 2, 2⟩
abbrev LNK_QSTAT_PLLLOCK (i : Nat) : Fld := ⟨(LNK_QSTAT i), 0, 1⟩
abbrev LNK_QSTAT_REFOK (i : Nat) : Fld := ⟨(LNK_QSTAT i), 1, 1⟩
abbrev LNK_QSTAT_FWOK (i : Nat) : Fld := ⟨(LNK_QSTAT i), 2, 1⟩
abbrev LNK_QSTAT_UNPWR (i : Nat) : Fld := ⟨(LNK_QSTAT i), 3, 1⟩
abbrev LNK_QSTAT_TEMP (i : Nat) : Fld := ⟨(LNK_QSTAT i), 16, 16⟩
abbrev LNK_LCFG_EN (i : Nat) : Fld := ⟨(LNK_LCFG i), 0, 1⟩
abbrev LNK_LCFG_PORT (i : Nat) : Fld := ⟨(LNK_LCFG i), 1, 4⟩
abbrev LNK_LCFG_WIDTH (i : Nat) : Fld := ⟨(LNK_LCFG i), 5, 2⟩
abbrev LNK_LCFG_MAXRATE (i : Nat) : Fld := ⟨(LNK_LCFG i), 7, 2⟩
abbrev LNK_LCFG_FORCESTEP (i : Nat) : Fld := ⟨(LNK_LCFG i), 9, 1⟩
abbrev LNK_LCFG_TXINV (i : Nat) : Fld := ⟨(LNK_LCFG i), 10, 1⟩
abbrev LNK_LCFG_RXINV (i : Nat) : Fld := ⟨(LNK_LCFG i), 11, 1⟩
abbrev LNK_LCMD_OP (i : Nat) : Fld := ⟨(LNK_LCMD i), 0, 4⟩
abbrev LNK_LCMD_STAT (i : Nat) : Fld := ⟨(LNK_LCMD i), 28, 4⟩
abbrev LNK_LSTAT_STATE (i : Nat) : Fld := ⟨(LNK_LSTAT i), 0, 4⟩
abbrev LNK_LSTAT_RATE (i : Nat) : Fld := ⟨(LNK_LSTAT i), 4, 2⟩
abbrev LNK_LSTAT_DIRECT (i : Nat) : Fld := ⟨(LNK_LSTAT i), 6, 1⟩
abbrev LNK_LSTAT_CAPPED (i : Nat) : Fld := ⟨(LNK_LSTAT i), 7, 1⟩
abbrev LNK_LSTAT_SKEW (i : Nat) : Fld := ⟨(LNK_LSTAT i), 8, 1⟩
abbrev LNK_LSTAT_EYELOW (i : Nat) : Fld := ⟨(LNK_LSTAT i), 9, 1⟩
abbrev LNK_LSTAT_CALSTARVE (i : Nat) : Fld := ⟨(LNK_LSTAT i), 10, 1⟩
abbrev LNK_LSTAT_CALPEND (i : Nat) : Fld := ⟨(LNK_LSTAT i), 11, 1⟩
abbrev LNK_LSTAT_LLANE (i : Nat) : Fld := ⟨(LNK_LSTAT i), 12, 2⟩
abbrev LNK_LSTAT_BRFAIL (i : Nat) : Fld := ⟨(LNK_LSTAT i), 14, 1⟩
abbrev LNK_LSTAT_DSKEW (i : Nat) : Fld := ⟨(LNK_LSTAT i), 16, 8⟩
abbrev LNK_CID_CLASS (i : Nat) : Fld := ⟨(LNK_CID i), 0, 3⟩
abbrev LNK_CID_LEN (i : Nat) : Fld := ⟨(LNK_CID i), 3, 9⟩
abbrev LNK_CAL_MODE (i : Nat) : Fld := ⟨(LNK_CAL i), 0, 1⟩
abbrev LNK_CAL_DT (i : Nat) : Fld := ⟨(LNK_CAL i), 1, 7⟩
abbrev LNK_CAL_LASTT (i : Nat) : Fld := ⟨(LNK_CAL i), 8, 8⟩
abbrev LNK_CAL_WAITMAX (i : Nat) : Fld := ⟨(LNK_CAL i), 16, 8⟩
abbrev LNK_EYE_WIDTH (i : Nat) : Fld := ⟨(LNK_EYE i), 0, 10⟩
abbrev LNK_EYE_HEIGHT (i : Nat) : Fld := ⟨(LNK_EYE i), 10, 10⟩
abbrev LNK_EYE_STALE (i : Nat) : Fld := ⟨(LNK_EYE i), 20, 1⟩
abbrev LNK_PRBS_PAT (i : Nat) : Fld := ⟨(LNK_PRBS i), 0, 4⟩
abbrev LNK_PRBS_TXEN (i : Nat) : Fld := ⟨(LNK_PRBS i), 4, 1⟩
abbrev LNK_PRBS_RXEN (i : Nat) : Fld := ⟨(LNK_PRBS i), 5, 1⟩
abbrev LNK_PRBS_SYNC (i : Nat) : Fld := ⟨(LNK_PRBS i), 6, 1⟩

/-! ### ETH (R117): addresses, then fields -/

abbrev ETH_PORT_CFG (i : Nat) : Nat := 0x0008_0000 + i * 0x400
abbrev ETH_PORT_STAT (i : Nat) : Nat := 0x0008_0000 + i * 0x400 + 0x4
abbrev ETH_PORT_MACL (i : Nat) : Nat := 0x0008_0000 + i * 0x400 + 0x8
abbrev ETH_PORT_MACH (i : Nat) : Nat := 0x0008_0000 + i * 0x400 + 0xC
abbrev ETH_PORT_IP4 (i : Nat) : Nat := 0x0008_0000 + i * 0x400 + 0x10
abbrev ETH_PORT_IP6 (i j : Nat) : Nat := 0x0008_0000 + i * 0x400 + 0x20 + j * 0x4
abbrev ETH_RXFRM (i : Nat) : Nat := 0x0008_0000 + i * 0x400 + 0x100
abbrev ETH_RXFCS (i : Nat) : Nat := 0x0008_0000 + i * 0x400 + 0x108
abbrev ETH_RXDROP (i : Nat) : Nat := 0x0008_0000 + i * 0x400 + 0x110
abbrev ETH_RXUNM (i : Nat) : Nat := 0x0008_0000 + i * 0x400 + 0x118
abbrev ETH_TXFRM (i : Nat) : Nat := 0x0008_0000 + i * 0x400 + 0x120
abbrev ETH_CTLRX (i : Nat) : Nat := 0x0008_0000 + i * 0x400 + 0x128
abbrev ETH_AUTHFAIL (i : Nat) : Nat := 0x0008_0000 + i * 0x400 + 0x130
abbrev ETH_REPLAY (i : Nat) : Nat := 0x0008_0000 + i * 0x400 + 0x138
abbrev ETH_FLOW_CFG (i : Nat) : Nat := 0x0008_1000 + i * 0x100
abbrev ETH_FLOW_FMT (i : Nat) : Nat := 0x0008_1000 + i * 0x100 + 0x4
abbrev ETH_FLOW_SIZE (i : Nat) : Nat := 0x0008_1000 + i * 0x100 + 0x8
abbrev ETH_FLOW_CMD (i : Nat) : Nat := 0x0008_1000 + i * 0x100 + 0xC
abbrev ETH_FLOW_STAT (i : Nat) : Nat := 0x0008_1000 + i * 0x100 + 0x10
abbrev ETH_FLOW_FTIME (i : Nat) : Nat := 0x0008_1000 + i * 0x100 + 0x14
abbrev ETH_FLOW_UDP (i : Nat) : Nat := 0x0008_1000 + i * 0x100 + 0x18
abbrev ETH_FLOW_RTP (i : Nat) : Nat := 0x0008_1000 + i * 0x100 + 0x1C
abbrev ETH_FLOW_SSRC (i : Nat) : Nat := 0x0008_1000 + i * 0x100 + 0x20
abbrev ETH_FLOW_DSTA (i j : Nat) : Nat := 0x0008_1000 + i * 0x100 + 0x30 + j * 0x4
abbrev ETH_FLOW_DSTB (i j : Nat) : Nat := 0x0008_1000 + i * 0x100 + 0x40 + j * 0x4
abbrev ETH_FLOW_SRCA (i j : Nat) : Nat := 0x0008_1000 + i * 0x100 + 0x50 + j * 0x4
abbrev ETH_FLOW_SRCB (i j : Nat) : Nat := 0x0008_1000 + i * 0x100 + 0x60 + j * 0x4
abbrev ETH_FLOW_BUF (i j : Nat) : Nat := 0x0008_1000 + i * 0x100 + 0x70 + j * 0x4
abbrev ETH_FLOW_RXA (i : Nat) : Nat := 0x0008_1000 + i * 0x100 + 0x80
abbrev ETH_FLOW_RXB (i : Nat) : Nat := 0x0008_1000 + i * 0x100 + 0x88
abbrev ETH_FLOW_DUP (i : Nat) : Nat := 0x0008_1000 + i * 0x100 + 0x90
abbrev ETH_FLOW_LATE (i : Nat) : Nat := 0x0008_1000 + i * 0x100 + 0x98
abbrev ETH_FLOW_LOST (i : Nat) : Nat := 0x0008_1000 + i * 0x100 + 0xA0
abbrev ETH_FLOW_HDRERR (i : Nat) : Nat := 0x0008_1000 + i * 0x100 + 0xA8
abbrev ETH_FLOW_FRMOK (i : Nat) : Nat := 0x0008_1000 + i * 0x100 + 0xB0
abbrev ETH_FLOW_FRMINC (i : Nat) : Nat := 0x0008_1000 + i * 0x100 + 0xB8
abbrev ETH_FLOW_SKIP (i : Nat) : Nat := 0x0008_1000 + i * 0x100 + 0xC0
abbrev ETH_FLOW_CMAXEX (i : Nat) : Nat := 0x0008_1000 + i * 0x100 + 0xC8
abbrev ETH_FLOW_VRXOV (i : Nat) : Nat := 0x0008_1000 + i * 0x100 + 0xD0
abbrev ETH_STILL_CFG (i : Nat) : Nat := 0x0008_2000 + i * 0x20
abbrev ETH_STILL_FMT (i : Nat) : Nat := 0x0008_2000 + i * 0x20 + 0x4
abbrev ETH_STILL_SIZE (i : Nat) : Nat := 0x0008_2000 + i * 0x20 + 0x8
abbrev ETH_STILL_FENCE (i : Nat) : Nat := 0x0008_2000 + i * 0x20 + 0xC
abbrev ETH_STILL_STAT (i : Nat) : Nat := 0x0008_2000 + i * 0x20 + 0x10
abbrev ETH_STILL_BUF (i j : Nat) : Nat := 0x0008_2000 + i * 0x20 + 0x14 + j * 0x4
abbrev ETH_MON_CFG : Nat := 0x83000
abbrev ETH_MON_SIZE : Nat := 0x83004
abbrev ETH_MON_TIMING : Nat := 0x83008
abbrev ETH_MON_WIN (i : Nat) : Nat := 0x8300C + i * 0x4
abbrev ETH_MON_WINA (i : Nat) : Nat := 0x83018 + i * 0x4
abbrev ETH_MON_LINE : Nat := 0x83024
abbrev ETH_MON_CMD : Nat := 0x83028
abbrev ETH_MON_EVT : Nat := 0x8302C
abbrev ETH_MON_IE : Nat := 0x83030
abbrev ETH_MON_STAT : Nat := 0x83034
abbrev ETH_MON_DSTA (i : Nat) : Nat := 0x83040 + i * 0x4
abbrev ETH_MON_DSTB (i : Nat) : Nat := 0x83050 + i * 0x4
abbrev ETH_MON_UDP : Nat := 0x83060
abbrev ETH_MON_RTP : Nat := 0x83064
abbrev ETH_MON_SSRC : Nat := 0x83068
abbrev ETH_MON_FRM : Nat := 0x83080
abbrev ETH_MON_UNDER : Nat := 0x83088
abbrev ETH_AUTH : Nat := 0x83800
abbrev ETH_AUTH_KIDA : Nat := 0x83804
abbrev ETH_AUTH_KIDB : Nat := 0x83808
abbrev ETH_AUTH_EP (i : Nat) : Nat := 0x83900 + i * 0x4
abbrev ETH_PORT_CFG_EN (i : Nat) : Fld := ⟨(ETH_PORT_CFG i), 0, 1⟩
abbrev ETH_PORT_CFG_VLAN (i : Nat) : Fld := ⟨(ETH_PORT_CFG i), 1, 1⟩
abbrev ETH_PORT_CFG_VID (i : Nat) : Fld := ⟨(ETH_PORT_CFG i), 2, 12⟩
abbrev ETH_PORT_STAT_ACTIVE (i : Nat) : Fld := ⟨(ETH_PORT_STAT i), 0, 1⟩
abbrev ETH_PORT_STAT_WIDTH (i : Nat) : Fld := ⟨(ETH_PORT_STAT i), 1, 2⟩
abbrev ETH_PORT_STAT_TXWAIT (i : Nat) : Fld := ⟨(ETH_PORT_STAT i), 3, 1⟩
abbrev ETH_PORT_MACH_MAC (i : Nat) : Fld := ⟨(ETH_PORT_MACH i), 0, 16⟩
abbrev ETH_FLOW_CFG_PORTA (i : Nat) : Fld := ⟨(ETH_FLOW_CFG i), 0, 2⟩
abbrev ETH_FLOW_CFG_PORTB (i : Nat) : Fld := ⟨(ETH_FLOW_CFG i), 2, 2⟩
abbrev ETH_FLOW_CFG_DUAL (i : Nat) : Fld := ⟨(ETH_FLOW_CFG i), 4, 1⟩
abbrev ETH_FLOW_CFG_IPV6 (i : Nat) : Fld := ⟨(ETH_FLOW_CFG i), 5, 1⟩
abbrev ETH_FLOW_CFG_NBUF (i : Nat) : Fld := ⟨(ETH_FLOW_CFG i), 6, 1⟩
abbrev ETH_FLOW_CFG_SKEW (i : Nat) : Fld := ⟨(ETH_FLOW_CFG i), 7, 7⟩
abbrev ETH_FLOW_CFG_RXT (i : Nat) : Fld := ⟨(ETH_FLOW_CFG i), 14, 1⟩
abbrev ETH_FLOW_CFG_FENCEINC (i : Nat) : Fld := ⟨(ETH_FLOW_CFG i), 15, 1⟩
abbrev ETH_FLOW_FMT_SAMP (i : Nat) : Fld := ⟨(ETH_FLOW_FMT i), 0, 2⟩
abbrev ETH_FLOW_FMT_DEPTH (i : Nat) : Fld := ⟨(ETH_FLOW_FMT i), 2, 2⟩
abbrev ETH_FLOW_FMT_PACK (i : Nat) : Fld := ⟨(ETH_FLOW_FMT i), 4, 1⟩
abbrev ETH_FLOW_FMT_COLR (i : Nat) : Fld := ⟨(ETH_FLOW_FMT i), 5, 1⟩
abbrev ETH_FLOW_FMT_TF (i : Nat) : Fld := ⟨(ETH_FLOW_FMT i), 6, 2⟩
abbrev ETH_FLOW_FMT_FULL (i : Nat) : Fld := ⟨(ETH_FLOW_FMT i), 8, 1⟩
abbrev ETH_FLOW_SIZE_W (i : Nat) : Fld := ⟨(ETH_FLOW_SIZE i), 0, 16⟩
abbrev ETH_FLOW_SIZE_H (i : Nat) : Fld := ⟨(ETH_FLOW_SIZE i), 16, 16⟩
abbrev ETH_FLOW_CMD_OP (i : Nat) : Fld := ⟨(ETH_FLOW_CMD i), 0, 4⟩
abbrev ETH_FLOW_CMD_STAT (i : Nat) : Fld := ⟨(ETH_FLOW_CMD i), 28, 4⟩
abbrev ETH_FLOW_STAT_STATE (i : Nat) : Fld := ⟨(ETH_FLOW_STAT i), 0, 2⟩
abbrev ETH_FLOW_STAT_REASON (i : Nat) : Fld := ⟨(ETH_FLOW_STAT i), 2, 3⟩
abbrev ETH_FLOW_STAT_INUSE (i : Nat) : Fld := ⟨(ETH_FLOW_STAT i), 5, 2⟩
abbrev ETH_FLOW_STAT_READY (i : Nat) : Fld := ⟨(ETH_FLOW_STAT i), 7, 2⟩
abbrev ETH_FLOW_STAT_READYOK (i : Nat) : Fld := ⟨(ETH_FLOW_STAT i), 9, 1⟩
abbrev ETH_FLOW_STAT_WRITE (i : Nat) : Fld := ⟨(ETH_FLOW_STAT i), 10, 2⟩
abbrev ETH_FLOW_STAT_FRAME (i : Nat) : Fld := ⟨(ETH_FLOW_STAT i), 12, 1⟩
abbrev ETH_FLOW_FTIME_NS (i : Nat) : Fld := ⟨(ETH_FLOW_FTIME i), 0, 30⟩
abbrev ETH_FLOW_UDP_A (i : Nat) : Fld := ⟨(ETH_FLOW_UDP i), 0, 16⟩
abbrev ETH_FLOW_UDP_B (i : Nat) : Fld := ⟨(ETH_FLOW_UDP i), 16, 16⟩
abbrev ETH_FLOW_RTP_PT (i : Nat) : Fld := ⟨(ETH_FLOW_RTP i), 0, 7⟩
abbrev ETH_FLOW_RTP_SSRCCHK (i : Nat) : Fld := ⟨(ETH_FLOW_RTP i), 7, 1⟩
abbrev ETH_STILL_CFG_EN (i : Nat) : Fld := ⟨(ETH_STILL_CFG i), 0, 1⟩
abbrev ETH_STILL_FMT_SAMP (i : Nat) : Fld := ⟨(ETH_STILL_FMT i), 0, 2⟩
abbrev ETH_STILL_FMT_DEPTH (i : Nat) : Fld := ⟨(ETH_STILL_FMT i), 2, 2⟩
abbrev ETH_STILL_FMT_PACK (i : Nat) : Fld := ⟨(ETH_STILL_FMT i), 4, 1⟩
abbrev ETH_STILL_FMT_COLR (i : Nat) : Fld := ⟨(ETH_STILL_FMT i), 5, 1⟩
abbrev ETH_STILL_FMT_TF (i : Nat) : Fld := ⟨(ETH_STILL_FMT i), 6, 2⟩
abbrev ETH_STILL_FMT_FULL (i : Nat) : Fld := ⟨(ETH_STILL_FMT i), 8, 1⟩
abbrev ETH_STILL_SIZE_W (i : Nat) : Fld := ⟨(ETH_STILL_SIZE i), 0, 16⟩
abbrev ETH_STILL_SIZE_H (i : Nat) : Fld := ⟨(ETH_STILL_SIZE i), 16, 16⟩
abbrev ETH_STILL_FENCE_BUF (i : Nat) : Fld := ⟨(ETH_STILL_FENCE i), 0, 1⟩
abbrev ETH_STILL_FENCE_TOKEN (i : Nat) : Fld := ⟨(ETH_STILL_FENCE i), 1, 16⟩
abbrev ETH_STILL_FENCE_STAT (i : Nat) : Fld := ⟨(ETH_STILL_FENCE i), 28, 4⟩
abbrev ETH_STILL_STAT_INUSE (i : Nat) : Fld := ⟨(ETH_STILL_STAT i), 0, 1⟩
abbrev ETH_STILL_STAT_READYOK (i : Nat) : Fld := ⟨(ETH_STILL_STAT i), 1, 1⟩
abbrev ETH_STILL_STAT_FREE (i : Nat) : Fld := ⟨(ETH_STILL_STAT i), 2, 1⟩
abbrev ETH_STILL_STAT_FREEOK (i : Nat) : Fld := ⟨(ETH_STILL_STAT i), 3, 1⟩
abbrev ETH_STILL_STAT_TOKEN (i : Nat) : Fld := ⟨(ETH_STILL_STAT i), 16, 16⟩
abbrev ETH_MON_CFG_PORTA : Fld := ⟨ETH_MON_CFG, 0, 2⟩
abbrev ETH_MON_CFG_PORTB : Fld := ⟨ETH_MON_CFG, 2, 2⟩
abbrev ETH_MON_CFG_CLONE : Fld := ⟨ETH_MON_CFG, 4, 1⟩
abbrev ETH_MON_CFG_SAMP : Fld := ⟨ETH_MON_CFG, 5, 1⟩
abbrev ETH_MON_CFG_COLR : Fld := ⟨ETH_MON_CFG, 6, 1⟩
abbrev ETH_MON_CFG_TF : Fld := ⟨ETH_MON_CFG, 7, 2⟩
abbrev ETH_MON_CFG_DIV : Fld := ⟨ETH_MON_CFG, 9, 2⟩
abbrev ETH_MON_CFG_SLOT : Fld := ⟨ETH_MON_CFG, 11, 3⟩
abbrev ETH_MON_CFG_IPV6 : Fld := ⟨ETH_MON_CFG, 14, 1⟩
abbrev ETH_MON_SIZE_W : Fld := ⟨ETH_MON_SIZE, 0, 12⟩
abbrev ETH_MON_SIZE_H : Fld := ⟨ETH_MON_SIZE, 16, 12⟩
abbrev ETH_MON_TIMING_TOTLINES : Fld := ⟨ETH_MON_TIMING, 0, 12⟩
abbrev ETH_MON_TIMING_PPL : Fld := ⟨ETH_MON_TIMING, 12, 4⟩
abbrev ETH_MON_TIMING_TROFF : Fld := ⟨ETH_MON_TIMING, 16, 16⟩
abbrev ETH_MON_LINE_MATCH : Fld := ⟨ETH_MON_LINE, 0, 12⟩
abbrev ETH_MON_LINE_APPLY : Fld := ⟨ETH_MON_LINE, 16, 12⟩
abbrev ETH_MON_CMD_OP : Fld := ⟨ETH_MON_CMD, 0, 4⟩
abbrev ETH_MON_CMD_STAT : Fld := ⟨ETH_MON_CMD, 28, 4⟩
abbrev ETH_MON_EVT_SOF : Fld := ⟨ETH_MON_EVT, 0, 1⟩
abbrev ETH_MON_EVT_LINE : Fld := ⟨ETH_MON_EVT, 1, 1⟩
abbrev ETH_MON_EVT_APPLY : Fld := ⟨ETH_MON_EVT, 2, 1⟩
abbrev ETH_MON_EVT_DONE : Fld := ⟨ETH_MON_EVT, 3, 1⟩
abbrev ETH_MON_EVT_UNDER : Fld := ⟨ETH_MON_EVT, 4, 1⟩
abbrev ETH_MON_IE_SOF : Fld := ⟨ETH_MON_IE, 0, 1⟩
abbrev ETH_MON_IE_LINE : Fld := ⟨ETH_MON_IE, 1, 1⟩
abbrev ETH_MON_IE_APPLY : Fld := ⟨ETH_MON_IE, 2, 1⟩
abbrev ETH_MON_IE_DONE : Fld := ⟨ETH_MON_IE, 3, 1⟩
abbrev ETH_MON_IE_UNDER : Fld := ⟨ETH_MON_IE, 4, 1⟩
abbrev ETH_MON_STAT_STATE : Fld := ⟨ETH_MON_STAT, 0, 2⟩
abbrev ETH_MON_STAT_ARMED : Fld := ⟨ETH_MON_STAT, 2, 1⟩
abbrev ETH_MON_STAT_LINE : Fld := ⟨ETH_MON_STAT, 3, 12⟩
abbrev ETH_MON_STAT_STORE : Fld := ⟨ETH_MON_STAT, 15, 1⟩
abbrev ETH_MON_UDP_A : Fld := ⟨ETH_MON_UDP, 0, 16⟩
abbrev ETH_MON_UDP_B : Fld := ⟨ETH_MON_UDP, 16, 16⟩
abbrev ETH_MON_RTP_PT : Fld := ⟨ETH_MON_RTP, 0, 7⟩
abbrev ETH_AUTH_KEYA : Fld := ⟨ETH_AUTH, 0, 1⟩
abbrev ETH_AUTH_KEYB : Fld := ⟨ETH_AUTH, 1, 1⟩
abbrev ETH_AUTH_EPFULL : Fld := ⟨ETH_AUTH, 2, 1⟩
abbrev ETH_AUTH_CTLPORT : Fld := ⟨ETH_AUTH, 16, 16⟩
abbrev ETH_AUTH_KIDA_KID : Fld := ⟨ETH_AUTH_KIDA, 0, 16⟩
abbrev ETH_AUTH_KIDA_FP : Fld := ⟨ETH_AUTH_KIDA, 16, 16⟩
abbrev ETH_AUTH_KIDB_KID : Fld := ⟨ETH_AUTH_KIDB, 0, 16⟩
abbrev ETH_AUTH_KIDB_FP : Fld := ⟨ETH_AUTH_KIDB, 16, 16⟩

/-! ### SKD (R311, R336): addresses, then fields -/

abbrev SKD_CFG : Nat := 0xC0000
abbrev SKD_ADDR : Nat := 0xC0004
abbrev SKD_RXRING : Nat := 0xC0008
abbrev SKD_RXIDX : Nat := 0xC000C
abbrev SKD_PORT_CFG (i : Nat) : Nat := 0x000C_1000 + i * 0x400
abbrev SKD_PORT_STAT (i : Nat) : Nat := 0x000C_1000 + i * 0x400 + 0x4
abbrev SKD_PORT_CRED (i : Nat) : Nat := 0x000C_1000 + i * 0x400 + 0x8
abbrev SKD_PORT_FAR (i : Nat) : Nat := 0x000C_1000 + i * 0x400 + 0xC
abbrev SKD_PORT_DISC (i : Nat) : Nat := 0x000C_1000 + i * 0x400 + 0x10
abbrev SKD_RXF (i : Nat) : Nat := 0x000C_1000 + i * 0x400 + 0x100
abbrev SKD_TXF (i : Nat) : Nat := 0x000C_1000 + i * 0x400 + 0x108
abbrev SKD_FWD (i : Nat) : Nat := 0x000C_1000 + i * 0x400 + 0x110
abbrev SKD_HCRC (i : Nat) : Nat := 0x000C_1000 + i * 0x400 + 0x118
abbrev SKD_TCRC (i : Nat) : Nat := 0x000C_1000 + i * 0x400 + 0x120
abbrev SKD_STOMP (i : Nat) : Nat := 0x000C_1000 + i * 0x400 + 0x128
abbrev SKD_ABORT (i : Nat) : Nat := 0x000C_1000 + i * 0x400 + 0x130
abbrev SKD_TRUNC (i : Nat) : Nat := 0x000C_1000 + i * 0x400 + 0x138
abbrev SKD_BADHDR (i : Nat) : Nat := 0x000C_1000 + i * 0x400 + 0x140
abbrev SKD_LENERR (i : Nat) : Nat := 0x000C_1000 + i * 0x400 + 0x148
abbrev SKD_BADUNIT (i : Nat) : Nat := 0x000C_1000 + i * 0x400 + 0x150
abbrev SKD_TALLYERR (i : Nat) : Nat := 0x000C_1000 + i * 0x400 + 0x158
abbrev SKD_ALVSKIP (i : Nat) : Nat := 0x000C_1000 + i * 0x400 + 0x160
abbrev SKD_ALVREP (i : Nat) : Nat := 0x000C_1000 + i * 0x400 + 0x168
abbrev SKD_FILL (i : Nat) : Nat := 0x000C_1000 + i * 0x400 + 0x170
abbrev SKD_CREDWAIT (i : Nat) : Nat := 0x000C_1000 + i * 0x400 + 0x178
abbrev SKD_TXDROP (i : Nat) : Nat := 0x000C_1000 + i * 0x400 + 0x180
abbrev SKD_MISROUTE (i : Nat) : Nat := 0x000C_1000 + i * 0x400 + 0x188
abbrev SKD_HOLD (i : Nat) : Nat := 0x000C_1000 + i * 0x400 + 0x190
abbrev SKD_DUPSLICE (i : Nat) : Nat := 0x000C_1000 + i * 0x400 + 0x198
abbrev SKD_HEAD : Nat := 0xC6000
abbrev SKD_ENUM : Nat := 0xC6004
abbrev SKD_ENUM_ID : Nat := 0xC6008
abbrev SKD_CH_ROLE : Nat := 0xC600C
abbrev SKD_CH_TWIN : Nat := 0xC6010
abbrev SKD_CH_CFG : Nat := 0xC6014
abbrev SKD_TILE_STAT : Nat := 0xC6018
abbrev SKD_CH_STAT (i : Nat) : Nat := 0xC6040 + i * 0x4
abbrev SKD_RING (i : Nat) : Nat := 0xC6080 + i * 0x4
abbrev SKD_CH_REVDISC : Nat := 0xC6100
abbrev SKD_CH_SWAPS : Nat := 0xC6108
abbrev SKD_CH_LATERSP : Nat := 0xC6110
abbrev SKD_WC_REVERTS : Nat := 0xC6118
abbrev SKD_WC_CFG : Nat := 0xC7000
abbrev SKD_WC_ARMT : Nat := 0xC7004
abbrev SKD_WC_T0 : Nat := 0xC7008
abbrev SKD_WC_T1 : Nat := 0xC700C
abbrev SKD_WC_T2 : Nat := 0xC7010
abbrev SKD_WC_CMD : Nat := 0xC7014
abbrev SKD_WC_STAT : Nat := 0xC7018
abbrev SKD_WC_CNT : Nat := 0xC701C
abbrev SKD_WC_NFAIL : Nat := 0xC7020
abbrev SKD_WC_HEADS (i : Nat) : Nat := 0xC7024 + i * 0x4
abbrev SKD_WC_PAR (i : Nat) : Nat := 0xC7040 + i * 0x4
abbrev SKD_WC_LIST (i : Nat) : Nat := 0xC7080 + i * 0x4
abbrev SKD_WC_FAIL (i : Nat) : Nat := 0xC7100 + i * 0x4
abbrev SKD_WC_UNIT_W0 (i : Nat) : Nat := 0xC7200 + i * 0x10
abbrev SKD_WC_UNIT_W1 (i : Nat) : Nat := 0xC7204 + i * 0x10
abbrev SKD_WC_UNIT_W2 (i : Nat) : Nat := 0xC7208 + i * 0x10
abbrev SKD_WC_UNIT_W3 (i : Nat) : Nat := 0xC720C + i * 0x10
abbrev SKD_IMG_CFG : Nat := 0xC7400
abbrev SKD_IMG_ID : Nat := 0xC7404
abbrev SKD_IMG_SRC : Nat := 0xC7408
abbrev SKD_IMG_LEN : Nat := 0xC740C
abbrev SKD_IMG_PORTS : Nat := 0xC7410
abbrev SKD_IMG_CMD : Nat := 0xC7414
abbrev SKD_IMG_STAT : Nat := 0xC7418
abbrev SKD_IMG_INC : Nat := 0xC741C
abbrev SKD_CT_W0 (i : Nat) : Nat := 0xC8000 + i * 0x20
abbrev SKD_CT_SNL (i : Nat) : Nat := 0xC8004 + i * 0x20
abbrev SKD_CT_SNH (i : Nat) : Nat := 0xC8008 + i * 0x20
abbrev SKD_CT_LBSNL (i : Nat) : Nat := 0xC800C + i * 0x20
abbrev SKD_CT_LBSNH (i : Nat) : Nat := 0xC8010 + i * 0x20
abbrev SKD_CT_FWVER (i : Nat) : Nat := 0xC8014 + i * 0x20
abbrev SKD_CT_LINKS (i : Nat) : Nat := 0xC8018 + i * 0x20
abbrev SKD_CT_W7 (i : Nat) : Nat := 0xC801C + i * 0x20
abbrev SKD_CFG_RXNBUF : Fld := ⟨SKD_CFG, 0, 9⟩
abbrev SKD_ADDR_ADDR : Fld := ⟨SKD_ADDR, 0, 16⟩
abbrev SKD_ADDR_VALID : Fld := ⟨SKD_ADDR, 16, 1⟩
abbrev SKD_RXIDX_NEXT : Fld := ⟨SKD_RXIDX, 0, 8⟩
abbrev SKD_RXIDX_OLD : Fld := ⟨SKD_RXIDX, 8, 8⟩
abbrev SKD_RXIDX_FULL : Fld := ⟨SKD_RXIDX, 16, 1⟩
abbrev SKD_PORT_CFG_EN (i : Nat) : Fld := ⟨(SKD_PORT_CFG i), 0, 1⟩
abbrev SKD_PORT_CFG_IMGEN (i : Nat) : Fld := ⟨(SKD_PORT_CFG i), 1, 1⟩
abbrev SKD_PORT_STAT_ACTIVE (i : Nat) : Fld := ⟨(SKD_PORT_STAT i), 0, 1⟩
abbrev SKD_PORT_STAT_CREDWAIT (i : Nat) : Fld := ⟨(SKD_PORT_STAT i), 1, 1⟩
abbrev SKD_PORT_STAT_INFRAME (i : Nat) : Fld := ⟨(SKD_PORT_STAT i), 2, 1⟩
abbrev SKD_PORT_STAT_OVERCAP (i : Nat) : Fld := ⟨(SKD_PORT_STAT i), 3, 1⟩
abbrev SKD_PORT_STAT_LRATE (i : Nat) : Fld := ⟨(SKD_PORT_STAT i), 4, 2⟩
abbrev SKD_PORT_STAT_WIDTH (i : Nat) : Fld := ⟨(SKD_PORT_STAT i), 6, 2⟩
abbrev SKD_PORT_STAT_CHRATE (i : Nat) : Fld := ⟨(SKD_PORT_STAT i), 16, 16⟩
abbrev SKD_PORT_CRED_B (i : Nat) : Fld := ⟨(SKD_PORT_CRED i), 0, 12⟩
abbrev SKD_PORT_CRED_C (i : Nat) : Fld := ⟨(SKD_PORT_CRED i), 12, 10⟩
abbrev SKD_PORT_FAR_BUFB (i : Nat) : Fld := ⟨(SKD_PORT_FAR i), 0, 12⟩
abbrev SKD_PORT_FAR_BUFC (i : Nat) : Fld := ⟨(SKD_PORT_FAR i), 12, 10⟩
abbrev SKD_PORT_FAR_SEQ (i : Nat) : Fld := ⟨(SKD_PORT_FAR i), 24, 8⟩
abbrev SKD_PORT_DISC_TYPE (i : Nat) : Fld := ⟨(SKD_PORT_DISC i), 0, 4⟩
abbrev SKD_PORT_DISC_REASON (i : Nat) : Fld := ⟨(SKD_PORT_DISC i), 4, 4⟩
abbrev SKD_PORT_DISC_SRC (i : Nat) : Fld := ⟨(SKD_PORT_DISC i), 16, 16⟩
abbrev SKD_HEAD_NUM : Fld := ⟨SKD_HEAD, 0, 6⟩
abbrev SKD_ENUM_OP : Fld := ⟨SKD_ENUM, 0, 4⟩
abbrev SKD_ENUM_PORT : Fld := ⟨SKD_ENUM, 4, 4⟩
abbrev SKD_ENUM_ALL : Fld := ⟨SKD_ENUM, 8, 1⟩
abbrev SKD_ENUM_STAT : Fld := ⟨SKD_ENUM, 28, 4⟩
abbrev SKD_ENUM_ID_ID : Fld := ⟨SKD_ENUM_ID, 0, 16⟩
abbrev SKD_CH_TWIN_TWIN : Fld := ⟨SKD_CH_TWIN, 0, 8⟩
abbrev SKD_CH_CFG_CTLTO : Fld := ⟨SKD_CH_CFG, 0, 8⟩
abbrev SKD_TILE_STAT_TIMEDN : Fld := ⟨SKD_TILE_STAT, 0, 1⟩
abbrev SKD_TILE_STAT_TWINMIS : Fld := ⟨SKD_TILE_STAT, 1, 1⟩
abbrev SKD_TILE_STAT_OVER : Fld := ⟨SKD_TILE_STAT, 2, 1⟩
abbrev SKD_CH_STAT_PRESENT (i : Nat) : Fld := ⟨(SKD_CH_STAT i), 0, 6⟩
abbrev SKD_CH_STAT_REACHM (i : Nat) : Fld := ⟨(SKD_CH_STAT i), 6, 6⟩
abbrev SKD_CH_STAT_REACHT (i : Nat) : Fld := ⟨(SKD_CH_STAT i), 12, 6⟩
abbrev SKD_CH_STAT_PATH (i : Nat) : Fld := ⟨(SKD_CH_STAT i), 18, 2⟩
abbrev SKD_CH_STAT_BREAK (i : Nat) : Fld := ⟨(SKD_CH_STAT i), 20, 1⟩
abbrev SKD_CH_STAT_OVERLONG (i : Nat) : Fld := ⟨(SKD_CH_STAT i), 21, 1⟩
abbrev SKD_RING_FAR (i : Nat) : Fld := ⟨(SKD_RING i), 0, 10⟩
abbrev SKD_RING_POS (i : Nat) : Fld := ⟨(SKD_RING i), 10, 6⟩
abbrev SKD_RING_VALID (i : Nat) : Fld := ⟨(SKD_RING i), 16, 1⟩
abbrev SKD_WC_CFG_TYPE : Fld := ⟨SKD_WC_CFG, 0, 2⟩
abbrev SKD_WC_CFG_SCOPE : Fld := ⟨SKD_WC_CFG, 2, 2⟩
abbrev SKD_WC_CFG_BESTEFF : Fld := ⟨SKD_WC_CFG, 4, 1⟩
abbrev SKD_WC_CFG_CHAIN : Fld := ⟨SKD_WC_CFG, 5, 4⟩
abbrev SKD_WC_CFG_LISTN : Fld := ⟨SKD_WC_CFG, 9, 7⟩
abbrev SKD_WC_ARMT_ARMT : Fld := ⟨SKD_WC_ARMT, 0, 16⟩
abbrev SKD_WC_ARMT_CMIN : Fld := ⟨SKD_WC_ARMT, 16, 16⟩
abbrev SKD_WC_T0_NS : Fld := ⟨SKD_WC_T0, 0, 30⟩
abbrev SKD_WC_T2_SH : Fld := ⟨SKD_WC_T2, 0, 16⟩
abbrev SKD_WC_CMD_OP : Fld := ⟨SKD_WC_CMD, 0, 4⟩
abbrev SKD_WC_CMD_STAT : Fld := ⟨SKD_WC_CMD, 28, 4⟩
abbrev SKD_WC_STAT_PHASE : Fld := ⟨SKD_WC_STAT, 0, 3⟩
abbrev SKD_WC_STAT_CMDID : Fld := ⟨SKD_WC_STAT, 16, 16⟩
abbrev SKD_WC_CNT_ADDRESSED : Fld := ⟨SKD_WC_CNT, 0, 16⟩
abbrev SKD_WC_CNT_ARMED : Fld := ⟨SKD_WC_CNT, 16, 16⟩
abbrev SKD_WC_NFAIL_FAILED : Fld := ⟨SKD_WC_NFAIL, 0, 16⟩
abbrev SKD_WC_NFAIL_NODONE : Fld := ⟨SKD_WC_NFAIL, 16, 16⟩
abbrev SKD_WC_FAIL_ADDR (i : Nat) : Fld := ⟨(SKD_WC_FAIL i), 0, 16⟩
abbrev SKD_WC_FAIL_REASON (i : Nat) : Fld := ⟨(SKD_WC_FAIL i), 16, 4⟩
abbrev SKD_WC_UNIT_W0_CMDID (i : Nat) : Fld := ⟨(SKD_WC_UNIT_W0 i), 0, 16⟩
abbrev SKD_WC_UNIT_W0_PHASE (i : Nat) : Fld := ⟨(SKD_WC_UNIT_W0 i), 16, 2⟩
abbrev SKD_WC_UNIT_W1_NS (i : Nat) : Fld := ⟨(SKD_WC_UNIT_W1 i), 0, 30⟩
abbrev SKD_WC_UNIT_W3_COORD (i : Nat) : Fld := ⟨(SKD_WC_UNIT_W3 i), 0, 16⟩
abbrev SKD_IMG_CFG_GAP : Fld := ⟨SKD_IMG_CFG, 0, 10⟩
abbrev SKD_IMG_CFG_PASSES : Fld := ⟨SKD_IMG_CFG, 10, 4⟩
abbrev SKD_IMG_PORTS_PORTS : Fld := ⟨SKD_IMG_PORTS, 0, 16⟩
abbrev SKD_IMG_CMD_OP : Fld := ⟨SKD_IMG_CMD, 0, 4⟩
abbrev SKD_IMG_CMD_STAT : Fld := ⟨SKD_IMG_CMD, 28, 4⟩
abbrev SKD_IMG_STAT_STATE : Fld := ⟨SKD_IMG_STAT, 0, 3⟩
abbrev SKD_IMG_STAT_PASS : Fld := ⟨SKD_IMG_STAT, 3, 4⟩
abbrev SKD_IMG_STAT_NEXT : Fld := ⟨SKD_IMG_STAT, 16, 16⟩
abbrev SKD_IMG_INC_TILES : Fld := ⟨SKD_IMG_INC, 0, 16⟩
abbrev SKD_CT_W0_STATE (i : Nat) : Fld := ⟨(SKD_CT_W0 i), 0, 2⟩
abbrev SKD_CT_W0_FLAGS (i : Nat) : Fld := ⟨(SKD_CT_W0 i), 2, 5⟩
abbrev SKD_CT_W0_ENUMID (i : Nat) : Fld := ⟨(SKD_CT_W0 i), 16, 16⟩
abbrev SKD_CT_W7_SWAPS (i : Nat) : Fld := ⟨(SKD_CT_W7 i), 0, 16⟩
abbrev SKD_CT_W7_SINCE (i : Nat) : Fld := ⟨(SKD_CT_W7 i), 16, 16⟩

/-! ### MEM (R140): addresses, then fields -/

abbrev MEM_CFG : Nat := 0x100000
abbrev MEM_IL : Nat := 0x100004
abbrev MEM_FREQ : Nat := 0x100008
abbrev MEM_STAT : Nat := 0x10000C
abbrev MEM_TRN : Nat := 0x100010
abbrev MEM_REF : Nat := 0x100014
abbrev MEM_SR : Nat := 0x100018
abbrev MEM_PASR : Nat := 0x10001C
abbrev MEM_ALLOCW : Nat := 0x100020
abbrev MEM_ALLOCL : Nat := 0x100024
abbrev MEM_FREQCHG : Nat := 0x100040
abbrev MEM_SRENT : Nat := 0x100048
abbrev MEM_SRABORT : Nat := 0x100050
abbrev MEM_SRWAIT : Nat := 0x100058
abbrev MEM_CH_STAT (i : Nat) : Nat := 0x0010_1000 + i * 0x100
abbrev MEM_CH_TRN (i : Nat) : Nat := 0x0010_1000 + i * 0x100 + 0x4
abbrev MEM_CH_UTIL (i : Nat) : Nat := 0x0010_1000 + i * 0x100 + 0x8
abbrev MEM_CH_ERRADR (i : Nat) : Nat := 0x0010_1000 + i * 0x100 + 0xC
abbrev MEM_CH_RD (i : Nat) : Nat := 0x0010_1000 + i * 0x100 + 0x10
abbrev MEM_CH_WR (i : Nat) : Nat := 0x0010_1000 + i * 0x100 + 0x18
abbrev MEM_CH_REFS (i : Nat) : Nat := 0x0010_1000 + i * 0x100 + 0x20
abbrev MEM_CH_LECC (i : Nat) : Nat := 0x0010_1000 + i * 0x100 + 0x28
abbrev MEM_CH_LUNC (i : Nat) : Nat := 0x0010_1000 + i * 0x100 + 0x30
abbrev MEM_CFG_NCH : Fld := ⟨MEM_CFG, 0, 5⟩
abbrev MEM_CFG_DENS : Fld := ⟨MEM_CFG, 5, 2⟩
abbrev MEM_CFG_RANK2 : Fld := ⟨MEM_CFG, 7, 1⟩
abbrev MEM_CFG_BRATE : Fld := ⟨MEM_CFG, 8, 1⟩
abbrev MEM_CFG_TXSR : Fld := ⟨MEM_CFG, 9, 11⟩
abbrev MEM_IL_GRAIN : Fld := ⟨MEM_IL, 0, 3⟩
abbrev MEM_IL_LOCAL : Fld := ⟨MEM_IL, 3, 7⟩
abbrev MEM_FREQ_RATE : Fld := ⟨MEM_FREQ, 0, 1⟩
abbrev MEM_FREQ_STAT : Fld := ⟨MEM_FREQ, 28, 4⟩
abbrev MEM_STAT_STATE : Fld := ⟨MEM_STAT, 0, 3⟩
abbrev MEM_STAT_RATE : Fld := ⟨MEM_STAT, 3, 1⟩
abbrev MEM_STAT_PARTSR : Fld := ⟨MEM_STAT, 4, 1⟩
abbrev MEM_TRN_STEP : Fld := ⟨MEM_TRN, 0, 3⟩
abbrev MEM_TRN_PER : Fld := ⟨MEM_TRN, 8, 8⟩
abbrev MEM_REF_POLL : Fld := ⟨MEM_REF, 0, 8⟩
abbrev MEM_REF_SLOW : Fld := ⟨MEM_REF, 8, 1⟩
abbrev MEM_SR_IDLE : Fld := ⟨MEM_SR, 0, 16⟩
abbrev MEM_PASR_REQ : Fld := ⟨MEM_PASR, 0, 8⟩
abbrev MEM_PASR_APPLIED : Fld := ⟨MEM_PASR, 8, 8⟩
abbrev MEM_PASR_USED : Fld := ⟨MEM_PASR, 16, 8⟩
abbrev MEM_CH_STAT_STATE (i : Nat) : Fld := ⟨(MEM_CH_STAT i), 0, 3⟩
abbrev MEM_CH_STAT_RRATE (i : Nat) : Fld := ⟨(MEM_CH_STAT i), 3, 5⟩
abbrev MEM_CH_STAT_MULT (i : Nat) : Fld := ⟨(MEM_CH_STAT i), 8, 3⟩
abbrev MEM_CH_STAT_OVERT (i : Nat) : Fld := ⟨(MEM_CH_STAT i), 11, 1⟩
abbrev MEM_CH_STAT_TRNFAIL (i : Nat) : Fld := ⟨(MEM_CH_STAT i), 12, 1⟩
abbrev MEM_CH_STAT_LUNC (i : Nat) : Fld := ⟨(MEM_CH_STAT i), 13, 1⟩
abbrev MEM_CH_TRN_READ (i : Nat) : Fld := ⟨(MEM_CH_TRN i), 0, 8⟩
abbrev MEM_CH_TRN_WRITE (i : Nat) : Fld := ⟨(MEM_CH_TRN i), 8, 8⟩
abbrev MEM_CH_UTIL_BUSY (i : Nat) : Fld := ⟨(MEM_CH_UTIL i), 0, 10⟩

/-! ### ENG (R171): addresses, then fields -/

abbrev ENG_CFG (i : Nat) : Nat := 0x0014_0000 + i * 0x1000
abbrev ENG_CMD (i : Nat) : Nat := 0x0014_0000 + i * 0x1000 + 0x4
abbrev ENG_STAT (i : Nat) : Nat := 0x0014_0000 + i * 0x1000 + 0x8
abbrev ENG_RFSEL (i : Nat) : Nat := 0x0014_0000 + i * 0x1000 + 0xC
abbrev ENG_ISSUED (i : Nat) : Nat := 0x0014_0000 + i * 0x1000 + 0x40
abbrev ENG_SATCNT (i : Nat) : Nat := 0x0014_0000 + i * 0x1000 + 0x48
abbrev ENG_FAULTS (i : Nat) : Nat := 0x0014_0000 + i * 0x1000 + 0x50
abbrev ENG_LSCONF (i : Nat) : Nat := 0x0014_0000 + i * 0x1000 + 0x58
abbrev ENG_THR_STAT (i j : Nat) : Nat := 0x0014_0000 + i * 0x1000 + 0x100 + j * 0x10
abbrev ENG_THR_PC (i j : Nat) : Nat := 0x0014_0000 + i * 0x1000 + 0x104 + j * 0x10
abbrev ENG_THR_FINSL (i j : Nat) : Nat := 0x0014_0000 + i * 0x1000 + 0x108 + j * 0x10
abbrev ENG_THR_FINSH (i j : Nat) : Nat := 0x0014_0000 + i * 0x1000 + 0x10C + j * 0x10
abbrev ENG_RF_S (i j : Nat) : Nat := 0x0014_0000 + i * 0x1000 + 0x400 + j * 0x4
abbrev ENG_RF_P (i j : Nat) : Nat := 0x0014_0000 + i * 0x1000 + 0x480 + j * 0x4
abbrev ENG_RF_V (i j : Nat) : Nat := 0x0014_0000 + i * 0x1000 + 0x800 + j * 0x4
abbrev ENG_CFG_CODESZ (i : Nat) : Fld := ⟨(ENG_CFG i), 0, 8⟩
abbrev ENG_CMD_OP (i : Nat) : Fld := ⟨(ENG_CMD i), 0, 4⟩
abbrev ENG_CMD_SLOT (i : Nat) : Fld := ⟨(ENG_CMD i), 4, 3⟩
abbrev ENG_CMD_STAT (i : Nat) : Fld := ⟨(ENG_CMD i), 28, 4⟩
abbrev ENG_STAT_GATED (i : Nat) : Fld := ⟨(ENG_STAT i), 0, 1⟩
abbrev ENG_STAT_STOPPED (i : Nat) : Fld := ⟨(ENG_STAT i), 1, 1⟩
abbrev ENG_STAT_FAULT (i : Nat) : Fld := ⟨(ENG_STAT i), 2, 1⟩
abbrev ENG_STAT_RESIDENT (i : Nat) : Fld := ⟨(ENG_STAT i), 3, 8⟩
abbrev ENG_RFSEL_SLOT (i : Nat) : Fld := ⟨(ENG_RFSEL i), 0, 3⟩
abbrev ENG_THR_STAT_STATE (i j : Nat) : Fld := ⟨(ENG_THR_STAT i j), 0, 4⟩
abbrev ENG_THR_STAT_SAT (i j : Nat) : Fld := ⟨(ENG_THR_STAT i j), 4, 1⟩
abbrev ENG_THR_STAT_PRIO (i j : Nat) : Fld := ⟨(ENG_THR_STAT i j), 5, 5⟩
abbrev ENG_THR_STAT_THREAD (i j : Nat) : Fld := ⟨(ENG_THR_STAT i j), 10, 10⟩
abbrev ENG_THR_STAT_FCAUSE (i j : Nat) : Fld := ⟨(ENG_THR_STAT i j), 20, 4⟩
abbrev ENG_THR_STAT_SMPOUT (i j : Nat) : Fld := ⟨(ENG_THR_STAT i j), 24, 2⟩
abbrev ENG_THR_STAT_PRIOR (i j : Nat) : Fld := ⟨(ENG_THR_STAT i j), 26, 4⟩
abbrev ENG_THR_PC_PC (i j : Nat) : Fld := ⟨(ENG_THR_PC i j), 0, 18⟩

/-! ### CMP and crews (R172, R260, R283): addresses, then fields -/

abbrev CMP_CREW_PACE (i : Nat) : Nat := 0x0033_0000 + i * 0x1000
abbrev CMP_CREW_LUTCMD (i : Nat) : Nat := 0x0033_0000 + i * 0x1000 + 0x4
abbrev CMP_CREW_LUTSRC (i : Nat) : Nat := 0x0033_0000 + i * 0x1000 + 0x8
abbrev CMP_CREW_LUTST (i : Nat) : Nat := 0x0033_0000 + i * 0x1000 + 0xC
abbrev CMP_CREW_LUTSLOT (i j : Nat) : Nat := 0x0033_0000 + i * 0x1000 + 0x10 + j * 0x4
abbrev CMP_CREW_COEFLCK (i : Nat) : Nat := 0x0033_0000 + i * 0x1000 + 0x20
abbrev CMP_CREW_SCLST (i : Nat) : Nat := 0x0033_0000 + i * 0x1000 + 0x24
abbrev CMP_CREW_LUTREQ (i : Nat) : Nat := 0x0033_0000 + i * 0x1000 + 0x40
abbrev CMP_CREW_LUTMISS (i : Nat) : Nat := 0x0033_0000 + i * 0x1000 + 0x48
abbrev CMP_CREW_SCLREQ (i : Nat) : Nat := 0x0033_0000 + i * 0x1000 + 0x50
abbrev CMP_CREW_SHED (i : Nat) : Nat := 0x0033_0000 + i * 0x1000 + 0x58
abbrev CMP_CREW_SCLCLP (i : Nat) : Nat := 0x0033_0000 + i * 0x1000 + 0x60
abbrev CMP_CFG : Nat := 0x300000
abbrev CMP_CMD : Nat := 0x300004
abbrev CMP_ARG0 : Nat := 0x300008
abbrev CMP_RES : Nat := 0x30000C
abbrev CMP_STAT : Nat := 0x300010
abbrev CMP_SREC : Nat := 0x300014
abbrev CMP_LASTSEQ : Nat := 0x300018
abbrev CMP_ARMLATE : Nat := 0x300040
abbrev CMP_LOADREF : Nat := 0x300048
abbrev CMP_PROG0 (i : Nat) : Nat := 0x300400 + i * 0x10
abbrev CMP_PROG1 (i : Nat) : Nat := 0x300404 + i * 0x10
abbrev CMP_CANVAS (i j : Nat) : Nat := 0x300800 + i * 0x20 + j * 0x4
abbrev CMP_CANVAS_A (i j : Nat) : Nat := 0x300900 + i * 0x20 + j * 0x4
abbrev CMP_LAYREC (i j : Nat) : Nat := 0x301000 + i * 0x20 + j * 0x4
abbrev CMP_LAYREC_A (i j : Nat) : Nat := 0x301800 + i * 0x20 + j * 0x4
abbrev CMP_LAYER (i : Nat) : Nat := 0x302000 + i * 0x10
abbrev CMP_LAYER_DX (i : Nat) : Nat := 0x302004 + i * 0x10
abbrev CMP_LAYER_DY (i : Nat) : Nat := 0x302008 + i * 0x10
abbrev CMP_GROUP_CFG (i : Nat) : Nat := 0x302800 + i * 0x20
abbrev CMP_GROUP_STAT (i : Nat) : Nat := 0x302804 + i * 0x20
abbrev CMP_GROUP_HELD (i : Nat) : Nat := 0x302808 + i * 0x20
abbrev CMP_GROUP_FLIPS (i : Nat) : Nat := 0x302810 + i * 0x20
abbrev CMP_TMAP (i j : Nat) : Nat := 0x310000 + i * 0x10 + j * 0x4
abbrev CMP_TMAP_A (i j : Nat) : Nat := 0x314000 + i * 0x10 + j * 0x4
abbrev CMP_PACE : Nat := 0x303000
abbrev CMP_PACE_STAT : Nat := 0x303004
abbrev CMP_PACE_LEADIF : Nat := 0x303008
abbrev CMP_PACE_EST : Nat := 0x30300C
abbrev CMP_PACE_LAST : Nat := 0x303010
abbrev CMP_PACE_MMIN : Nat := 0x303014
abbrev CMP_PACE_LATE : Nat := 0x303040
abbrev CMP_PACE_SKIP : Nat := 0x303048
abbrev CMP_PACE_ABAND : Nat := 0x303050
abbrev CMP_PACE_CMTWH : Nat := 0x303058
abbrev CMP_PACE_WALLHOLD : Nat := 0x303060
abbrev CMP_PACE_WALLMISS : Nat := 0x303068
abbrev CMP_WALL_MEMB (i : Nat) : Nat := 0x303080 + i * 0x4
abbrev CMP_PLC_CFG : Nat := 0x303100
abbrev CMP_PLC_CMD : Nat := 0x303104
abbrev CMP_PLC_RES : Nat := 0x303108
abbrev CMP_PLC_PEER (i : Nat) : Nat := 0x303110 + i * 0x4
abbrev CMP_PLC_CREWLD (i : Nat) : Nat := 0x303140 + i * 0x4
abbrev CMP_PLC_VAC (i : Nat) : Nat := 0x303180 + i * 0x4
abbrev CMP_PLC_DIG (i : Nat) : Nat := 0x303190 + i * 0x4
abbrev CMP_PLC_CNT_OFFERS : Nat := 0x3031C0
abbrev CMP_PLC_CNT_DECL : Nat := 0x3031C8
abbrev CMP_PLC_CNT_MOVES : Nat := 0x3031D0
abbrev CMP_PLC_CNT_UNPL : Nat := 0x3031D8
abbrev CMP_PLC_TILE_W0 (i : Nat) : Nat := 0x304000 + i * 0x10
abbrev CMP_PLC_TILE_W1 (i : Nat) : Nat := 0x304004 + i * 0x10
abbrev CMP_PLC_TILE_W2 (i : Nat) : Nat := 0x304008 + i * 0x10
abbrev CMP_PLC_TILE_W3 (i : Nat) : Nat := 0x30400C + i * 0x10
abbrev CMP_PLC_GUEST_W0 (i : Nat) : Nat := 0x308000 + i * 0x10
abbrev CMP_PLC_GUEST_W1 (i : Nat) : Nat := 0x308004 + i * 0x10
abbrev CMP_PLC_GUEST_W2 (i : Nat) : Nat := 0x308008 + i * 0x10
abbrev CMP_PLC_GUEST_W3 (i : Nat) : Nat := 0x30800C + i * 0x10
abbrev CMP_CREW_PACE_PACE (i : Nat) : Fld := ⟨(CMP_CREW_PACE i), 0, 16⟩
abbrev CMP_CREW_PACE_VALID (i : Nat) : Fld := ⟨(CMP_CREW_PACE i), 16, 1⟩
abbrev CMP_CREW_LUTCMD_OP (i : Nat) : Fld := ⟨(CMP_CREW_LUTCMD i), 0, 4⟩
abbrev CMP_CREW_LUTCMD_SLOT (i : Nat) : Fld := ⟨(CMP_CREW_LUTCMD i), 4, 2⟩
abbrev CMP_CREW_LUTCMD_SUB (i : Nat) : Fld := ⟨(CMP_CREW_LUTCMD i), 6, 3⟩
abbrev CMP_CREW_LUTCMD_SIZE (i : Nat) : Fld := ⟨(CMP_CREW_LUTCMD i), 9, 1⟩
abbrev CMP_CREW_LUTCMD_STAT (i : Nat) : Fld := ⟨(CMP_CREW_LUTCMD i), 28, 4⟩
abbrev CMP_CREW_LUTST_MISS (i : Nat) : Fld := ⟨(CMP_CREW_LUTST i), 0, 1⟩
abbrev CMP_CREW_LUTST_SLOT (i : Nat) : Fld := ⟨(CMP_CREW_LUTST i), 1, 2⟩
abbrev CMP_CREW_LUTST_SUB (i : Nat) : Fld := ⟨(CMP_CREW_LUTST i), 3, 3⟩
abbrev CMP_CREW_LUTSLOT_SIZE (i j : Nat) : Fld := ⟨(CMP_CREW_LUTSLOT i j), 0, 1⟩
abbrev CMP_CREW_LUTSLOT_LOADED (i j : Nat) : Fld := ⟨(CMP_CREW_LUTSLOT i j), 1, 7⟩
abbrev CMP_CREW_LUTSLOT_LOCK (i j : Nat) : Fld := ⟨(CMP_CREW_LUTSLOT i j), 8, 1⟩
abbrev CMP_CREW_SCLST_STATE (i : Nat) : Fld := ⟨(CMP_CREW_SCLST i), 0, 2⟩
abbrev CMP_CREW_SCLST_LINES (i : Nat) : Fld := ⟨(CMP_CREW_SCLST i), 2, 7⟩
abbrev CMP_CREW_SCLST_TAPS (i : Nat) : Fld := ⟨(CMP_CREW_SCLST i), 9, 5⟩
abbrev CMP_CREW_SCLST_SHED (i : Nat) : Fld := ⟨(CMP_CREW_SCLST i), 14, 1⟩
abbrev CMP_CREW_SCLST_DEC (i : Nat) : Fld := ⟨(CMP_CREW_SCLST i), 15, 1⟩
abbrev CMP_CREW_SCLST_WIDTH (i : Nat) : Fld := ⟨(CMP_CREW_SCLST i), 16, 14⟩
abbrev CMP_CFG_CODEKB : Fld := ⟨CMP_CFG, 0, 8⟩
abbrev CMP_CFG_MONPROG : Fld := ⟨CMP_CFG, 8, 5⟩
abbrev CMP_CMD_OP : Fld := ⟨CMP_CMD, 0, 4⟩
abbrev CMP_CMD_PROG : Fld := ⟨CMP_CMD, 4, 5⟩
abbrev CMP_CMD_NEXT : Fld := ⟨CMP_CMD, 9, 1⟩
abbrev CMP_CMD_STAT : Fld := ⟨CMP_CMD, 28, 4⟩
abbrev CMP_RES_REASON : Fld := ⟨CMP_RES, 0, 4⟩
abbrev CMP_RES_DETAIL : Fld := ⟨CMP_RES, 8, 8⟩
abbrev CMP_STAT_ARMPEND : Fld := ⟨CMP_STAT, 0, 1⟩
abbrev CMP_STAT_ARMNEXT : Fld := ⟨CMP_STAT, 1, 1⟩
abbrev CMP_STAT_ATSEQ : Fld := ⟨CMP_STAT, 16, 16⟩
abbrev CMP_LASTSEQ_SEQ : Fld := ⟨CMP_LASTSEQ, 0, 16⟩
abbrev CMP_LASTSEQ_SET : Fld := ⟨CMP_LASTSEQ, 16, 16⟩
abbrev CMP_PROG0_LOADED (i : Nat) : Fld := ⟨(CMP_PROG0 i), 0, 1⟩
abbrev CMP_PROG0_MON (i : Nat) : Fld := ⟨(CMP_PROG0 i), 1, 1⟩
abbrev CMP_PROG0_THREADS (i : Nat) : Fld := ⟨(CMP_PROG0 i), 4, 8⟩
abbrev CMP_PROG0_PRIO (i : Nat) : Fld := ⟨(CMP_PROG0 i), 12, 5⟩
abbrev CMP_PROG1_BASE (i : Nat) : Fld := ⟨(CMP_PROG1 i), 0, 16⟩
abbrev CMP_PROG1_LEN (i : Nat) : Fld := ⟨(CMP_PROG1 i), 16, 16⟩
abbrev CMP_LAYER_LBSHED (i : Nat) : Fld := ⟨(CMP_LAYER i), 0, 1⟩
abbrev CMP_LAYER_LBDEC (i : Nat) : Fld := ⟨(CMP_LAYER i), 1, 1⟩
abbrev CMP_LAYER_TAPS (i : Nat) : Fld := ⟨(CMP_LAYER i), 2, 5⟩
abbrev CMP_LAYER_VIS (i : Nat) : Fld := ⟨(CMP_LAYER i), 7, 1⟩
abbrev CMP_LAYER_READY (i : Nat) : Fld := ⟨(CMP_LAYER i), 8, 1⟩
abbrev CMP_LAYER_BUF (i : Nat) : Fld := ⟨(CMP_LAYER i), 9, 2⟩
abbrev CMP_GROUP_CFG_MODE (i : Nat) : Fld := ⟨(CMP_GROUP_CFG i), 0, 1⟩
abbrev CMP_GROUP_CFG_LAT (i : Nat) : Fld := ⟨(CMP_GROUP_CFG i), 1, 16⟩
abbrev CMP_GROUP_STAT_MEMBERS (i : Nat) : Fld := ⟨(CMP_GROUP_STAT i), 0, 7⟩
abbrev CMP_GROUP_STAT_HELDLAST (i : Nat) : Fld := ⟨(CMP_GROUP_STAT i), 7, 1⟩
abbrev CMP_GROUP_STAT_FLIPSEQ (i : Nat) : Fld := ⟨(CMP_GROUP_STAT i), 16, 16⟩
abbrev CMP_PACE_LEAD : Fld := ⟨CMP_PACE, 0, 3⟩
abbrev CMP_PACE_WALLCMT : Fld := ⟨CMP_PACE, 3, 1⟩
abbrev CMP_PACE_HOLDMAX : Fld := ⟨CMP_PACE, 4, 8⟩
abbrev CMP_PACE_MARGIN : Fld := ⟨CMP_PACE, 12, 12⟩
abbrev CMP_PACE_STAT_CATCHUP : Fld := ⟨CMP_PACE_STAT, 0, 1⟩
abbrev CMP_PACE_STAT_WALLOUT : Fld := ⟨CMP_PACE_STAT, 1, 1⟩
abbrev CMP_PACE_STAT_LOAD : Fld := ⟨CMP_PACE_STAT, 2, 12⟩
abbrev CMP_PACE_STAT_CMTSEQ : Fld := ⟨CMP_PACE_STAT, 16, 16⟩
abbrev CMP_PACE_LEADIF_US : Fld := ⟨CMP_PACE_LEADIF, 0, 24⟩
abbrev CMP_PACE_EST_US : Fld := ⟨CMP_PACE_EST, 0, 24⟩
abbrev CMP_PACE_LAST_US : Fld := ⟨CMP_PACE_LAST, 0, 24⟩
abbrev CMP_PACE_MMIN_M : Fld := ⟨CMP_PACE_MMIN, 0, 16⟩
abbrev CMP_PLC_CFG_MOVE : Fld := ⟨CMP_PLC_CFG, 0, 1⟩
abbrev CMP_PLC_CFG_HI : Fld := ⟨CMP_PLC_CFG, 1, 8⟩
abbrev CMP_PLC_CFG_LO : Fld := ⟨CMP_PLC_CFG, 9, 8⟩
abbrev CMP_PLC_CMD_OP : Fld := ⟨CMP_PLC_CMD, 0, 4⟩
abbrev CMP_PLC_CMD_ENGINE : Fld := ⟨CMP_PLC_CMD, 4, 6⟩
abbrev CMP_PLC_CMD_ENTRY : Fld := ⟨CMP_PLC_CMD, 10, 10⟩
abbrev CMP_PLC_CMD_STAT : Fld := ⟨CMP_PLC_CMD, 28, 4⟩
abbrev CMP_PLC_RES_REASON : Fld := ⟨CMP_PLC_RES, 0, 4⟩
abbrev CMP_PLC_RES_DECL : Fld := ⟨CMP_PLC_RES, 4, 4⟩
abbrev CMP_PLC_PEER_HEAD (i : Nat) : Fld := ⟨(CMP_PLC_PEER i), 0, 6⟩
abbrev CMP_PLC_PEER_PORT (i : Nat) : Fld := ⟨(CMP_PLC_PEER i), 6, 4⟩
abbrev CMP_PLC_PEER_EN (i : Nat) : Fld := ⟨(CMP_PLC_PEER i), 10, 1⟩
abbrev CMP_PLC_CREWLD_TILES (i : Nat) : Fld := ⟨(CMP_PLC_CREWLD i), 0, 12⟩
abbrev CMP_PLC_CREWLD_LOAD (i : Nat) : Fld := ⟨(CMP_PLC_CREWLD i), 12, 20⟩
abbrev CMP_PLC_TILE_W0_STATE (i : Nat) : Fld := ⟨(CMP_PLC_TILE_W0 i), 0, 2⟩
abbrev CMP_PLC_TILE_W0_CREW (i : Nat) : Fld := ⟨(CMP_PLC_TILE_W0 i), 2, 3⟩
abbrev CMP_PLC_TILE_W0_HOSTHEAD (i : Nat) : Fld := ⟨(CMP_PLC_TILE_W0 i), 5, 6⟩
abbrev CMP_PLC_TILE_W0_CTX0 (i : Nat) : Fld := ⟨(CMP_PLC_TILE_W0 i), 16, 14⟩
abbrev CMP_PLC_TILE_W1_LOAD (i : Nat) : Fld := ⟨(CMP_PLC_TILE_W1 i), 0, 32⟩
abbrev CMP_PLC_TILE_W2_SINCE (i : Nat) : Fld := ⟨(CMP_PLC_TILE_W2 i), 0, 16⟩
abbrev CMP_PLC_TILE_W2_HELD (i : Nat) : Fld := ⟨(CMP_PLC_TILE_W2 i), 16, 16⟩
abbrev CMP_PLC_TILE_W3_DECL (i : Nat) : Fld := ⟨(CMP_PLC_TILE_W3 i), 0, 4⟩
abbrev CMP_PLC_GUEST_W0_VALID (i : Nat) : Fld := ⟨(CMP_PLC_GUEST_W0 i), 0, 1⟩
abbrev CMP_PLC_GUEST_W0_DIGMIS (i : Nat) : Fld := ⟨(CMP_PLC_GUEST_W0 i), 1, 1⟩
abbrev CMP_PLC_GUEST_W0_CTX0 (i : Nat) : Fld := ⟨(CMP_PLC_GUEST_W0 i), 16, 14⟩
abbrev CMP_PLC_GUEST_W1_OWNER (i : Nat) : Fld := ⟨(CMP_PLC_GUEST_W1 i), 0, 16⟩
abbrev CMP_PLC_GUEST_W2_FIRST (i : Nat) : Fld := ⟨(CMP_PLC_GUEST_W2 i), 0, 16⟩
abbrev CMP_PLC_GUEST_W2_LAST (i : Nat) : Fld := ⟨(CMP_PLC_GUEST_W2 i), 16, 16⟩
abbrev CMP_PLC_GUEST_W3_ET (i : Nat) : Fld := ⟨(CMP_PLC_GUEST_W3 i), 0, 32⟩

/-! ### TDP (R236): addresses, then fields -/

abbrev TDP_CMD : Nat := 0x180000
abbrev TDP_ARG0 : Nat := 0x180004
abbrev TDP_ARG1 : Nat := 0x180008
abbrev TDP_ARG2 : Nat := 0x18000C
abbrev TDP_ARG3 : Nat := 0x180010
abbrev TDP_RES : Nat := 0x180014
abbrev TDP_STAT : Nat := 0x180018
abbrev TDP_RDY (i : Nat) : Nat := 0x180040 + i * 0x4
abbrev TDP_SPAWNS : Nat := 0x180100
abbrev TDP_REFUSED : Nat := 0x180108
abbrev TDP_SIGLOST : Nat := 0x180110
abbrev TDP_PLACED : Nat := 0x180118
abbrev TDP_THR0 (i : Nat) : Nat := 0x181000 + i * 0x10
abbrev TDP_THR1 (i : Nat) : Nat := 0x181004 + i * 0x10
abbrev TDP_THR2 (i : Nat) : Nat := 0x181008 + i * 0x10
abbrev TDP_THR3 (i : Nat) : Nat := 0x18100C + i * 0x10
abbrev TDP_CMD_OP : Fld := ⟨TDP_CMD, 0, 4⟩
abbrev TDP_CMD_THREAD : Fld := ⟨TDP_CMD, 4, 10⟩
abbrev TDP_CMD_PRIO : Fld := ⟨TDP_CMD, 14, 5⟩
abbrev TDP_CMD_STAT : Fld := ⟨TDP_CMD, 28, 4⟩
abbrev TDP_ARG0_ENTRY : Fld := ⟨TDP_ARG0, 0, 18⟩
abbrev TDP_ARG0_PRIO : Fld := ⟨TDP_ARG0, 18, 5⟩
abbrev TDP_ARG0_AFFIN : Fld := ⟨TDP_ARG0, 23, 8⟩
abbrev TDP_ARG1_CTX : Fld := ⟨TDP_ARG1, 0, 14⟩
abbrev TDP_ARG1_NCTX : Fld := ⟨TDP_ARG1, 14, 8⟩
abbrev TDP_RES_THREAD : Fld := ⟨TDP_RES, 0, 10⟩
abbrev TDP_RES_REASON : Fld := ⟨TDP_RES, 10, 2⟩
abbrev TDP_STAT_USED : Fld := ⟨TDP_STAT, 0, 10⟩
abbrev TDP_STAT_KERNEL : Fld := ⟨TDP_STAT, 10, 8⟩
abbrev TDP_STAT_UNPLACED : Fld := ⟨TDP_STAT, 18, 10⟩
abbrev TDP_RDY_COUNT (i : Nat) : Fld := ⟨(TDP_RDY i), 0, 10⟩
abbrev TDP_RDY_HEAD (i : Nat) : Fld := ⟨(TDP_RDY i), 10, 10⟩
abbrev TDP_THR0_STATE (i : Nat) : Fld := ⟨(TDP_THR0 i), 0, 3⟩
abbrev TDP_THR0_PRIO (i : Nat) : Fld := ⟨(TDP_THR0 i), 3, 5⟩
abbrev TDP_THR0_AFFIN (i : Nat) : Fld := ⟨(TDP_THR0 i), 8, 8⟩
abbrev TDP_THR0_ENGINE (i : Nat) : Fld := ⟨(TDP_THR0 i), 16, 6⟩
abbrev TDP_THR0_SLOT (i : Nat) : Fld := ⟨(TDP_THR0 i), 22, 3⟩
abbrev TDP_THR0_WAITALL (i : Nat) : Fld := ⟨(TDP_THR0 i), 25, 1⟩
abbrev TDP_THR0_WAITING (i : Nat) : Fld := ⟨(TDP_THR0 i), 26, 1⟩
abbrev TDP_THR3_CTX (i : Nat) : Fld := ⟨(TDP_THR3 i), 0, 14⟩
abbrev TDP_THR3_NCTX (i : Nat) : Fld := ⟨(TDP_THR3 i), 14, 8⟩
abbrev TDP_THR3_NEXT (i : Nat) : Fld := ⟨(TDP_THR3 i), 22, 10⟩

/-! ### FLM (R236): addresses, then fields -/

abbrev FLM_CMD : Nat := 0x1C0000
abbrev FLM_SEL : Nat := 0x1C0004
abbrev FLM_ARG (i : Nat) : Nat := 0x1C0008 + i * 0x4
abbrev FLM_RES : Nat := 0x1C0018
abbrev FLM_STAT : Nat := 0x1C001C
abbrev FLM_DEFD0 : Nat := 0x1C0020
abbrev FLM_DEFD1 : Nat := 0x1C0024
abbrev FLM_DEFD2 : Nat := 0x1C0028
abbrev FLM_FSEL : Nat := 0x1C0040
abbrev FLM_FST0 : Nat := 0x1C0044
abbrev FLM_FST1 : Nat := 0x1C0048
abbrev FLM_ESEL : Nat := 0x1C0050
abbrev FLM_EDATA (i : Nat) : Nat := 0x1C0054 + i * 0x4
abbrev FLM_ETAG : Nat := 0x1C0064
abbrev FLM_GSEL : Nat := 0x1C0080
abbrev FLM_GST : Nat := 0x1C0084
abbrev FLM_GHELD : Nat := 0x1C0088
abbrev FLM_GMAP (i : Nat) : Nat := 0x1C00A0 + i * 0x4
abbrev FLM_OVF : Nat := 0x1C0100
abbrev FLM_BADDESC : Nat := 0x1C0108
abbrev FLM_RELREF : Nat := 0x1C0110
abbrev FLM_GDISC : Nat := 0x1C0118
abbrev FLM_CTXREF : Nat := 0x1C0120
abbrev FLM_GREF : Nat := 0x1C0128
abbrev FLM_CMD_OP : Fld := ⟨FLM_CMD, 0, 4⟩
abbrev FLM_CMD_DEPTH : Fld := ⟨FLM_CMD, 4, 5⟩
abbrev FLM_CMD_WIN : Fld := ⟨FLM_CMD, 9, 8⟩
abbrev FLM_CMD_STAT : Fld := ⟨FLM_CMD, 28, 4⟩
abbrev FLM_SEL_SEL : Fld := ⟨FLM_SEL, 0, 18⟩
abbrev FLM_RES_RESULT : Fld := ⟨FLM_RES, 0, 18⟩
abbrev FLM_RES_REASON : Fld := ⟨FLM_RES, 18, 4⟩
abbrev FLM_STAT_CTXUSED : Fld := ⟨FLM_STAT, 0, 15⟩
abbrev FLM_STAT_GOPEN : Fld := ⟨FLM_STAT, 15, 13⟩
abbrev FLM_DEFD0_D : Fld := ⟨FLM_DEFD0, 0, 30⟩
abbrev FLM_DEFD1_D : Fld := ⟨FLM_DEFD1, 0, 30⟩
abbrev FLM_DEFD2_D : Fld := ⟨FLM_DEFD2, 0, 20⟩
abbrev FLM_FSEL_FLUME : Fld := ⟨FLM_FSEL, 0, 18⟩
abbrev FLM_FST0_VISIBLE : Fld := ⟨FLM_FST0, 0, 17⟩
abbrev FLM_FST0_DEPTH : Fld := ⟨FLM_FST0, 17, 5⟩
abbrev FLM_FST0_WAITER : Fld := ⟨FLM_FST0, 22, 1⟩
abbrev FLM_FST0_HWCONS : Fld := ⟨FLM_FST0, 23, 1⟩
abbrev FLM_FST1_HELD : Fld := ⟨FLM_FST1, 0, 17⟩
abbrev FLM_ESEL_POS : Fld := ⟨FLM_ESEL, 0, 17⟩
abbrev FLM_ETAG_GROUP : Fld := ⟨FLM_ETAG, 0, 12⟩
abbrev FLM_ETAG_HELD : Fld := ⟨FLM_ETAG, 12, 1⟩
abbrev FLM_ETAG_VALID : Fld := ⟨FLM_ETAG, 13, 1⟩
abbrev FLM_ETAG_SEQ : Fld := ⟨FLM_ETAG, 16, 16⟩
abbrev FLM_GSEL_GROUP : Fld := ⟨FLM_GSEL, 0, 12⟩
abbrev FLM_GST_OPEN : Fld := ⟨FLM_GST, 0, 1⟩
abbrev FLM_GST_WIN : Fld := ⟨FLM_GST, 1, 8⟩
abbrev FLM_GST_BASE : Fld := ⟨FLM_GST, 16, 16⟩
abbrev FLM_GHELD_HELD : Fld := ⟨FLM_GHELD, 0, 17⟩

/-! ### CTX (R229): addresses, then fields -/

abbrev CTX_REC (i : Nat) : Nat := 0x200000 + i * 0x4


/-! ### TRC (R236): addresses, then fields -/

abbrev TRC_CTL : Nat := 0x500000
abbrev TRC_CMD : Nat := 0x500004
abbrev TRC_WIDX : Nat := 0x500008
abbrev TRC_RSEL : Nat := 0x50000C
abbrev TRC_RD (i : Nat) : Nat := 0x500010 + i * 0x4
abbrev TRC_LOST : Nat := 0x500040
abbrev TRC_CTL_EN : Fld := ⟨TRC_CTL, 0, 1⟩
abbrev TRC_CTL_STOP : Fld := ⟨TRC_CTL, 1, 1⟩
abbrev TRC_CTL_CLASS : Fld := ⟨TRC_CTL, 8, 8⟩
abbrev TRC_CMD_OP : Fld := ⟨TRC_CMD, 0, 4⟩
abbrev TRC_CMD_STAT : Fld := ⟨TRC_CMD, 28, 4⟩
abbrev TRC_WIDX_IDX : Fld := ⟨TRC_WIDX, 0, 16⟩
abbrev TRC_WIDX_WRAP : Fld := ⟨TRC_WIDX, 16, 1⟩
abbrev TRC_RSEL_ENTRY : Fld := ⟨TRC_RSEL, 0, 16⟩

/-! ### LDU (R358): addresses, then fields -/

abbrev LDU_STAT : Nat := 0x340000
abbrev LDU_CMD : Nat := 0x340004
abbrev LDU_GEOM0 : Nat := 0x340008
abbrev LDU_GEOM1 : Nat := 0x34000C
abbrev LDU_GEOM0A : Nat := 0x340010
abbrev LDU_GEOM1A : Nat := 0x340014
abbrev LDU_DRV : Nat := 0x340018
abbrev LDU_DRVA : Nat := 0x34001C
abbrev LDU_ICUR (i : Nat) : Nat := 0x340020 + i * 0x4
abbrev LDU_ICURA (i : Nat) : Nat := 0x340030 + i * 0x4
abbrev LDU_SCALE : Nat := 0x340040
abbrev LDU_FFAC (i : Nat) : Nat := 0x340044 + i * 0x4
abbrev LDU_LINE : Nat := 0x340050
abbrev LDU_EVT : Nat := 0x340054
abbrev LDU_IE : Nat := 0x340058
abbrev LDU_POS : Nat := 0x34005C
abbrev LDU_SHOW : Nat := 0x340060
abbrev LDU_HOLD : Nat := 0x340064
abbrev LDU_HV : Nat := 0x340068
abbrev LDU_RES : Nat := 0x34006C
abbrev LDU_CNT_FLIPS : Nat := 0x340100
abbrev LDU_CNT_HOLDS : Nat := 0x340108
abbrev LDU_CNT_BLACKS : Nat := 0x340110
abbrev LDU_CNT_SSREF : Nat := 0x340118
abbrev LDU_CNT_DLKERR : Nat := 0x340120
abbrev LDU_CNT_HVOFF : Nat := 0x340128
abbrev LDU_CNT_SLOTS : Nat := 0x340130
abbrev LDU_STAT_NOLAMP : Fld := ⟨LDU_STAT, 0, 1⟩
abbrev LDU_STAT_LIT : Fld := ⟨LDU_STAT, 1, 1⟩
abbrev LDU_STAT_BLACK : Fld := ⟨LDU_STAT, 2, 1⟩
abbrev LDU_STAT_GEOMPEND : Fld := ⟨LDU_STAT, 3, 1⟩
abbrev LDU_STAT_DRVPEND : Fld := ⟨LDU_STAT, 4, 1⟩
abbrev LDU_STAT_HVOFF : Fld := ⟨LDU_STAT, 5, 1⟩
abbrev LDU_STAT_HVFLT : Fld := ⟨LDU_STAT, 6, 1⟩
abbrev LDU_STAT_DLKERR : Fld := ⟨LDU_STAT, 7, 1⟩
abbrev LDU_STAT_TRIPPED : Fld := ⟨LDU_STAT, 8, 1⟩
abbrev LDU_CMD_OP : Fld := ⟨LDU_CMD, 0, 4⟩
abbrev LDU_CMD_STAT : Fld := ⟨LDU_CMD, 28, 4⟩
abbrev LDU_GEOM0_ROWS : Fld := ⟨LDU_GEOM0, 0, 6⟩
abbrev LDU_GEOM0_SEGL : Fld := ⟨LDU_GEOM0, 6, 3⟩
abbrev LDU_GEOM0_SPREAD : Fld := ⟨LDU_GEOM0, 9, 1⟩
abbrev LDU_GEOM0_STAG : Fld := ⟨LDU_GEOM0, 10, 2⟩
abbrev LDU_GEOM0_RCYC : Fld := ⟨LDU_GEOM0, 16, 16⟩
abbrev LDU_GEOM1_BLANK : Fld := ⟨LDU_GEOM1, 0, 8⟩
abbrev LDU_GEOM1_DEAD : Fld := ⟨LDU_GEOM1, 8, 8⟩
abbrev LDU_GEOM0A_ROWS : Fld := ⟨LDU_GEOM0A, 0, 6⟩
abbrev LDU_GEOM0A_SEGL : Fld := ⟨LDU_GEOM0A, 6, 3⟩
abbrev LDU_GEOM0A_SPREAD : Fld := ⟨LDU_GEOM0A, 9, 1⟩
abbrev LDU_GEOM0A_STAG : Fld := ⟨LDU_GEOM0A, 10, 2⟩
abbrev LDU_GEOM0A_RCYC : Fld := ⟨LDU_GEOM0A, 16, 16⟩
abbrev LDU_GEOM1A_BLANK : Fld := ⟨LDU_GEOM1A, 0, 8⟩
abbrev LDU_GEOM1A_DEAD : Fld := ⟨LDU_GEOM1A, 8, 8⟩
abbrev LDU_DRV_PCHG : Fld := ⟨LDU_DRV, 0, 4⟩
abbrev LDU_DRV_PCHGEN : Fld := ⟨LDU_DRV, 4, 1⟩
abbrev LDU_DRVA_PCHG : Fld := ⟨LDU_DRVA, 0, 4⟩
abbrev LDU_DRVA_PCHGEN : Fld := ⟨LDU_DRVA, 4, 1⟩
abbrev LDU_ICUR_BASE (i : Nat) : Fld := ⟨(LDU_ICUR i), 0, 11⟩
abbrev LDU_ICURA_BASE (i : Nat) : Fld := ⟨(LDU_ICURA i), 0, 11⟩
abbrev LDU_ICURA_IC (i : Nat) : Fld := ⟨(LDU_ICURA i), 11, 11⟩
abbrev LDU_SCALE_SCALE : Fld := ⟨LDU_SCALE, 0, 17⟩
abbrev LDU_FFAC_F (i : Nat) : Fld := ⟨(LDU_FFAC i), 0, 17⟩
abbrev LDU_LINE_MATCH : Fld := ⟨LDU_LINE, 0, 6⟩
abbrev LDU_LINE_MSEG : Fld := ⟨LDU_LINE, 6, 6⟩
abbrev LDU_LINE_APPLY : Fld := ⟨LDU_LINE, 12, 6⟩
abbrev LDU_EVT_SOB : Fld := ⟨LDU_EVT, 0, 1⟩
abbrev LDU_EVT_LINE : Fld := ⟨LDU_EVT, 1, 1⟩
abbrev LDU_EVT_SDONE : Fld := ⟨LDU_EVT, 2, 1⟩
abbrev LDU_EVT_HOLD : Fld := ⟨LDU_EVT, 3, 1⟩
abbrev LDU_EVT_BLACK : Fld := ⟨LDU_EVT, 4, 1⟩
abbrev LDU_EVT_APPLY : Fld := ⟨LDU_EVT, 5, 1⟩
abbrev LDU_EVT_GAPPLY : Fld := ⟨LDU_EVT, 6, 1⟩
abbrev LDU_EVT_HVOFF : Fld := ⟨LDU_EVT, 7, 1⟩
abbrev LDU_IE_SOB : Fld := ⟨LDU_IE, 0, 1⟩
abbrev LDU_IE_LINE : Fld := ⟨LDU_IE, 1, 1⟩
abbrev LDU_IE_SDONE : Fld := ⟨LDU_IE, 2, 1⟩
abbrev LDU_IE_HOLD : Fld := ⟨LDU_IE, 3, 1⟩
abbrev LDU_IE_BLACK : Fld := ⟨LDU_IE, 4, 1⟩
abbrev LDU_IE_APPLY : Fld := ⟨LDU_IE, 5, 1⟩
abbrev LDU_IE_GAPPLY : Fld := ⟨LDU_IE, 6, 1⟩
abbrev LDU_IE_HVOFF : Fld := ⟨LDU_IE, 7, 1⟩
abbrev LDU_POS_ROW : Fld := ⟨LDU_POS, 0, 6⟩
abbrev LDU_POS_SEG : Fld := ⟨LDU_POS, 6, 6⟩
abbrev LDU_POS_PAD : Fld := ⟨LDU_POS, 12, 1⟩
abbrev LDU_POS_LIT : Fld := ⟨LDU_POS, 13, 1⟩
abbrev LDU_POS_T : Fld := ⟨LDU_POS, 16, 16⟩
abbrev LDU_SHOW_SEQ : Fld := ⟨LDU_SHOW, 0, 16⟩
abbrev LDU_SHOW_BUF : Fld := ⟨LDU_SHOW, 16, 3⟩
abbrev LDU_SHOW_BLACK : Fld := ⟨LDU_SHOW, 19, 1⟩
abbrev LDU_SHOW_VALID : Fld := ⟨LDU_SHOW, 20, 1⟩
abbrev LDU_SHOW_HCNT : Fld := ⟨LDU_SHOW, 24, 8⟩
abbrev LDU_HOLD_HOLDMAX : Fld := ⟨LDU_HOLD, 0, 8⟩
abbrev LDU_HV_VLED : Fld := ⟨LDU_HV, 0, 14⟩
abbrev LDU_HV_VLEDOK : Fld := ⟨LDU_HV, 16, 1⟩
abbrev LDU_HV_VDRVOK : Fld := ⟨LDU_HV, 17, 1⟩
abbrev LDU_HV_VGATEOK : Fld := ⟨LDU_HV, 18, 1⟩
abbrev LDU_RES_REASON : Fld := ⟨LDU_RES, 0, 4⟩

/-! ### LCR (R383): addresses, then fields -/

abbrev LCR_STAT : Nat := 0x380000
abbrev LCR_CMD : Nat := 0x380004
abbrev LCR_SRC : Nat := 0x380008
abbrev LCR_RES : Nat := 0x38000C
abbrev LCR_SETS : Nat := 0x380010
abbrev LCR_LBSN (i : Nat) : Nat := 0x380014 + i * 0x4
abbrev LCR_BTYPE : Nat := 0x38001C
abbrev LCR_SWITCH : Nat := 0x380020
abbrev LCR_CFG : Nat := 0x380024
abbrev LCR_DET : Nat := 0x380028
abbrev LCR_SCAL : Nat := 0x38002C
abbrev LCR_SCALQ : Nat := 0x380030
abbrev LCR_PROBE : Nat := 0x380034
abbrev LCR_PROBEST : Nat := 0x380038
abbrev LCR_NTCCFG : Nat := 0x38003C
abbrev LCR_LBT (i : Nat) : Nat := 0x380040 + i * 0x4
abbrev LCR_LBTMAX : Nat := 0x380060
abbrev LCR_LSEL : Nat := 0x380070
abbrev LCR_LAMP : Nat := 0x380074
abbrev LCR_FLCNT : Nat := 0x380078
abbrev LCR_CNT_OPENS : Nat := 0x380100
abbrev LCR_CNT_SHORTS : Nat := 0x380108
abbrev LCR_CNT_PINSHORTS : Nat := 0x380110
abbrev LCR_CNT_INTERMIT : Nat := 0x380118
abbrev LCR_CNT_PROBES : Nat := 0x380120
abbrev LCR_CNT_CALRUN : Nat := 0x380128
abbrev LCR_CNT_DUPDISC : Nat := 0x380130
abbrev LCR_CNT_SETLATE : Nat := 0x380138
abbrev LCR_FLIST (i : Nat) : Nat := 0x381000 + i * 0x4
abbrev LCR_TRIM (i : Nat) : Nat := 0x384000 + i * 0x4
abbrev LCR_STAT_NOLAMP : Fld := ⟨LCR_STAT, 0, 1⟩
abbrev LCR_STAT_CALMIS : Fld := ⟨LCR_STAT, 1, 1⟩
abbrev LCR_STAT_NOMAP : Fld := ⟨LCR_STAT, 2, 1⟩
abbrev LCR_STAT_EEFAIL : Fld := ⟨LCR_STAT, 3, 1⟩
abbrev LCR_STAT_SENSFAIL : Fld := ⟨LCR_STAT, 4, 1⟩
abbrev LCR_STAT_SHORTRUN : Fld := ⟨LCR_STAT, 5, 1⟩
abbrev LCR_STAT_SETINUSE : Fld := ⟨LCR_STAT, 8, 8⟩
abbrev LCR_CMD_OP : Fld := ⟨LCR_CMD, 0, 4⟩
abbrev LCR_CMD_SET : Fld := ⟨LCR_CMD, 4, 3⟩
abbrev LCR_CMD_STAT : Fld := ⟨LCR_CMD, 28, 4⟩
abbrev LCR_RES_REASON : Fld := ⟨LCR_RES, 0, 4⟩
abbrev LCR_RES_PIXEL : Fld := ⟨LCR_RES, 16, 16⟩
abbrev LCR_SETS_STORED : Fld := ⟨LCR_SETS, 0, 8⟩
abbrev LCR_SETS_STAGED : Fld := ⟨LCR_SETS, 8, 8⟩
abbrev LCR_SETS_KEYED : Fld := ⟨LCR_SETS, 16, 8⟩
abbrev LCR_SWITCH_SEQ : Fld := ⟨LCR_SWITCH, 0, 16⟩
abbrev LCR_SWITCH_PEND : Fld := ⟨LCR_SWITCH, 16, 1⟩
abbrev LCR_SWITCH_NEXTSET : Fld := ⟨LCR_SWITCH, 24, 8⟩
abbrev LCR_CFG_UPROG : Fld := ⟨LCR_CFG, 0, 1⟩
abbrev LCR_CFG_SHORTOFF : Fld := ⟨LCR_CFG, 1, 1⟩
abbrev LCR_DET_VOPEN : Fld := ⟨LCR_DET, 0, 8⟩
abbrev LCR_DET_VLS : Fld := ⟨LCR_DET, 8, 8⟩
abbrev LCR_DET_CONF : Fld := ⟨LCR_DET, 16, 4⟩
abbrev LCR_DET_ALERTN : Fld := ⟨LCR_DET, 20, 11⟩
abbrev LCR_SCAL_MODE : Fld := ⟨LCR_SCAL, 0, 1⟩
abbrev LCR_SCAL_DT : Fld := ⟨LCR_SCAL, 1, 7⟩
abbrev LCR_SCAL_LASTT : Fld := ⟨LCR_SCAL, 8, 8⟩
abbrev LCR_SCALQ_RESID : Fld := ⟨LCR_SCALQ, 0, 16⟩
abbrev LCR_SCALQ_STALE : Fld := ⟨LCR_SCALQ, 16, 1⟩
abbrev LCR_SCALQ_RUNNING : Fld := ⟨LCR_SCALQ, 17, 1⟩
abbrev LCR_SCALQ_PIECES : Fld := ⟨LCR_SCALQ, 18, 6⟩
abbrev LCR_PROBE_SEL : Fld := ⟨LCR_PROBE, 0, 1⟩
abbrev LCR_PROBE_REP : Fld := ⟨LCR_PROBE, 1, 1⟩
abbrev LCR_PROBE_PER : Fld := ⟨LCR_PROBE, 2, 8⟩
abbrev LCR_PROBE_MINAGE : Fld := ⟨LCR_PROBE, 10, 16⟩
abbrev LCR_PROBEST_PASS : Fld := ⟨LCR_PROBEST, 0, 1⟩
abbrev LCR_PROBEST_REPEATING : Fld := ⟨LCR_PROBEST, 1, 1⟩
abbrev LCR_PROBEST_COUNT : Fld := ⟨LCR_PROBEST, 8, 16⟩
abbrev LCR_NTCCFG_EN : Fld := ⟨LCR_NTCCFG, 0, 4⟩
abbrev LCR_NTCCFG_BETA : Fld := ⟨LCR_NTCCFG, 4, 16⟩
abbrev LCR_NTCCFG_FAILT : Fld := ⟨LCR_NTCCFG, 20, 8⟩
abbrev LCR_LBT_T (i : Nat) : Fld := ⟨(LCR_LBT i), 0, 16⟩
abbrev LCR_LBT_VALID (i : Nat) : Fld := ⟨(LCR_LBT i), 16, 1⟩
abbrev LCR_LBTMAX_T : Fld := ⟨LCR_LBTMAX, 0, 16⟩
abbrev LCR_LSEL_ROW : Fld := ⟨LCR_LSEL, 0, 6⟩
abbrev LCR_LSEL_SINK : Fld := ⟨LCR_LSEL, 6, 12⟩
abbrev LCR_LAMP_VERDICT : Fld := ⟨LCR_LAMP, 0, 3⟩
abbrev LCR_LAMP_UNV : Fld := ⟨LCR_LAMP, 3, 1⟩
abbrev LCR_LAMP_AGE : Fld := ⟨LCR_LAMP, 4, 16⟩
abbrev LCR_LAMP_STREAK : Fld := ⟨LCR_LAMP, 20, 4⟩
abbrev LCR_LAMP_PROBED : Fld := ⟨LCR_LAMP, 24, 1⟩
abbrev LCR_FLCNT_COUNT : Fld := ⟨LCR_FLCNT, 0, 11⟩
abbrev LCR_FLCNT_OVF : Fld := ⟨LCR_FLCNT, 11, 1⟩
abbrev LCR_FLCNT_UNLISTED : Fld := ⟨LCR_FLCNT, 16, 16⟩
abbrev LCR_FLIST_ROW (i : Nat) : Fld := ⟨(LCR_FLIST i), 0, 6⟩
abbrev LCR_FLIST_SINK (i : Nat) : Fld := ⟨(LCR_FLIST i), 6, 12⟩
abbrev LCR_FLIST_VERDICT (i : Nat) : Fld := ⟨(LCR_FLIST i), 18, 3⟩
abbrev LCR_TRIM_TARGET (i : Nat) : Fld := ⟨(LCR_TRIM i), 0, 12⟩
abbrev LCR_TRIM_APPLIED (i : Nat) : Fld := ⟨(LCR_TRIM i), 16, 12⟩

/-! ### LPE (R404): addresses, then fields -/

abbrev LPE_STAT : Nat := 0x3C0000
abbrev LPE_SUP : Nat := 0x3C0004
abbrev LPE_SUP_DUTY : Nat := 0x3C0008
abbrev LPE_QREF : Nat := 0x3C0040
abbrev LPE_CH_CFG (i : Nat) : Nat := 0x003C_1000 + i * 0x100
abbrev LPE_CH_MODE (i : Nat) : Nat := 0x003C_1000 + i * 0x100 + 0x4
abbrev LPE_CH (i : Nat) : Nat := 0x003C_1000 + i * 0x100 + 0x8
abbrev LPE_CH_SPER (i : Nat) : Nat := 0x003C_1000 + i * 0x100 + 0xC
abbrev LPE_CH_REF (i : Nat) : Nat := 0x003C_1000 + i * 0x100 + 0x10
abbrev LPE_CH_MAN (i : Nat) : Nat := 0x003C_1000 + i * 0x100 + 0x14
abbrev LPE_CH_ALPHA (i : Nat) : Nat := 0x003C_1000 + i * 0x100 + 0x18
abbrev LPE_CH_RATE (i : Nat) : Nat := 0x003C_1000 + i * 0x100 + 0x1C
abbrev LPE_CH_KPA (i : Nat) : Nat := 0x003C_1000 + i * 0x100 + 0x20
abbrev LPE_CH_KIA (i : Nat) : Nat := 0x003C_1000 + i * 0x100 + 0x24
abbrev LPE_CH_OMINA (i : Nat) : Nat := 0x003C_1000 + i * 0x100 + 0x28
abbrev LPE_CH_OMAXA (i : Nat) : Nat := 0x003C_1000 + i * 0x100 + 0x2C
abbrev LPE_CH_KPB (i : Nat) : Nat := 0x003C_1000 + i * 0x100 + 0x30
abbrev LPE_CH_KIB (i : Nat) : Nat := 0x003C_1000 + i * 0x100 + 0x34
abbrev LPE_CH_OMINB (i : Nat) : Nat := 0x003C_1000 + i * 0x100 + 0x38
abbrev LPE_CH_OMAXB (i : Nat) : Nat := 0x003C_1000 + i * 0x100 + 0x3C
abbrev LPE_CH_HIN (i : Nat) : Nat := 0x003C_1000 + i * 0x100 + 0x40
abbrev LPE_CH_OINIT (i : Nat) : Nat := 0x003C_1000 + i * 0x100 + 0x44
abbrev LPE_CH_IN (i : Nat) : Nat := 0x003C_1000 + i * 0x100 + 0x50
abbrev LPE_CH_ERR (i : Nat) : Nat := 0x003C_1000 + i * 0x100 + 0x54
abbrev LPE_CH_INTEG (i : Nat) : Nat := 0x003C_1000 + i * 0x100 + 0x58
abbrev LPE_CH_OUT (i : Nat) : Nat := 0x003C_1000 + i * 0x100 + 0x5C
abbrev LPE_PROF (i : Nat) : Nat := 0x003C_1000 + i * 0x100 + 0x60
abbrev LPE_PROF_TGT (i : Nat) : Nat := 0x003C_1000 + i * 0x100 + 0x64
abbrev LPE_PROF_V (i : Nat) : Nat := 0x003C_1000 + i * 0x100 + 0x68
abbrev LPE_PROF_AL (i : Nat) : Nat := 0x003C_1000 + i * 0x100 + 0x6C
abbrev LPE_PROF_JL (i : Nat) : Nat := 0x003C_1000 + i * 0x100 + 0x70
abbrev LPE_PROF_X (i : Nat) : Nat := 0x003C_1000 + i * 0x100 + 0x74
abbrev LPE_PROF_VEL (i : Nat) : Nat := 0x003C_1000 + i * 0x100 + 0x78
abbrev LPE_PROF_ACC (i : Nat) : Nat := 0x003C_1000 + i * 0x100 + 0x7C
abbrev LPE_PROF_VA (i : Nat) : Nat := 0x003C_1000 + i * 0x100 + 0x84
abbrev LPE_PROF_AA (i : Nat) : Nat := 0x003C_1000 + i * 0x100 + 0x88
abbrev LPE_PROF_JA (i : Nat) : Nat := 0x003C_1000 + i * 0x100 + 0x8C
abbrev LPE_CH_SATCNT (i : Nat) : Nat := 0x003C_1000 + i * 0x100 + 0xC0
abbrev LPE_CH_HOCNT (i : Nat) : Nat := 0x003C_1000 + i * 0x100 + 0xC8
abbrev LPE_TGT_W0 (i : Nat) : Nat := 0x003C_4000 + i * 0x20
abbrev LPE_TGT (i j : Nat) : Nat := 0x003C_4000 + i * 0x20 + 0x4 + j * 0x4
abbrev LPE_STAT_RUNNING : Fld := ⟨LPE_STAT, 0, 1⟩
abbrev LPE_STAT_SAFE : Fld := ⟨LPE_STAT, 1, 1⟩
abbrev LPE_STAT_HDRSTALE : Fld := ⟨LPE_STAT, 2, 1⟩
abbrev LPE_STAT_HDRM : Fld := ⟨LPE_STAT, 5, 16⟩
abbrev LPE_SUP_SAFE : Fld := ⟨LPE_SUP, 0, 16⟩
abbrev LPE_SUP_DUTY_DUTY : Fld := ⟨LPE_SUP_DUTY, 0, 17⟩
abbrev LPE_CH_CFG_IN (i : Nat) : Fld := ⟨(LPE_CH_CFG i), 0, 3⟩
abbrev LPE_CH_CFG_INCH (i : Nat) : Fld := ⟨(LPE_CH_CFG i), 3, 4⟩
abbrev LPE_CH_CFG_FILT (i : Nat) : Fld := ⟨(LPE_CH_CFG i), 7, 1⟩
abbrev LPE_CH_CFG_NEG (i : Nat) : Fld := ⟨(LPE_CH_CFG i), 8, 1⟩
abbrev LPE_CH_CFG_REFSRC (i : Nat) : Fld := ⟨(LPE_CH_CFG i), 9, 1⟩
abbrev LPE_CH_CFG_COMB (i : Nat) : Fld := ⟨(LPE_CH_CFG i), 10, 2⟩
abbrev LPE_CH_CFG_CMBCH (i : Nat) : Fld := ⟨(LPE_CH_CFG i), 12, 4⟩
abbrev LPE_CH_CFG_DEST (i : Nat) : Fld := ⟨(LPE_CH_CFG i), 16, 2⟩
abbrev LPE_CH_MODE_REQ (i : Nat) : Fld := ⟨(LPE_CH_MODE i), 0, 4⟩
abbrev LPE_CH_MODE_CUR (i : Nat) : Fld := ⟨(LPE_CH_MODE i), 4, 4⟩
abbrev LPE_CH_SAT (i : Nat) : Fld := ⟨(LPE_CH i), 0, 1⟩
abbrev LPE_CH_LIM (i : Nat) : Fld := ⟨(LPE_CH i), 1, 1⟩
abbrev LPE_CH_HOSAT (i : Nat) : Fld := ⟨(LPE_CH i), 2, 1⟩
abbrev LPE_CH_INSTALE (i : Nat) : Fld := ⟨(LPE_CH i), 3, 1⟩
abbrev LPE_CH_CUR (i : Nat) : Fld := ⟨(LPE_CH i), 4, 3⟩
abbrev LPE_CH_SPER_SPER (i : Nat) : Fld := ⟨(LPE_CH_SPER i), 0, 14⟩
abbrev LPE_PROF_DONE (i : Nat) : Fld := ⟨(LPE_PROF i), 0, 1⟩
abbrev LPE_PROF_LIMPEND (i : Nat) : Fld := ⟨(LPE_PROF i), 1, 1⟩
abbrev LPE_PROF_OVSF (i : Nat) : Fld := ⟨(LPE_PROF i), 2, 1⟩
abbrev LPE_PROF_OVS (i : Nat) : Fld := ⟨(LPE_PROF i), 8, 24⟩
abbrev LPE_TGT_W0_CH (i : Nat) : Fld := ⟨(LPE_TGT_W0 i), 0, 4⟩
abbrev LPE_TGT_W0_VALID (i : Nat) : Fld := ⟨(LPE_TGT_W0 i), 4, 1⟩
abbrev LPE_TGT_W0_HELD (i : Nat) : Fld := ⟨(LPE_TGT_W0 i), 5, 1⟩
abbrev LPE_TGT_W0_CMDID (i : Nat) : Fld := ⟨(LPE_TGT_W0 i), 16, 16⟩

/-! ### RDN (R427): addresses, then fields -/

abbrev RDN_CFG : Nat := 0x400000
abbrev RDN_CMD : Nat := 0x400004
abbrev RDN_STAT : Nat := 0x400008
abbrev RDN_PATH : Nat := 0x40000C
abbrev RDN_EPOCH : Nat := 0x400010
abbrev RDN_EPSTAT : Nat := 0x400014
abbrev RDN_VOTE : Nat := 0x400018
abbrev RDN_SWAPSEQ : Nat := 0x40001C
abbrev RDN_VOTESEQ : Nat := 0x400020
abbrev RDN_TAKEOVERS : Nat := 0x400100
abbrev RDN_SWAPS : Nat := 0x400108
abbrev RDN_DIGCMP : Nat := 0x400110
abbrev RDN_DIGMIS : Nat := 0x400118
abbrev RDN_RECMIS : Nat := 0x400120
abbrev RDN_NOCMP : Nat := 0x400128
abbrev RDN_VOTES : Nat := 0x400130
abbrev RDN_HBTMISS : Nat := 0x400138
abbrev RDN_EPINST : Nat := 0x400140
abbrev RDN_EPDISC : Nat := 0x400148
abbrev RDN_DUALACT : Nat := 0x400150
abbrev RDN_CFG_EN : Fld := ⟨RDN_CFG, 0, 1⟩
abbrev RDN_CFG_PRIMARY : Fld := ⟨RDN_CFG, 1, 1⟩
abbrev RDN_CFG_REVERT : Fld := ⟨RDN_CFG, 2, 1⟩
abbrev RDN_CFG_PARTNER : Fld := ⟨RDN_CFG, 3, 6⟩
abbrev RDN_CFG_PPORT : Fld := ⟨RDN_CFG, 9, 4⟩
abbrev RDN_CFG_WAIT : Fld := ⟨RDN_CFG, 13, 8⟩
abbrev RDN_CMD_OP : Fld := ⟨RDN_CMD, 0, 4⟩
abbrev RDN_CMD_DUR : Fld := ⟨RDN_CMD, 4, 12⟩
abbrev RDN_CMD_STAT : Fld := ⟨RDN_CMD, 28, 4⟩
abbrev RDN_STAT_STATE : Fld := ⟨RDN_STAT, 0, 4⟩
abbrev RDN_STAT_PEERDOWN : Fld := ⟨RDN_STAT, 4, 1⟩
abbrev RDN_STAT_STALE : Fld := ⟨RDN_STAT, 5, 1⟩
abbrev RDN_STAT_DISAGREE : Fld := ⟨RDN_STAT, 6, 1⟩
abbrev RDN_STAT_SELFBAD : Fld := ⟨RDN_STAT, 7, 1⟩
abbrev RDN_STAT_CFGMIS : Fld := ⟨RDN_STAT, 8, 1⟩
abbrev RDN_STAT_DUALACT : Fld := ⟨RDN_STAT, 9, 1⟩
abbrev RDN_STAT_PSTATE : Fld := ⟨RDN_STAT, 10, 4⟩
abbrev RDN_STAT_NOEPOCH : Fld := ⟨RDN_STAT, 14, 1⟩
abbrev RDN_STAT_STALEEP : Fld := ⟨RDN_STAT, 16, 16⟩
abbrev RDN_PATH_PLINK : Fld := ⟨RDN_PATH, 0, 1⟩
abbrev RDN_PATH_MISS : Fld := ⟨RDN_PATH, 1, 3⟩
abbrev RDN_PATH_RING : Fld := ⟨RDN_PATH, 16, 16⟩
abbrev RDN_EPOCH_NUM : Fld := ⟨RDN_EPOCH, 0, 16⟩
abbrev RDN_EPOCH_ACTID : Fld := ⟨RDN_EPOCH, 16, 16⟩
abbrev RDN_EPSTAT_ANN : Fld := ⟨RDN_EPSTAT, 0, 16⟩
abbrev RDN_EPSTAT_OPEN : Fld := ⟨RDN_EPSTAT, 16, 1⟩
abbrev RDN_EPSTAT_BYTES : Fld := ⟨RDN_EPSTAT, 17, 15⟩
abbrev RDN_VOTE_TILE : Fld := ⟨RDN_VOTE, 0, 16⟩
abbrev RDN_VOTE_SLICE : Fld := ⟨RDN_VOTE, 16, 4⟩
abbrev RDN_VOTE_RESULT : Fld := ⟨RDN_VOTE, 20, 3⟩
abbrev RDN_SWAPSEQ_SLOT : Fld := ⟨RDN_SWAPSEQ, 0, 16⟩
abbrev RDN_SWAPSEQ_PENDING : Fld := ⟨RDN_SWAPSEQ, 16, 1⟩
abbrev RDN_VOTESEQ_SLOT : Fld := ⟨RDN_VOTESEQ, 0, 16⟩

/-! ### CVU (R451): addresses, then fields -/

abbrev CVU_CFG (i : Nat) : Nat := 0x0048_0000 + i * 0x100
abbrev CVU_CMD (i : Nat) : Nat := 0x0048_0000 + i * 0x100 + 0x4
abbrev CVU_STAT (i : Nat) : Nat := 0x0048_0000 + i * 0x100 + 0x8
abbrev CVU_POLYL (i : Nat) : Nat := 0x0048_0000 + i * 0x100 + 0x10
abbrev CVU_POLYH (i : Nat) : Nat := 0x0048_0000 + i * 0x100 + 0x14
abbrev CVU_INITL (i : Nat) : Nat := 0x0048_0000 + i * 0x100 + 0x18
abbrev CVU_INITH (i : Nat) : Nat := 0x0048_0000 + i * 0x100 + 0x1C
abbrev CVU_XORL (i : Nat) : Nat := 0x0048_0000 + i * 0x100 + 0x20
abbrev CVU_XORH (i : Nat) : Nat := 0x0048_0000 + i * 0x100 + 0x24
abbrev CVU_BADDR (i j : Nat) : Nat := 0x0048_0000 + i * 0x100 + 0x30 + j * 0x4
abbrev CVU_BPORT (i : Nat) : Nat := 0x0048_0000 + i * 0x100 + 0x40
abbrev CVU_RXOK (i : Nat) : Nat := 0x0048_0000 + i * 0x100 + 0x80
abbrev CVU_RXBAD (i : Nat) : Nat := 0x0048_0000 + i * 0x100 + 0x88
abbrev CVU_ALVREP (i : Nat) : Nat := 0x0048_0000 + i * 0x100 + 0x90
abbrev CVU_ALVSKIP (i : Nat) : Nat := 0x0048_0000 + i * 0x100 + 0x98
abbrev CVU_TXMSG (i : Nat) : Nat := 0x0048_0000 + i * 0x100 + 0xA0
abbrev CVU_CFG_WIDTH (i : Nat) : Fld := ⟨(CVU_CFG i), 0, 7⟩
abbrev CVU_CFG_REFIN (i : Nat) : Fld := ⟨(CVU_CFG i), 7, 1⟩
abbrev CVU_CFG_REFOUT (i : Nat) : Fld := ⟨(CVU_CFG i), 8, 1⟩
abbrev CVU_CFG_RX (i : Nat) : Fld := ⟨(CVU_CFG i), 9, 1⟩
abbrev CVU_CFG_TX (i : Nat) : Fld := ⟨(CVU_CFG i), 10, 1⟩
abbrev CVU_CMD_OP (i : Nat) : Fld := ⟨(CVU_CMD i), 0, 4⟩
abbrev CVU_CMD_STAT (i : Nat) : Fld := ⟨(CVU_CMD i), 28, 4⟩
abbrev CVU_STAT_EN (i : Nat) : Fld := ⟨(CVU_STAT i), 0, 1⟩
abbrev CVU_STAT_CHKFAIL (i : Nat) : Fld := ⟨(CVU_STAT i), 1, 1⟩
abbrev CVU_STAT_ALVREP (i : Nat) : Fld := ⟨(CVU_STAT i), 2, 1⟩
abbrev CVU_STAT_ALVSKIP (i : Nat) : Fld := ⟨(CVU_STAT i), 3, 1⟩
abbrev CVU_STAT_REASON (i : Nat) : Fld := ⟨(CVU_STAT i), 4, 4⟩
abbrev CVU_STAT_RXALV (i : Nat) : Fld := ⟨(CVU_STAT i), 8, 8⟩
abbrev CVU_STAT_TXALV (i : Nat) : Fld := ⟨(CVU_STAT i), 16, 8⟩
abbrev CVU_BPORT_UDP (i : Nat) : Fld := ⟨(CVU_BPORT i), 0, 16⟩
abbrev CVU_BPORT_PORT (i : Nat) : Fld := ⟨(CVU_BPORT i), 16, 2⟩
abbrev CVU_BPORT_IPV6 (i : Nat) : Fld := ⟨(CVU_BPORT i), 18, 1⟩

/-! ### BOOT (R485): addresses, then fields -/

abbrev BOOT_STAT : Nat := 0x4C0000
abbrev BOOT_CMD : Nat := 0x4C0004
abbrev BOOT_ARG : Nat := 0x4C0008
abbrev BOOT_CFG : Nat := 0x4C000C
abbrev BOOT_COUNT : Nat := 0x4C0010
abbrev BOOT_FUSE : Nat := 0x4C0014
abbrev BOOT_LOAD : Nat := 0x4C0018
abbrev BOOT_RES : Nat := 0x4C001C
abbrev BOOT_RUNVER_L : Nat := 0x4C0020
abbrev BOOT_RUNVER_H : Nat := 0x4C0024
abbrev BOOT_BSR (i : Nat) : Nat := 0x4C0040 + i * 0x4
abbrev BOOT_DLCMD : Nat := 0x4C0080
abbrev BOOT_DLARG0 : Nat := 0x4C0084
abbrev BOOT_DLARG1 : Nat := 0x4C0088
abbrev BOOT_DLARG2 : Nat := 0x4C008C
abbrev BOOT_DLARG3 : Nat := 0x4C0090
abbrev BOOT_DLSTAT : Nat := 0x4C0094
abbrev BOOT_PIECEBAD : Nat := 0x4C0100
abbrev BOOT_SETERR : Nat := 0x4C0108
abbrev BOOT_FLERR : Nat := 0x4C0110
abbrev BOOT_DLMAP (i : Nat) : Nat := 0x4C0200 + i * 0x4
abbrev BOOT_PBUF (i : Nat) : Nat := 0x4C4000 + i * 0x4
abbrev BOOT_STAT_RUNSLOT : Fld := ⟨BOOT_STAT, 0, 1⟩
abbrev BOOT_STAT_CSTATE : Fld := ⟨BOOT_STAT, 1, 2⟩
abbrev BOOT_STAT_TRIALS : Fld := ⟨BOOT_STAT, 3, 2⟩
abbrev BOOT_STAT_LASTREJ : Fld := ⟨BOOT_STAT, 5, 4⟩
abbrev BOOT_STAT_SETINC : Fld := ⟨BOOT_STAT, 9, 1⟩
abbrev BOOT_STAT_CORRUPT : Fld := ⟨BOOT_STAT, 10, 1⟩
abbrev BOOT_STAT_TRIMFAIL : Fld := ⟨BOOT_STAT, 11, 1⟩
abbrev BOOT_STAT_BDFAIL : Fld := ⟨BOOT_STAT, 12, 1⟩
abbrev BOOT_STAT_SETCONV : Fld := ⟨BOOT_STAT, 13, 1⟩
abbrev BOOT_STAT_SETVER : Fld := ⟨BOOT_STAT, 16, 16⟩
abbrev BOOT_CMD_OP : Fld := ⟨BOOT_CMD, 0, 4⟩
abbrev BOOT_CMD_SLOT : Fld := ⟨BOOT_CMD, 4, 1⟩
abbrev BOOT_CMD_STAT : Fld := ⟨BOOT_CMD, 28, 4⟩
abbrev BOOT_CFG_AUTOCONF : Fld := ⟨BOOT_CFG, 0, 1⟩
abbrev BOOT_CFG_SECBURN : Fld := ⟨BOOT_CFG, 1, 1⟩
abbrev BOOT_CFG_STARTPS : Fld := ⟨BOOT_CFG, 2, 2⟩
abbrev BOOT_CFG_CONSOLE : Fld := ⟨BOOT_CFG, 4, 1⟩
abbrev BOOT_FUSE_PROD : Fld := ⟨BOOT_FUSE, 0, 1⟩
abbrev BOOT_FUSE_KEYOK : Fld := ⟨BOOT_FUSE, 1, 4⟩
abbrev BOOT_FUSE_REVOKED : Fld := ⟨BOOT_FUSE, 5, 4⟩
abbrev BOOT_FUSE_FSECVER : Fld := ⟨BOOT_FUSE, 9, 6⟩
abbrev BOOT_LOAD_RANGERS : Fld := ⟨BOOT_LOAD, 0, 1⟩
abbrev BOOT_LOAD_LANEFW : Fld := ⟨BOOT_LOAD, 1, 1⟩
abbrev BOOT_LOAD_LPE : Fld := ⟨BOOT_LOAD, 2, 1⟩
abbrev BOOT_LOAD_KERF : Fld := ⟨BOOT_LOAD, 3, 1⟩
abbrev BOOT_LOAD_TRIM : Fld := ⟨BOOT_LOAD, 4, 1⟩
abbrev BOOT_LOAD_SETAPP : Fld := ⟨BOOT_LOAD, 5, 1⟩
abbrev BOOT_RES_REASON : Fld := ⟨BOOT_RES, 0, 4⟩
abbrev BOOT_RES_R461 : Fld := ⟨BOOT_RES, 8, 4⟩
abbrev BOOT_DLCMD_OP : Fld := ⟨BOOT_DLCMD, 0, 4⟩
abbrev BOOT_DLCMD_STAT : Fld := ⟨BOOT_DLCMD, 28, 4⟩
abbrev BOOT_DLARG2_PIECE : Fld := ⟨BOOT_DLARG2, 0, 10⟩
abbrev BOOT_DLSTAT_STATE : Fld := ⟨BOOT_DLSTAT, 0, 2⟩
abbrev BOOT_DLSTAT_SLOT : Fld := ⟨BOOT_DLSTAT, 2, 1⟩
abbrev BOOT_DLSTAT_HELD : Fld := ⟨BOOT_DLSTAT, 3, 11⟩
abbrev BOOT_DLSTAT_NPIECE : Fld := ⟨BOOT_DLSTAT, 16, 11⟩

/-! ### THM (R502): addresses, then fields -/

abbrev THM_STAT : Nat := 0x440000
abbrev THM_CFG : Nat := 0x440004
abbrev THM_MAX : Nat := 0x440008
abbrev THM_RORMAX : Nat := 0x44000C
abbrev THM_WARNS : Nat := 0x440040
abbrev THM_STOPS : Nat := 0x440048
abbrev THM_TRIPS : Nat := 0x440050
abbrev THM_RORS : Nat := 0x440058
abbrev THM_SENS (i : Nat) : Nat := 0x440100 + i * 0x4
abbrev THM_SUP (i : Nat) : Nat := 0x440200 + i * 0x4
abbrev THM_STAT_STATE : Fld := ⟨THM_STAT, 0, 3⟩
abbrev THM_STAT_WARN : Fld := ⟨THM_STAT, 3, 1⟩
abbrev THM_STAT_STOPPED : Fld := ⟨THM_STAT, 4, 1⟩
abbrev THM_STAT_TRIPPED : Fld := ⟨THM_STAT, 5, 1⟩
abbrev THM_STAT_ROR : Fld := ⟨THM_STAT, 6, 1⟩
abbrev THM_STAT_SUPPLY : Fld := ⟨THM_STAT, 7, 1⟩
abbrev THM_STAT_MEMOVERT : Fld := ⟨THM_STAT, 8, 1⟩
abbrev THM_STAT_SENSOR : Fld := ⟨THM_STAT, 9, 6⟩
abbrev THM_STAT_STOPF : Fld := ⟨THM_STAT, 15, 17⟩
abbrev THM_CFG_ROR : Fld := ⟨THM_CFG, 0, 8⟩
abbrev THM_CFG_RORFLOOR : Fld := ⟨THM_CFG, 8, 8⟩
abbrev THM_CFG_RORACT : Fld := ⟨THM_CFG, 16, 1⟩
abbrev THM_CFG_RESUME : Fld := ⟨THM_CFG, 17, 8⟩
abbrev THM_MAX_T : Fld := ⟨THM_MAX, 0, 16⟩
abbrev THM_MAX_SENSOR : Fld := ⟨THM_MAX, 16, 5⟩
abbrev THM_RORMAX_RISE : Fld := ⟨THM_RORMAX, 0, 16⟩
abbrev THM_RORMAX_SENSOR : Fld := ⟨THM_RORMAX, 16, 5⟩
abbrev THM_SENS_T (i : Nat) : Fld := ⟨(THM_SENS i), 0, 16⟩
abbrev THM_SENS_VALID (i : Nat) : Fld := ⟨(THM_SENS i), 16, 1⟩
abbrev THM_SENS_FAST (i : Nat) : Fld := ⟨(THM_SENS i), 17, 1⟩
abbrev THM_SUP_MV (i : Nat) : Fld := ⟨(THM_SUP i), 0, 16⟩
abbrev THM_SUP_OK (i : Nat) : Fld := ⟨(THM_SUP i), 16, 1⟩

/-! ### The register table -/

/-- Register rows of GLB (R543). -/
def regsGLB : List RegRow :=
  [⟨0x0, 1, 0x10000000000, 1, 0x10000000000, 1, .ro, 0x7264, 0x7264, 0x0, 0x0⟩ /- GLB_ID -/,
   ⟨0x4, 1, 0x10000000000, 1, 0x10000000000, 1, .ro, 0x1, 0x0, 0x0, 0x0⟩ /- GLB_STRAP -/,
   ⟨0x8, 1, 0x10000000000, 1, 0x10000000000, 1, .ro, 0x0, 0x0, 0x0, 0x0⟩ /- GLB_UNITSN_L -/,
   ⟨0xC, 1, 0x10000000000, 1, 0x10000000000, 1, .ro, 0x0, 0x0, 0x0, 0x0⟩ /- GLB_UNITSN_H -/,
   ⟨0x10, 1, 0x10000000000, 1, 0x10000000000, 1, .ro, 0x0, 0x0, 0x0, 0x0⟩ /- GLB_FWVER -/,
   ⟨0x40, 1, 0x10000000000, 1, 0x10000000000, 1, .ro, 0x0, 0x0, 0x0, 0x0⟩ /- GLB_PACE -/,
   ⟨0x100, 2, 0x20, 4, 0x4, 1, .rw, 0x0, 0x0, 0xFFFFFFFF, 0x0⟩ /- GLB_NDEST -/,
   ⟨0x110, 1, 0x10000000000, 2, 0x20, 1, .rw, 0x0, 0x0, 0xFFFFF, 0x0⟩ /- GLB_NDEST_W4 -/,
   ⟨0x140, 1, 0x10000000000, 1, 0x10000000000, 1, .rw, 0x7FFE, 0x7FFE, 0xFFFFFFFF, 0x0⟩ /- GLB_NMASK -/,
   ⟨0x150, 1, 0x10000000000, 1, 0x10000000000, 1, .ro, 0x0, 0x0, 0x0, 0x0⟩ /- GLB_NSEQ -/,
   ⟨0x154, 1, 0x10000000000, 1, 0x10000000000, 1, .ro, 0x0, 0x0, 0x0, 0x0⟩ /- GLB_NLOGIDX -/,
   ⟨0x180, 1, 0x10000000000, 1, 0x10000000000, 2, .counter, 0x0, 0x0, 0x0, 0x0⟩ /- GLB_CTLERR -/,
   ⟨0x188, 1, 0x10000000000, 1, 0x10000000000, 2, .counter, 0x0, 0x0, 0x0, 0x0⟩ /- GLB_DUPRSP -/,
   ⟨0x190, 1, 0x10000000000, 1, 0x10000000000, 2, .counter, 0x0, 0x0, 0x0, 0x0⟩ /- GLB_NDROP -/,
   ⟨0x198, 1, 0x10000000000, 1, 0x10000000000, 2, .counter, 0x0, 0x0, 0x0, 0x0⟩ /- GLB_SVCBAD -/,
   ⟨0x1000, 1, 0x10000000000, 1024, 0x4, 1, .ro, 0x0, 0x0, 0x0, 0x0⟩ /- GLB_NLOG -/]

/-- Register rows of PWR (R543). -/
def regsPWR : List RegRow :=
  [⟨0x10000, 1, 0x10000000000, 1, 0x10000000000, 1, .cmd, 0x0, 0x0, 0x0, 0x0⟩ /- PWR_CMD -/,
   ⟨0x10004, 1, 0x10000000000, 1, 0x10000000000, 1, .ro, 0x1, 0x1, 0x0, 0x0⟩ /- PWR_STAT -/,
   ⟨0x10008, 1, 0x10000000000, 1, 0x10000000000, 1, .cmd, 0x0, 0x0, 0x0, 0x0⟩ /- PWR_VCMD -/,
   ⟨0x1000C, 1, 0x10000000000, 1, 0x10000000000, 1, .rw, 0x540, 0x540, 0xFF7F, 0x0⟩ /- PWR_VCFG -/,
   ⟨0x10010, 1, 0x10000000000, 1, 0x10000000000, 1, .ro, 0x0, 0x0, 0x0, 0x0⟩ /- PWR_VMEAS -/,
   ⟨0x10014, 1, 0x10000000000, 1, 0x10000000000, 1, .ro, 0x0, 0x0, 0x0, 0x0⟩ /- PWR_LSDET -/,
   ⟨0x10040, 1, 0x10000000000, 1, 0x10000000000, 2, .counter, 0x0, 0x0, 0x0, 0x0⟩ /- PWR_TRANS -/,
   ⟨0x10048, 1, 0x10000000000, 1, 0x10000000000, 2, .counter, 0x0, 0x0, 0x0, 0x0⟩ /- PWR_AUTO -/]

/-- Register rows of TMU (R543). -/
def regsTMU : List RegRow :=
  [⟨0x20000, 1, 0x10000000000, 1, 0x10000000000, 1, .ro, 0x0, 0x0, 0x0, 0x0⟩ /- TMU_TIME_NS -/,
   ⟨0x20004, 1, 0x10000000000, 1, 0x10000000000, 1, .ro, 0x0, 0x0, 0x0, 0x0⟩ /- TMU_TIME_SL -/,
   ⟨0x20008, 1, 0x10000000000, 1, 0x10000000000, 1, .ro, 0x0, 0x0, 0x0, 0x0⟩ /- TMU_TIME_SH -/,
   ⟨0x2000C, 1, 0x10000000000, 1, 0x10000000000, 1, .cmd, 0x0, 0x0, 0x0, 0x0⟩ /- TMU_CMD -/,
   ⟨0x20010, 1, 0x10000000000, 1, 0x10000000000, 1, .rw, 0x0, 0x10, 0x0, 0x87E0⟩ /- TMU_SRV_STAT -/,
   ⟨0x20014, 1, 0x10000000000, 1, 0x10000000000, 1, .ro, 0x0, 0x0, 0x0, 0x0⟩ /- TMU_SRV_OFS -/,
   ⟨0x20018, 1, 0x10000000000, 1, 0x10000000000, 1, .ro, 0x0, 0x0, 0x0, 0x0⟩ /- TMU_SRV_FREQ -/,
   ⟨0x2001C, 1, 0x10000000000, 1, 0x10000000000, 1, .rw, 0x2000000, 0x40000000, 0xFFFFFFFF, 0x0⟩ /- TMU_SRV_KP -/,
   ⟨0x20020, 1, 0x10000000000, 1, 0x10000000000, 1, .rw, 0x100000, 0x1000000, 0xFFFFFFFF, 0x0⟩ /- TMU_SRV_KI -/,
   ⟨0x20024, 1, 0x10000000000, 1, 0x10000000000, 1, .rw, 0x590643E8, 0x590140C8, 0xFFFFFFFF, 0x0⟩ /- TMU_SRV_CFG -/,
   ⟨0x20028, 1, 0x10000000000, 1, 0x10000000000, 1, .rw, 0x4307FF, 0x4307FF, 0xFF1FFF, 0x0⟩ /- TMU_PTP_CFG -/,
   ⟨0x20030, 1, 0x10000000000, 4, 0x4, 1, .rw, 0x0, 0x0, 0xFFFFFFFF, 0x0⟩ /- TMU_TSCOR -/,
   ⟨0x20040, 1, 0x10000000000, 1, 0x10000000000, 1, .rw, 0xEA60, 0xEA60, 0xFFFFF, 0x0⟩ /- TMU_RATE -/,
   ⟨0x20044, 1, 0x10000000000, 1, 0x10000000000, 1, .rw, 0x3E8, 0x3E8, 0xFFFF, 0x0⟩ /- TMU_RATE_DEN -/,
   ⟨0x20048, 1, 0x10000000000, 1, 0x10000000000, 1, .rw, 0x1, 0x1, 0xF, 0x0⟩ /- TMU_SLOTS -/,
   ⟨0x20050, 1, 0x10000000000, 1, 0x10000000000, 1, .ro, 0x0, 0x0, 0x0, 0x0⟩ /- TMU_LAUNCH_L -/,
   ⟨0x20054, 1, 0x10000000000, 1, 0x10000000000, 1, .ro, 0x0, 0x0, 0x0, 0x0⟩ /- TMU_LAUNCH_H -/,
   ⟨0x20060, 1, 0x10000000000, 1, 0x10000000000, 1, .rw, 0x7D000, 0x7D000, 0x1FFFFF, 0x0⟩ /- TMU_PEER -/,
   ⟨0x20064, 1, 0x10000000000, 1, 0x10000000000, 1, .ro, 0x0, 0x0, 0x0, 0x0⟩ /- TMU_PEER_OFS -/,
   ⟨0x20070, 1, 0x10000000000, 1, 0x10000000000, 1, .rw, 0xFFFF43, 0x43, 0xFFFFFF, 0x0⟩ /- TMU_TIM -/,
   ⟨0x20074, 1, 0x10000000000, 1, 0x10000000000, 1, .ro, 0x0, 0x0, 0x0, 0x0⟩ /- TMU_TIM_STAT -/,
   ⟨0x20078, 1, 0x10000000000, 1, 0x10000000000, 1, .ro, 0x0, 0x0, 0x0, 0x0⟩ /- TMU_TIM_LDLY -/,
   ⟨0x20080, 1, 0x10000000000, 1, 0x10000000000, 2, .counter, 0x0, 0x0, 0x0, 0x0⟩ /- TMU_LQ -/,
   ⟨0x20088, 1, 0x10000000000, 1, 0x10000000000, 2, .counter, 0x0, 0x0, 0x0, 0x0⟩ /- TMU_LQX -/,
   ⟨0x20090, 1, 0x10000000000, 1, 0x10000000000, 2, .counter, 0x0, 0x0, 0x0, 0x0⟩ /- TMU_LQFULL -/,
   ⟨0x20098, 1, 0x10000000000, 1, 0x10000000000, 2, .counter, 0x0, 0x0, 0x0, 0x0⟩ /- TMU_JREF -/,
   ⟨0x200A0, 1, 0x10000000000, 1, 0x10000000000, 2, .counter, 0x0, 0x0, 0x0, 0x0⟩ /- TMU_GMCHG -/,
   ⟨0x200B0, 1, 0x10000000000, 1, 0x10000000000, 1, .rw, 0x0, 0x0, 0xFFFFFFFF, 0x0⟩ /- TMU_LQ_IN0 -/,
   ⟨0x200B4, 1, 0x10000000000, 1, 0x10000000000, 1, .rw, 0x0, 0x0, 0xFFFFFFFF, 0x0⟩ /- TMU_LQ_IN1 -/,
   ⟨0x200B8, 1, 0x10000000000, 1, 0x10000000000, 1, .rw, 0x0, 0x0, 0xFFFFFFFF, 0x0⟩ /- TMU_LQ_IN2 -/,
   ⟨0x200BC, 1, 0x10000000000, 1, 0x10000000000, 1, .rw, 0x0, 0x0, 0xFFFFFFFF, 0x0⟩ /- TMU_LQ_IN3 -/,
   ⟨0x200C0, 1, 0x10000000000, 1, 0x10000000000, 1, .ro, 0x0, 0x0, 0x0, 0x0⟩ /- TMU_LQ_INS -/,
   ⟨0x200C4, 1, 0x10000000000, 1, 0x10000000000, 1, .ro, 0x0, 0x0, 0x0, 0x0⟩ /- TMU_LQ_LAST -/,
   ⟨0x20100, 1, 0x10000000000, 1, 0x10000000000, 1, .rw, 0x3D0900, 0x3D0900, 0xFFFFFF, 0x0⟩ /- TMU_GSCLK -/,
   ⟨0x20104, 1, 0x10000000000, 1, 0x10000000000, 1, .ro, 0x0, 0x0, 0x0, 0x0⟩ /- TMU_PHASE -/,
   ⟨0x20110, 1, 0x10000000000, 1, 0x10000000000, 1, .rw, 0xA00, 0xA00, 0xFF01, 0x0⟩ /- TMU_PPS -/,
   ⟨0x20114, 1, 0x10000000000, 1, 0x10000000000, 1, .ro, 0x0, 0x0, 0x0, 0x0⟩ /- TMU_PPSIN_NS -/,
   ⟨0x20118, 1, 0x10000000000, 1, 0x10000000000, 1, .ro, 0x0, 0x0, 0x0, 0x0⟩ /- TMU_PPSIN_SL -/,
   ⟨0x20120, 1, 0x10000000000, 2, 0x4, 1, .rw, 0x0, 0x0, 0xF, 0x0⟩ /- TMU_MCLK -/,
   ⟨0x20130, 1, 0x10000000000, 4, 0x10, 1, .ro, 0x0, 0x0, 0x0, 0x0⟩ /- TMU_GSTG_W0 -/,
   ⟨0x20134, 1, 0x10000000000, 4, 0x10, 1, .ro, 0x0, 0x0, 0x0, 0x0⟩ /- TMU_GSTG_W1 -/,
   ⟨0x20138, 1, 0x10000000000, 4, 0x10, 1, .ro, 0x0, 0x0, 0x0, 0x0⟩ /- TMU_GSTG_W2 -/,
   ⟨0x2013C, 1, 0x10000000000, 4, 0x10, 1, .ro, 0x0, 0x0, 0x0, 0x0⟩ /- TMU_GSTG_W3 -/,
   ⟨0x21000, 1, 0x10000000000, 4096, 0x4, 1, .ro, 0x0, 0x0, 0x0, 0x0⟩ /- TMU_LQE -/]

/-- Register rows of LNK (R543). -/
def regsLNK : List RegRow :=
  [⟨0x40000, 1, 0x10000000000, 8, 0x4000, 1, .rw, 0x0, 0x0, 0xF, 0x0⟩ /- LNK_QCFG -/,
   ⟨0x40004, 1, 0x10000000000, 8, 0x4000, 1, .ro, 0x0, 0x0, 0x0, 0x0⟩ /- LNK_QSTAT -/,
   ⟨0x41000, 8, 0x4000, 4, 0x800, 1, .rw, 0x100, 0x100, 0xFFF, 0x0⟩ /- LNK_LCFG -/,
   ⟨0x41004, 8, 0x4000, 4, 0x800, 1, .cmd, 0x0, 0x0, 0x0, 0x0⟩ /- LNK_LCMD -/,
   ⟨0x41008, 8, 0x4000, 4, 0x800, 1, .rw, 0x0, 0x0, 0x0, 0x4780⟩ /- LNK_LSTAT -/,
   ⟨0x4100C, 8, 0x4000, 4, 0x800, 1, .ro, 0x0, 0x0, 0x0, 0x0⟩ /- LNK_CID -/,
   ⟨0x41010, 8, 0x4000, 4, 0x800, 1, .rw, 0xA0014, 0xA0014, 0xFF00FF, 0x0⟩ /- LNK_CAL -/,
   ⟨0x41014, 8, 0x4000, 4, 0x800, 1, .ro, 0x0, 0x0, 0x0, 0x0⟩ /- LNK_EYE -/,
   ⟨0x41018, 8, 0x4000, 4, 0x800, 1, .ro, 0x0, 0x0, 0x0, 0x0⟩ /- LNK_TXEQ -/,
   ⟨0x4101C, 8, 0x4000, 4, 0x800, 1, .ro, 0x0, 0x0, 0x0, 0x0⟩ /- LNK_RXEQ -/,
   ⟨0x41020, 8, 0x4000, 4, 0x800, 1, .rw, 0x5, 0x5, 0x3F, 0x0⟩ /- LNK_PRBS -/,
   ⟨0x41040, 8, 0x4000, 4, 0x800, 2, .counter, 0x0, 0x0, 0x0, 0x0⟩ /- LNK_PRBSERR -/,
   ⟨0x41048, 8, 0x4000, 4, 0x800, 2, .counter, 0x0, 0x0, 0x0, 0x0⟩ /- LNK_FECCOR -/,
   ⟨0x41050, 8, 0x4000, 4, 0x800, 2, .counter, 0x0, 0x0, 0x0, 0x0⟩ /- LNK_FECUNC -/,
   ⟨0x41058, 8, 0x4000, 4, 0x800, 2, .counter, 0x0, 0x0, 0x0, 0x0⟩ /- LNK_SYMERR -/,
   ⟨0x41060, 8, 0x4000, 4, 0x800, 2, .counter, 0x0, 0x0, 0x0, 0x0⟩ /- LNK_BIPERR -/,
   ⟨0x41068, 8, 0x4000, 4, 0x800, 2, .counter, 0x0, 0x0, 0x0, 0x0⟩ /- LNK_LOSS -/,
   ⟨0x41070, 8, 0x4000, 4, 0x800, 2, .counter, 0x0, 0x0, 0x0, 0x0⟩ /- LNK_CALRUN -/,
   ⟨0x41078, 8, 0x4000, 4, 0x800, 2, .counter, 0x0, 0x0, 0x0, 0x0⟩ /- LNK_FXFAIL -/,
   ⟨0x41080, 8, 0x4000, 4, 0x800, 2, .counter, 0x0, 0x0, 0x0, 0x0⟩ /- LNK_DIRFAIL -/]

/-- Register rows of ETH (R543). -/
def regsETH : List RegRow :=
  [⟨0x80000, 1, 0x10000000000, 4, 0x400, 1, .rw, 0x0, 0x0, 0x3FFF, 0x0⟩ /- ETH_PORT_CFG -/,
   ⟨0x80004, 1, 0x10000000000, 4, 0x400, 1, .ro, 0x0, 0x0, 0x0, 0x0⟩ /- ETH_PORT_STAT -/,
   ⟨0x80008, 1, 0x10000000000, 4, 0x400, 1, .rw, 0x0, 0x0, 0xFFFFFFFF, 0x0⟩ /- ETH_PORT_MACL -/,
   ⟨0x8000C, 1, 0x10000000000, 4, 0x400, 1, .rw, 0x0, 0x0, 0xFFFF, 0x0⟩ /- ETH_PORT_MACH -/,
   ⟨0x80010, 1, 0x10000000000, 4, 0x400, 1, .rw, 0x0, 0x0, 0xFFFFFFFF, 0x0⟩ /- ETH_PORT_IP4 -/,
   ⟨0x80020, 4, 0x400, 4, 0x4, 1, .rw, 0x0, 0x0, 0xFFFFFFFF, 0x0⟩ /- ETH_PORT_IP6 -/,
   ⟨0x80100, 1, 0x10000000000, 4, 0x400, 2, .counter, 0x0, 0x0, 0x0, 0x0⟩ /- ETH_RXFRM -/,
   ⟨0x80108, 1, 0x10000000000, 4, 0x400, 2, .counter, 0x0, 0x0, 0x0, 0x0⟩ /- ETH_RXFCS -/,
   ⟨0x80110, 1, 0x10000000000, 4, 0x400, 2, .counter, 0x0, 0x0, 0x0, 0x0⟩ /- ETH_RXDROP -/,
   ⟨0x80118, 1, 0x10000000000, 4, 0x400, 2, .counter, 0x0, 0x0, 0x0, 0x0⟩ /- ETH_RXUNM -/,
   ⟨0x80120, 1, 0x10000000000, 4, 0x400, 2, .counter, 0x0, 0x0, 0x0, 0x0⟩ /- ETH_TXFRM -/,
   ⟨0x80128, 1, 0x10000000000, 4, 0x400, 2, .counter, 0x0, 0x0, 0x0, 0x0⟩ /- ETH_CTLRX -/,
   ⟨0x80130, 1, 0x10000000000, 4, 0x400, 2, .counter, 0x0, 0x0, 0x0, 0x0⟩ /- ETH_AUTHFAIL -/,
   ⟨0x80138, 1, 0x10000000000, 4, 0x400, 2, .counter, 0x0, 0x0, 0x0, 0x0⟩ /- ETH_REPLAY -/,
   ⟨0x81000, 1, 0x10000000000, 16, 0x100, 1, .rw, 0x504, 0x504, 0xFFFF, 0x0⟩ /- ETH_FLOW_CFG -/,
   ⟨0x81004, 1, 0x10000000000, 16, 0x100, 1, .rw, 0x4, 0x4, 0x1FF, 0x0⟩ /- ETH_FLOW_FMT -/,
   ⟨0x81008, 1, 0x10000000000, 16, 0x100, 1, .rw, 0x0, 0x0, 0xFFFFFFFF, 0x0⟩ /- ETH_FLOW_SIZE -/,
   ⟨0x8100C, 1, 0x10000000000, 16, 0x100, 1, .cmd, 0x0, 0x0, 0x0, 0x0⟩ /- ETH_FLOW_CMD -/,
   ⟨0x81010, 1, 0x10000000000, 16, 0x100, 1, .ro, 0x0, 0x0, 0x0, 0x0⟩ /- ETH_FLOW_STAT -/,
   ⟨0x81014, 1, 0x10000000000, 16, 0x100, 1, .ro, 0x0, 0x0, 0x0, 0x0⟩ /- ETH_FLOW_FTIME -/,
   ⟨0x81018, 1, 0x10000000000, 16, 0x100, 1, .rw, 0x0, 0x0, 0xFFFFFFFF, 0x0⟩ /- ETH_FLOW_UDP -/,
   ⟨0x8101C, 1, 0x10000000000, 16, 0x100, 1, .rw, 0x0, 0x0, 0xFF, 0x0⟩ /- ETH_FLOW_RTP -/,
   ⟨0x81020, 1, 0x10000000000, 16, 0x100, 1, .rw, 0x0, 0x0, 0xFFFFFFFF, 0x0⟩ /- ETH_FLOW_SSRC -/,
   ⟨0x81030, 16, 0x100, 4, 0x4, 1, .rw, 0x0, 0x0, 0xFFFFFFFF, 0x0⟩ /- ETH_FLOW_DSTA -/,
   ⟨0x81040, 16, 0x100, 4, 0x4, 1, .rw, 0x0, 0x0, 0xFFFFFFFF, 0x0⟩ /- ETH_FLOW_DSTB -/,
   ⟨0x81050, 16, 0x100, 4, 0x4, 1, .rw, 0x0, 0x0, 0xFFFFFFFF, 0x0⟩ /- ETH_FLOW_SRCA -/,
   ⟨0x81060, 16, 0x100, 4, 0x4, 1, .rw, 0x0, 0x0, 0xFFFFFFFF, 0x0⟩ /- ETH_FLOW_SRCB -/,
   ⟨0x81070, 16, 0x100, 4, 0x4, 1, .ro, 0x0, 0x0, 0x0, 0x0⟩ /- ETH_FLOW_BUF -/,
   ⟨0x81080, 1, 0x10000000000, 16, 0x100, 2, .counter, 0x0, 0x0, 0x0, 0x0⟩ /- ETH_FLOW_RXA -/,
   ⟨0x81088, 1, 0x10000000000, 16, 0x100, 2, .counter, 0x0, 0x0, 0x0, 0x0⟩ /- ETH_FLOW_RXB -/,
   ⟨0x81090, 1, 0x10000000000, 16, 0x100, 2, .counter, 0x0, 0x0, 0x0, 0x0⟩ /- ETH_FLOW_DUP -/,
   ⟨0x81098, 1, 0x10000000000, 16, 0x100, 2, .counter, 0x0, 0x0, 0x0, 0x0⟩ /- ETH_FLOW_LATE -/,
   ⟨0x810A0, 1, 0x10000000000, 16, 0x100, 2, .counter, 0x0, 0x0, 0x0, 0x0⟩ /- ETH_FLOW_LOST -/,
   ⟨0x810A8, 1, 0x10000000000, 16, 0x100, 2, .counter, 0x0, 0x0, 0x0, 0x0⟩ /- ETH_FLOW_HDRERR -/,
   ⟨0x810B0, 1, 0x10000000000, 16, 0x100, 2, .counter, 0x0, 0x0, 0x0, 0x0⟩ /- ETH_FLOW_FRMOK -/,
   ⟨0x810B8, 1, 0x10000000000, 16, 0x100, 2, .counter, 0x0, 0x0, 0x0, 0x0⟩ /- ETH_FLOW_FRMINC -/,
   ⟨0x810C0, 1, 0x10000000000, 16, 0x100, 2, .counter, 0x0, 0x0, 0x0, 0x0⟩ /- ETH_FLOW_SKIP -/,
   ⟨0x810C8, 1, 0x10000000000, 16, 0x100, 2, .counter, 0x0, 0x0, 0x0, 0x0⟩ /- ETH_FLOW_CMAXEX -/,
   ⟨0x810D0, 1, 0x10000000000, 16, 0x100, 2, .counter, 0x0, 0x0, 0x0, 0x0⟩ /- ETH_FLOW_VRXOV -/,
   ⟨0x82000, 1, 0x10000000000, 64, 0x20, 1, .rw, 0x0, 0x0, 0x1, 0x0⟩ /- ETH_STILL_CFG -/,
   ⟨0x82004, 1, 0x10000000000, 64, 0x20, 1, .rw, 0x4, 0x4, 0x1FF, 0x0⟩ /- ETH_STILL_FMT -/,
   ⟨0x82008, 1, 0x10000000000, 64, 0x20, 1, .rw, 0x0, 0x0, 0xFFFFFFFF, 0x0⟩ /- ETH_STILL_SIZE -/,
   ⟨0x8200C, 1, 0x10000000000, 64, 0x20, 1, .cmd, 0x0, 0x0, 0x0, 0x0⟩ /- ETH_STILL_FENCE -/,
   ⟨0x82010, 1, 0x10000000000, 64, 0x20, 1, .ro, 0x0, 0x0, 0x0, 0x0⟩ /- ETH_STILL_STAT -/,
   ⟨0x82014, 64, 0x20, 2, 0x4, 1, .ro, 0x0, 0x0, 0x0, 0x0⟩ /- ETH_STILL_BUF -/,
   ⟨0x83000, 1, 0x10000000000, 1, 0x10000000000, 1, .rw, 0x4, 0x4, 0x7FFF, 0x0⟩ /- ETH_MON_CFG -/,
   ⟨0x83004, 1, 0x10000000000, 1, 0x10000000000, 1, .rw, 0x0, 0x0, 0xFFF0FFF, 0x0⟩ /- ETH_MON_SIZE -/,
   ⟨0x83008, 1, 0x10000000000, 1, 0x10000000000, 1, .rw, 0x19004465, 0x19004465, 0xFFFFFFFF, 0x0⟩ /- ETH_MON_TIMING -/,
   ⟨0x8300C, 1, 0x10000000000, 3, 0x4, 1, .rw, 0x0, 0x0, 0xFFFFFFFF, 0x0⟩ /- ETH_MON_WIN -/,
   ⟨0x83018, 1, 0x10000000000, 3, 0x4, 1, .ro, 0x0, 0x0, 0x0, 0x0⟩ /- ETH_MON_WINA -/,
   ⟨0x83024, 1, 0x10000000000, 1, 0x10000000000, 1, .rw, 0x0, 0x0, 0xFFF0FFF, 0x0⟩ /- ETH_MON_LINE -/,
   ⟨0x83028, 1, 0x10000000000, 1, 0x10000000000, 1, .cmd, 0x0, 0x0, 0x0, 0x0⟩ /- ETH_MON_CMD -/,
   ⟨0x8302C, 1, 0x10000000000, 1, 0x10000000000, 1, .rw, 0x0, 0x0, 0x0, 0x1F⟩ /- ETH_MON_EVT -/,
   ⟨0x83030, 1, 0x10000000000, 1, 0x10000000000, 1, .rw, 0x0, 0x0, 0x1F, 0x0⟩ /- ETH_MON_IE -/,
   ⟨0x83034, 1, 0x10000000000, 1, 0x10000000000, 1, .ro, 0x0, 0x0, 0x0, 0x0⟩ /- ETH_MON_STAT -/,
   ⟨0x83040, 1, 0x10000000000, 4, 0x4, 1, .rw, 0x0, 0x0, 0xFFFFFFFF, 0x0⟩ /- ETH_MON_DSTA -/,
   ⟨0x83050, 1, 0x10000000000, 4, 0x4, 1, .rw, 0x0, 0x0, 0xFFFFFFFF, 0x0⟩ /- ETH_MON_DSTB -/,
   ⟨0x83060, 1, 0x10000000000, 1, 0x10000000000, 1, .rw, 0x0, 0x0, 0xFFFFFFFF, 0x0⟩ /- ETH_MON_UDP -/,
   ⟨0x83064, 1, 0x10000000000, 1, 0x10000000000, 1, .rw, 0x0, 0x0, 0x7F, 0x0⟩ /- ETH_MON_RTP -/,
   ⟨0x83068, 1, 0x10000000000, 1, 0x10000000000, 1, .rw, 0x0, 0x0, 0xFFFFFFFF, 0x0⟩ /- ETH_MON_SSRC -/,
   ⟨0x83080, 1, 0x10000000000, 1, 0x10000000000, 2, .counter, 0x0, 0x0, 0x0, 0x0⟩ /- ETH_MON_FRM -/,
   ⟨0x83088, 1, 0x10000000000, 1, 0x10000000000, 2, .counter, 0x0, 0x0, 0x0, 0x0⟩ /- ETH_MON_UNDER -/,
   ⟨0x83800, 1, 0x10000000000, 1, 0x10000000000, 1, .rw, 0xCE520000, 0xCE520000, 0xFFFF0000, 0x4⟩ /- ETH_AUTH -/,
   ⟨0x83804, 1, 0x10000000000, 1, 0x10000000000, 1, .ro, 0x0, 0x0, 0x0, 0x0⟩ /- ETH_AUTH_KIDA -/,
   ⟨0x83808, 1, 0x10000000000, 1, 0x10000000000, 1, .ro, 0x0, 0x0, 0x0, 0x0⟩ /- ETH_AUTH_KIDB -/,
   ⟨0x83900, 1, 0x10000000000, 64, 0x4, 1, .ro, 0x0, 0x0, 0x0, 0x0⟩ /- ETH_AUTH_EP -/]

/-- Register rows of SKD (R543). -/
def regsSKD : List RegRow :=
  [⟨0xC0000, 1, 0x10000000000, 1, 0x10000000000, 1, .rw, 0x0, 0x40, 0x1FF, 0x0⟩ /- SKD_CFG -/,
   ⟨0xC0004, 1, 0x10000000000, 1, 0x10000000000, 1, .ro, 0x0, 0x0, 0x0, 0x0⟩ /- SKD_ADDR -/,
   ⟨0xC0008, 1, 0x10000000000, 1, 0x10000000000, 1, .ro, 0x0, 0x0, 0x0, 0x0⟩ /- SKD_RXRING -/,
   ⟨0xC000C, 1, 0x10000000000, 1, 0x10000000000, 1, .ro, 0x0, 0x0, 0x0, 0x0⟩ /- SKD_RXIDX -/,
   ⟨0xC1000, 1, 0x10000000000, 16, 0x400, 1, .rw, 0x3, 0x3, 0x3, 0x0⟩ /- SKD_PORT_CFG -/,
   ⟨0xC1004, 1, 0x10000000000, 16, 0x400, 1, .rw, 0x0, 0x0, 0x0, 0x8⟩ /- SKD_PORT_STAT -/,
   ⟨0xC1008, 1, 0x10000000000, 16, 0x400, 1, .ro, 0x0, 0x0, 0x0, 0x0⟩ /- SKD_PORT_CRED -/,
   ⟨0xC100C, 1, 0x10000000000, 16, 0x400, 1, .ro, 0x0, 0x0, 0x0, 0x0⟩ /- SKD_PORT_FAR -/,
   ⟨0xC1010, 1, 0x10000000000, 16, 0x400, 1, .ro, 0x0, 0x0, 0x0, 0x0⟩ /- SKD_PORT_DISC -/,
   ⟨0xC1100, 1, 0x10000000000, 16, 0x400, 2, .counter, 0x0, 0x0, 0x0, 0x0⟩ /- SKD_RXF -/,
   ⟨0xC1108, 1, 0x10000000000, 16, 0x400, 2, .counter, 0x0, 0x0, 0x0, 0x0⟩ /- SKD_TXF -/,
   ⟨0xC1110, 1, 0x10000000000, 16, 0x400, 2, .counter, 0x0, 0x0, 0x0, 0x0⟩ /- SKD_FWD -/,
   ⟨0xC1118, 1, 0x10000000000, 16, 0x400, 2, .counter, 0x0, 0x0, 0x0, 0x0⟩ /- SKD_HCRC -/,
   ⟨0xC1120, 1, 0x10000000000, 16, 0x400, 2, .counter, 0x0, 0x0, 0x0, 0x0⟩ /- SKD_TCRC -/,
   ⟨0xC1128, 1, 0x10000000000, 16, 0x400, 2, .counter, 0x0, 0x0, 0x0, 0x0⟩ /- SKD_STOMP -/,
   ⟨0xC1130, 1, 0x10000000000, 16, 0x400, 2, .counter, 0x0, 0x0, 0x0, 0x0⟩ /- SKD_ABORT -/,
   ⟨0xC1138, 1, 0x10000000000, 16, 0x400, 2, .counter, 0x0, 0x0, 0x0, 0x0⟩ /- SKD_TRUNC -/,
   ⟨0xC1140, 1, 0x10000000000, 16, 0x400, 2, .counter, 0x0, 0x0, 0x0, 0x0⟩ /- SKD_BADHDR -/,
   ⟨0xC1148, 1, 0x10000000000, 16, 0x400, 2, .counter, 0x0, 0x0, 0x0, 0x0⟩ /- SKD_LENERR -/,
   ⟨0xC1150, 1, 0x10000000000, 16, 0x400, 2, .counter, 0x0, 0x0, 0x0, 0x0⟩ /- SKD_BADUNIT -/,
   ⟨0xC1158, 1, 0x10000000000, 16, 0x400, 2, .counter, 0x0, 0x0, 0x0, 0x0⟩ /- SKD_TALLYERR -/,
   ⟨0xC1160, 1, 0x10000000000, 16, 0x400, 2, .counter, 0x0, 0x0, 0x0, 0x0⟩ /- SKD_ALVSKIP -/,
   ⟨0xC1168, 1, 0x10000000000, 16, 0x400, 2, .counter, 0x0, 0x0, 0x0, 0x0⟩ /- SKD_ALVREP -/,
   ⟨0xC1170, 1, 0x10000000000, 16, 0x400, 2, .counter, 0x0, 0x0, 0x0, 0x0⟩ /- SKD_FILL -/,
   ⟨0xC1178, 1, 0x10000000000, 16, 0x400, 2, .counter, 0x0, 0x0, 0x0, 0x0⟩ /- SKD_CREDWAIT -/,
   ⟨0xC1180, 1, 0x10000000000, 16, 0x400, 2, .counter, 0x0, 0x0, 0x0, 0x0⟩ /- SKD_TXDROP -/,
   ⟨0xC1188, 1, 0x10000000000, 16, 0x400, 2, .counter, 0x0, 0x0, 0x0, 0x0⟩ /- SKD_MISROUTE -/,
   ⟨0xC1190, 1, 0x10000000000, 16, 0x400, 2, .counter, 0x0, 0x0, 0x0, 0x0⟩ /- SKD_HOLD -/,
   ⟨0xC1198, 1, 0x10000000000, 16, 0x400, 2, .counter, 0x0, 0x0, 0x0, 0x0⟩ /- SKD_DUPSLICE -/,
   ⟨0xC6000, 1, 0x10000000000, 1, 0x10000000000, 1, .rw, 0x0, 0x0, 0x3F, 0x0⟩ /- SKD_HEAD -/,
   ⟨0xC6004, 1, 0x10000000000, 1, 0x10000000000, 1, .cmd, 0x0, 0x0, 0x0, 0x0⟩ /- SKD_ENUM -/,
   ⟨0xC6008, 1, 0x10000000000, 1, 0x10000000000, 1, .ro, 0x0, 0x0, 0x0, 0x0⟩ /- SKD_ENUM_ID -/,
   ⟨0xC600C, 1, 0x10000000000, 1, 0x10000000000, 1, .rw, 0x0, 0x0, 0xFFFFFFFF, 0x0⟩ /- SKD_CH_ROLE -/,
   ⟨0xC6010, 1, 0x10000000000, 1, 0x10000000000, 1, .rw, 0x0, 0x0, 0xFF, 0x0⟩ /- SKD_CH_TWIN -/,
   ⟨0xC6014, 1, 0x10000000000, 1, 0x10000000000, 1, .rw, 0x14, 0x14, 0xFF, 0x0⟩ /- SKD_CH_CFG -/,
   ⟨0xC6018, 1, 0x10000000000, 1, 0x10000000000, 1, .ro, 0x0, 0x0, 0x0, 0x0⟩ /- SKD_TILE_STAT -/,
   ⟨0xC6040, 1, 0x10000000000, 16, 0x4, 1, .rw, 0x0, 0x0, 0x0, 0x200000⟩ /- SKD_CH_STAT -/,
   ⟨0xC6080, 1, 0x10000000000, 16, 0x4, 1, .ro, 0x0, 0x0, 0x0, 0x0⟩ /- SKD_RING -/,
   ⟨0xC6100, 1, 0x10000000000, 1, 0x10000000000, 2, .counter, 0x0, 0x0, 0x0, 0x0⟩ /- SKD_CH_REVDISC -/,
   ⟨0xC6108, 1, 0x10000000000, 1, 0x10000000000, 2, .counter, 0x0, 0x0, 0x0, 0x0⟩ /- SKD_CH_SWAPS -/,
   ⟨0xC6110, 1, 0x10000000000, 1, 0x10000000000, 2, .counter, 0x0, 0x0, 0x0, 0x0⟩ /- SKD_CH_LATERSP -/,
   ⟨0xC6118, 1, 0x10000000000, 1, 0x10000000000, 2, .counter, 0x0, 0x0, 0x0, 0x0⟩ /- SKD_WC_REVERTS -/,
   ⟨0xC7000, 1, 0x10000000000, 1, 0x10000000000, 1, .rw, 0x9, 0x9, 0xFFFF, 0x0⟩ /- SKD_WC_CFG -/,
   ⟨0xC7004, 1, 0x10000000000, 1, 0x10000000000, 1, .rw, 0xA0032, 0xA0032, 0xFFFFFFFF, 0x0⟩ /- SKD_WC_ARMT -/,
   ⟨0xC7008, 1, 0x10000000000, 1, 0x10000000000, 1, .rw, 0x0, 0x0, 0x3FFFFFFF, 0x0⟩ /- SKD_WC_T0 -/,
   ⟨0xC700C, 1, 0x10000000000, 1, 0x10000000000, 1, .rw, 0x0, 0x0, 0xFFFFFFFF, 0x0⟩ /- SKD_WC_T1 -/,
   ⟨0xC7010, 1, 0x10000000000, 1, 0x10000000000, 1, .rw, 0x0, 0x0, 0xFFFF, 0x0⟩ /- SKD_WC_T2 -/,
   ⟨0xC7014, 1, 0x10000000000, 1, 0x10000000000, 1, .cmd, 0x0, 0x0, 0x0, 0x0⟩ /- SKD_WC_CMD -/,
   ⟨0xC7018, 1, 0x10000000000, 1, 0x10000000000, 1, .ro, 0x0, 0x0, 0x0, 0x0⟩ /- SKD_WC_STAT -/,
   ⟨0xC701C, 1, 0x10000000000, 1, 0x10000000000, 1, .ro, 0x0, 0x0, 0x0, 0x0⟩ /- SKD_WC_CNT -/,
   ⟨0xC7020, 1, 0x10000000000, 1, 0x10000000000, 1, .ro, 0x0, 0x0, 0x0, 0x0⟩ /- SKD_WC_NFAIL -/,
   ⟨0xC7024, 1, 0x10000000000, 2, 0x4, 1, .rw, 0x0, 0x0, 0xFFFFFFFF, 0x0⟩ /- SKD_WC_HEADS -/,
   ⟨0xC7040, 1, 0x10000000000, 8, 0x4, 1, .rw, 0x0, 0x0, 0xFFFFFFFF, 0x0⟩ /- SKD_WC_PAR -/,
   ⟨0xC7080, 1, 0x10000000000, 32, 0x4, 1, .rw, 0x0, 0x0, 0xFFFFFFFF, 0x0⟩ /- SKD_WC_LIST -/,
   ⟨0xC7100, 1, 0x10000000000, 64, 0x4, 1, .ro, 0x0, 0x0, 0x0, 0x0⟩ /- SKD_WC_FAIL -/,
   ⟨0xC7200, 1, 0x10000000000, 4, 0x10, 1, .ro, 0x0, 0x0, 0x0, 0x0⟩ /- SKD_WC_UNIT_W0 -/,
   ⟨0xC7204, 1, 0x10000000000, 4, 0x10, 1, .ro, 0x0, 0x0, 0x0, 0x0⟩ /- SKD_WC_UNIT_W1 -/,
   ⟨0xC7208, 1, 0x10000000000, 4, 0x10, 1, .ro, 0x0, 0x0, 0x0, 0x0⟩ /- SKD_WC_UNIT_W2 -/,
   ⟨0xC720C, 1, 0x10000000000, 4, 0x10, 1, .ro, 0x0, 0x0, 0x0, 0x0⟩ /- SKD_WC_UNIT_W3 -/,
   ⟨0xC7400, 1, 0x10000000000, 1, 0x10000000000, 1, .rw, 0x2014, 0x2014, 0x3FFF, 0x0⟩ /- SKD_IMG_CFG -/,
   ⟨0xC7404, 1, 0x10000000000, 1, 0x10000000000, 1, .rw, 0x0, 0x0, 0xFFFFFFFF, 0x0⟩ /- SKD_IMG_ID -/,
   ⟨0xC7408, 1, 0x10000000000, 1, 0x10000000000, 1, .rw, 0x0, 0x0, 0xFFFFFFFF, 0x0⟩ /- SKD_IMG_SRC -/,
   ⟨0xC740C, 1, 0x10000000000, 1, 0x10000000000, 1, .rw, 0x0, 0x0, 0xFFFFFFFF, 0x0⟩ /- SKD_IMG_LEN -/,
   ⟨0xC7410, 1, 0x10000000000, 1, 0x10000000000, 1, .rw, 0x0, 0x0, 0xFFFF, 0x0⟩ /- SKD_IMG_PORTS -/,
   ⟨0xC7414, 1, 0x10000000000, 1, 0x10000000000, 1, .cmd, 0x0, 0x0, 0x0, 0x0⟩ /- SKD_IMG_CMD -/,
   ⟨0xC7418, 1, 0x10000000000, 1, 0x10000000000, 1, .ro, 0x0, 0x0, 0x0, 0x0⟩ /- SKD_IMG_STAT -/,
   ⟨0xC741C, 1, 0x10000000000, 1, 0x10000000000, 1, .ro, 0x0, 0x0, 0x0, 0x0⟩ /- SKD_IMG_INC -/,
   ⟨0xC8000, 1, 0x10000000000, 1024, 0x20, 1, .ro, 0x0, 0x0, 0x0, 0x0⟩ /- SKD_CT_W0 -/,
   ⟨0xC8004, 1, 0x10000000000, 1024, 0x20, 1, .ro, 0x0, 0x0, 0x0, 0x0⟩ /- SKD_CT_SNL -/,
   ⟨0xC8008, 1, 0x10000000000, 1024, 0x20, 1, .ro, 0x0, 0x0, 0x0, 0x0⟩ /- SKD_CT_SNH -/,
   ⟨0xC800C, 1, 0x10000000000, 1024, 0x20, 1, .ro, 0x0, 0x0, 0x0, 0x0⟩ /- SKD_CT_LBSNL -/,
   ⟨0xC8010, 1, 0x10000000000, 1024, 0x20, 1, .ro, 0x0, 0x0, 0x0, 0x0⟩ /- SKD_CT_LBSNH -/,
   ⟨0xC8014, 1, 0x10000000000, 1024, 0x20, 1, .ro, 0x0, 0x0, 0x0, 0x0⟩ /- SKD_CT_FWVER -/,
   ⟨0xC8018, 1, 0x10000000000, 1024, 0x20, 1, .ro, 0x0, 0x0, 0x0, 0x0⟩ /- SKD_CT_LINKS -/,
   ⟨0xC801C, 1, 0x10000000000, 1024, 0x20, 1, .ro, 0x0, 0x0, 0x0, 0x0⟩ /- SKD_CT_W7 -/]

/-- Register rows of MEM (R543). -/
def regsMEM : List RegRow :=
  [⟨0x100000, 1, 0x10000000000, 1, 0x10000000000, 1, .ro, 0x0, 0x0, 0x0, 0x0⟩ /- MEM_CFG -/,
   ⟨0x100004, 1, 0x10000000000, 1, 0x10000000000, 1, .rw, 0x2, 0x2, 0x3FF, 0x0⟩ /- MEM_IL -/,
   ⟨0x100008, 1, 0x10000000000, 1, 0x10000000000, 1, .cmd, 0x0, 0x0, 0x0, 0x0⟩ /- MEM_FREQ -/,
   ⟨0x10000C, 1, 0x10000000000, 1, 0x10000000000, 1, .ro, 0x0, 0x0, 0x0, 0x0⟩ /- MEM_STAT -/,
   ⟨0x100010, 1, 0x10000000000, 1, 0x10000000000, 1, .rw, 0x1000, 0x1000, 0xFF00, 0x0⟩ /- MEM_TRN -/,
   ⟨0x100014, 1, 0x10000000000, 1, 0x10000000000, 1, .rw, 0x4, 0x4, 0x1FF, 0x0⟩ /- MEM_REF -/,
   ⟨0x100018, 1, 0x10000000000, 1, 0x10000000000, 1, .rw, 0x64, 0x64, 0xFFFF, 0x0⟩ /- MEM_SR -/,
   ⟨0x10001C, 1, 0x10000000000, 1, 0x10000000000, 1, .rw, 0x10000, 0x10000, 0xFF, 0x0⟩ /- MEM_PASR -/,
   ⟨0x100020, 1, 0x10000000000, 1, 0x10000000000, 1, .ro, 0x0, 0x0, 0x0, 0x0⟩ /- MEM_ALLOCW -/,
   ⟨0x100024, 1, 0x10000000000, 1, 0x10000000000, 1, .ro, 0x0, 0x0, 0x0, 0x0⟩ /- MEM_ALLOCL -/,
   ⟨0x100040, 1, 0x10000000000, 1, 0x10000000000, 2, .counter, 0x0, 0x0, 0x0, 0x0⟩ /- MEM_FREQCHG -/,
   ⟨0x100048, 1, 0x10000000000, 1, 0x10000000000, 2, .counter, 0x0, 0x0, 0x0, 0x0⟩ /- MEM_SRENT -/,
   ⟨0x100050, 1, 0x10000000000, 1, 0x10000000000, 2, .counter, 0x0, 0x0, 0x0, 0x0⟩ /- MEM_SRABORT -/,
   ⟨0x100058, 1, 0x10000000000, 1, 0x10000000000, 2, .counter, 0x0, 0x0, 0x0, 0x0⟩ /- MEM_SRWAIT -/,
   ⟨0x101000, 1, 0x10000000000, 16, 0x100, 1, .rw, 0x200, 0x200, 0x0, 0x3800⟩ /- MEM_CH_STAT -/,
   ⟨0x101004, 1, 0x10000000000, 16, 0x100, 1, .ro, 0x0, 0x0, 0x0, 0x0⟩ /- MEM_CH_TRN -/,
   ⟨0x101008, 1, 0x10000000000, 16, 0x100, 1, .ro, 0x0, 0x0, 0x0, 0x0⟩ /- MEM_CH_UTIL -/,
   ⟨0x10100C, 1, 0x10000000000, 16, 0x100, 1, .ro, 0x0, 0x0, 0x0, 0x0⟩ /- MEM_CH_ERRADR -/,
   ⟨0x101010, 1, 0x10000000000, 16, 0x100, 2, .counter, 0x0, 0x0, 0x0, 0x0⟩ /- MEM_CH_RD -/,
   ⟨0x101018, 1, 0x10000000000, 16, 0x100, 2, .counter, 0x0, 0x0, 0x0, 0x0⟩ /- MEM_CH_WR -/,
   ⟨0x101020, 1, 0x10000000000, 16, 0x100, 2, .counter, 0x0, 0x0, 0x0, 0x0⟩ /- MEM_CH_REFS -/,
   ⟨0x101028, 1, 0x10000000000, 16, 0x100, 2, .counter, 0x0, 0x0, 0x0, 0x0⟩ /- MEM_CH_LECC -/,
   ⟨0x101030, 1, 0x10000000000, 16, 0x100, 2, .counter, 0x0, 0x0, 0x0, 0x0⟩ /- MEM_CH_LUNC -/]

/-- Register rows of ENG (R543). -/
def regsENG : List RegRow :=
  [⟨0x140000, 1, 0x10000000000, 64, 0x1000, 1, .rw, 0x0, 0x0, 0xFF, 0x0⟩ /- ENG_CFG -/,
   ⟨0x140004, 1, 0x10000000000, 64, 0x1000, 1, .cmd, 0x0, 0x0, 0x0, 0x0⟩ /- ENG_CMD -/,
   ⟨0x140008, 1, 0x10000000000, 64, 0x1000, 1, .rw, 0x0, 0x0, 0x0, 0x4⟩ /- ENG_STAT -/,
   ⟨0x14000C, 1, 0x10000000000, 64, 0x1000, 1, .rw, 0x0, 0x0, 0x7, 0x0⟩ /- ENG_RFSEL -/,
   ⟨0x140040, 1, 0x10000000000, 64, 0x1000, 2, .counter, 0x0, 0x0, 0x0, 0x0⟩ /- ENG_ISSUED -/,
   ⟨0x140048, 1, 0x10000000000, 64, 0x1000, 2, .counter, 0x0, 0x0, 0x0, 0x0⟩ /- ENG_SATCNT -/,
   ⟨0x140050, 1, 0x10000000000, 64, 0x1000, 2, .counter, 0x0, 0x0, 0x0, 0x0⟩ /- ENG_FAULTS -/,
   ⟨0x140058, 1, 0x10000000000, 64, 0x1000, 2, .counter, 0x0, 0x0, 0x0, 0x0⟩ /- ENG_LSCONF -/,
   ⟨0x140100, 64, 0x1000, 8, 0x10, 1, .rw, 0x0, 0x0, 0x0, 0x10⟩ /- ENG_THR_STAT -/,
   ⟨0x140104, 64, 0x1000, 8, 0x10, 1, .ro, 0x0, 0x0, 0x0, 0x0⟩ /- ENG_THR_PC -/,
   ⟨0x140108, 64, 0x1000, 8, 0x10, 1, .ro, 0x0, 0x0, 0x0, 0x0⟩ /- ENG_THR_FINSL -/,
   ⟨0x14010C, 64, 0x1000, 8, 0x10, 1, .ro, 0x0, 0x0, 0x0, 0x0⟩ /- ENG_THR_FINSH -/,
   ⟨0x140400, 64, 0x1000, 32, 0x4, 1, .ro, 0x0, 0x0, 0x0, 0x0⟩ /- ENG_RF_S -/,
   ⟨0x140480, 64, 0x1000, 4, 0x4, 1, .ro, 0x0, 0x0, 0x0, 0x0⟩ /- ENG_RF_P -/,
   ⟨0x140800, 64, 0x1000, 512, 0x4, 1, .ro, 0x0, 0x0, 0x0, 0x0⟩ /- ENG_RF_V -/]

/-- Register rows of CMPB (R543). -/
def regsCMPB : List RegRow :=
  [⟨0x330000, 1, 0x10000000000, 8, 0x1000, 1, .ro, 0x0, 0x0, 0x0, 0x0⟩ /- CMP_CREW_PACE -/,
   ⟨0x330004, 1, 0x10000000000, 8, 0x1000, 1, .cmd, 0x0, 0x0, 0x0, 0x0⟩ /- CMP_CREW_LUTCMD -/,
   ⟨0x330008, 1, 0x10000000000, 8, 0x1000, 1, .rw, 0x0, 0x0, 0xFFFFFFFF, 0x0⟩ /- CMP_CREW_LUTSRC -/,
   ⟨0x33000C, 1, 0x10000000000, 8, 0x1000, 1, .rw, 0x0, 0x0, 0x0, 0x1⟩ /- CMP_CREW_LUTST -/,
   ⟨0x330010, 8, 0x1000, 4, 0x4, 1, .ro, 0x0, 0x0, 0x0, 0x0⟩ /- CMP_CREW_LUTSLOT -/,
   ⟨0x330020, 1, 0x10000000000, 8, 0x1000, 1, .ro, 0x0, 0x0, 0x0, 0x0⟩ /- CMP_CREW_COEFLCK -/,
   ⟨0x330024, 1, 0x10000000000, 8, 0x1000, 1, .ro, 0x0, 0x0, 0x0, 0x0⟩ /- CMP_CREW_SCLST -/,
   ⟨0x330040, 1, 0x10000000000, 8, 0x1000, 2, .counter, 0x0, 0x0, 0x0, 0x0⟩ /- CMP_CREW_LUTREQ -/,
   ⟨0x330048, 1, 0x10000000000, 8, 0x1000, 2, .counter, 0x0, 0x0, 0x0, 0x0⟩ /- CMP_CREW_LUTMISS -/,
   ⟨0x330050, 1, 0x10000000000, 8, 0x1000, 2, .counter, 0x0, 0x0, 0x0, 0x0⟩ /- CMP_CREW_SCLREQ -/,
   ⟨0x330058, 1, 0x10000000000, 8, 0x1000, 2, .counter, 0x0, 0x0, 0x0, 0x0⟩ /- CMP_CREW_SHED -/,
   ⟨0x330060, 1, 0x10000000000, 8, 0x1000, 2, .counter, 0x0, 0x0, 0x0, 0x0⟩ /- CMP_CREW_SCLCLP -/]

/-- Register rows of TDP (R543). -/
def regsTDP : List RegRow :=
  [⟨0x180000, 1, 0x10000000000, 1, 0x10000000000, 1, .cmd, 0x0, 0x0, 0x0, 0x0⟩ /- TDP_CMD -/,
   ⟨0x180004, 1, 0x10000000000, 1, 0x10000000000, 1, .rw, 0x0, 0x0, 0x7FFFFFFF, 0x0⟩ /- TDP_ARG0 -/,
   ⟨0x180008, 1, 0x10000000000, 1, 0x10000000000, 1, .rw, 0x0, 0x0, 0x3FFFFF, 0x0⟩ /- TDP_ARG1 -/,
   ⟨0x18000C, 1, 0x10000000000, 1, 0x10000000000, 1, .rw, 0x0, 0x0, 0xFFFFFFFF, 0x0⟩ /- TDP_ARG2 -/,
   ⟨0x180010, 1, 0x10000000000, 1, 0x10000000000, 1, .rw, 0x0, 0x0, 0xFFFFFFFF, 0x0⟩ /- TDP_ARG3 -/,
   ⟨0x180014, 1, 0x10000000000, 1, 0x10000000000, 1, .ro, 0x0, 0x0, 0x0, 0x0⟩ /- TDP_RES -/,
   ⟨0x180018, 1, 0x10000000000, 1, 0x10000000000, 1, .ro, 0x0, 0x0, 0x0, 0x0⟩ /- TDP_STAT -/,
   ⟨0x180040, 1, 0x10000000000, 32, 0x4, 1, .ro, 0x0, 0x0, 0x0, 0x0⟩ /- TDP_RDY -/,
   ⟨0x180100, 1, 0x10000000000, 1, 0x10000000000, 2, .counter, 0x0, 0x0, 0x0, 0x0⟩ /- TDP_SPAWNS -/,
   ⟨0x180108, 1, 0x10000000000, 1, 0x10000000000, 2, .counter, 0x0, 0x0, 0x0, 0x0⟩ /- TDP_REFUSED -/,
   ⟨0x180110, 1, 0x10000000000, 1, 0x10000000000, 2, .counter, 0x0, 0x0, 0x0, 0x0⟩ /- TDP_SIGLOST -/,
   ⟨0x180118, 1, 0x10000000000, 1, 0x10000000000, 2, .counter, 0x0, 0x0, 0x0, 0x0⟩ /- TDP_PLACED -/,
   ⟨0x181000, 1, 0x10000000000, 640, 0x10, 1, .ro, 0x0, 0x0, 0x0, 0x0⟩ /- TDP_THR0 -/,
   ⟨0x181004, 1, 0x10000000000, 640, 0x10, 1, .ro, 0x0, 0x0, 0x0, 0x0⟩ /- TDP_THR1 -/,
   ⟨0x181008, 1, 0x10000000000, 640, 0x10, 1, .ro, 0x0, 0x0, 0x0, 0x0⟩ /- TDP_THR2 -/,
   ⟨0x18100C, 1, 0x10000000000, 640, 0x10, 1, .ro, 0xFFC00000, 0xFFC00000, 0x0, 0x0⟩ /- TDP_THR3 -/]

/-- Register rows of FLM (R543). -/
def regsFLM : List RegRow :=
  [⟨0x1C0000, 1, 0x10000000000, 1, 0x10000000000, 1, .cmd, 0x0, 0x0, 0x0, 0x0⟩ /- FLM_CMD -/,
   ⟨0x1C0004, 1, 0x10000000000, 1, 0x10000000000, 1, .rw, 0x0, 0x0, 0x3FFFF, 0x0⟩ /- FLM_SEL -/,
   ⟨0x1C0008, 1, 0x10000000000, 4, 0x4, 1, .rw, 0x0, 0x0, 0xFFFFFFFF, 0x0⟩ /- FLM_ARG -/,
   ⟨0x1C0018, 1, 0x10000000000, 1, 0x10000000000, 1, .ro, 0x0, 0x0, 0x0, 0x0⟩ /- FLM_RES -/,
   ⟨0x1C001C, 1, 0x10000000000, 1, 0x10000000000, 1, .ro, 0x0, 0x0, 0x0, 0x0⟩ /- FLM_STAT -/,
   ⟨0x1C0020, 1, 0x10000000000, 1, 0x10000000000, 1, .rw, 0x8421082, 0x8421082, 0x3FFFFFFF, 0x0⟩ /- FLM_DEFD0 -/,
   ⟨0x1C0024, 1, 0x10000000000, 1, 0x10000000000, 1, .rw, 0x4411084, 0x4411084, 0x3FFFFFFF, 0x0⟩ /- FLM_DEFD1 -/,
   ⟨0x1C0028, 1, 0x10000000000, 1, 0x10000000000, 1, .rw, 0x0, 0x0, 0xFFFFF, 0x0⟩ /- FLM_DEFD2 -/,
   ⟨0x1C0040, 1, 0x10000000000, 1, 0x10000000000, 1, .rw, 0x0, 0x0, 0x3FFFF, 0x0⟩ /- FLM_FSEL -/,
   ⟨0x1C0044, 1, 0x10000000000, 1, 0x10000000000, 1, .ro, 0x0, 0x0, 0x0, 0x0⟩ /- FLM_FST0 -/,
   ⟨0x1C0048, 1, 0x10000000000, 1, 0x10000000000, 1, .ro, 0x0, 0x0, 0x0, 0x0⟩ /- FLM_FST1 -/,
   ⟨0x1C0050, 1, 0x10000000000, 1, 0x10000000000, 1, .rw, 0x0, 0x0, 0x1FFFF, 0x0⟩ /- FLM_ESEL -/,
   ⟨0x1C0054, 1, 0x10000000000, 4, 0x4, 1, .ro, 0x0, 0x0, 0x0, 0x0⟩ /- FLM_EDATA -/,
   ⟨0x1C0064, 1, 0x10000000000, 1, 0x10000000000, 1, .ro, 0x0, 0x0, 0x0, 0x0⟩ /- FLM_ETAG -/,
   ⟨0x1C0080, 1, 0x10000000000, 1, 0x10000000000, 1, .rw, 0x0, 0x0, 0xFFF, 0x0⟩ /- FLM_GSEL -/,
   ⟨0x1C0084, 1, 0x10000000000, 1, 0x10000000000, 1, .ro, 0x0, 0x0, 0x0, 0x0⟩ /- FLM_GST -/,
   ⟨0x1C0088, 1, 0x10000000000, 1, 0x10000000000, 1, .ro, 0x0, 0x0, 0x0, 0x0⟩ /- FLM_GHELD -/,
   ⟨0x1C00A0, 1, 0x10000000000, 8, 0x4, 1, .ro, 0x0, 0x0, 0x0, 0x0⟩ /- FLM_GMAP -/,
   ⟨0x1C0100, 1, 0x10000000000, 1, 0x10000000000, 2, .counter, 0x0, 0x0, 0x0, 0x0⟩ /- FLM_OVF -/,
   ⟨0x1C0108, 1, 0x10000000000, 1, 0x10000000000, 2, .counter, 0x0, 0x0, 0x0, 0x0⟩ /- FLM_BADDESC -/,
   ⟨0x1C0110, 1, 0x10000000000, 1, 0x10000000000, 2, .counter, 0x0, 0x0, 0x0, 0x0⟩ /- FLM_RELREF -/,
   ⟨0x1C0118, 1, 0x10000000000, 1, 0x10000000000, 2, .counter, 0x0, 0x0, 0x0, 0x0⟩ /- FLM_GDISC -/,
   ⟨0x1C0120, 1, 0x10000000000, 1, 0x10000000000, 2, .counter, 0x0, 0x0, 0x0, 0x0⟩ /- FLM_CTXREF -/,
   ⟨0x1C0128, 1, 0x10000000000, 1, 0x10000000000, 2, .counter, 0x0, 0x0, 0x0, 0x0⟩ /- FLM_GREF -/]

/-- Register rows of CTX (R543). -/
def regsCTX : List RegRow :=
  [⟨0x200000, 1, 0x10000000000, 262144, 0x4, 1, .ro, 0x0, 0x0, 0x0, 0x0⟩ /- CTX_REC -/]

/-- Register rows of TRC (R543). -/
def regsTRC : List RegRow :=
  [⟨0x500000, 1, 0x10000000000, 1, 0x10000000000, 1, .rw, 0x5701, 0x5701, 0xFF03, 0x0⟩ /- TRC_CTL -/,
   ⟨0x500004, 1, 0x10000000000, 1, 0x10000000000, 1, .cmd, 0x0, 0x0, 0x0, 0x0⟩ /- TRC_CMD -/,
   ⟨0x500008, 1, 0x10000000000, 1, 0x10000000000, 1, .ro, 0x0, 0x0, 0x0, 0x0⟩ /- TRC_WIDX -/,
   ⟨0x50000C, 1, 0x10000000000, 1, 0x10000000000, 1, .rw, 0x0, 0x0, 0xFFFF, 0x0⟩ /- TRC_RSEL -/,
   ⟨0x500010, 1, 0x10000000000, 4, 0x4, 1, .ro, 0x0, 0x0, 0x0, 0x0⟩ /- TRC_RD -/,
   ⟨0x500040, 1, 0x10000000000, 1, 0x10000000000, 2, .counter, 0x0, 0x0, 0x0, 0x0⟩ /- TRC_LOST -/]

/-- Register rows of CMP (R543). -/
def regsCMP : List RegRow :=
  [⟨0x300000, 1, 0x10000000000, 1, 0x10000000000, 1, .rw, 0x20, 0x20, 0x1FFF, 0x0⟩ /- CMP_CFG -/,
   ⟨0x300004, 1, 0x10000000000, 1, 0x10000000000, 1, .cmd, 0x0, 0x0, 0x0, 0x0⟩ /- CMP_CMD -/,
   ⟨0x300008, 1, 0x10000000000, 1, 0x10000000000, 1, .rw, 0x0, 0x0, 0xFFFFFFFF, 0x0⟩ /- CMP_ARG0 -/,
   ⟨0x30000C, 1, 0x10000000000, 1, 0x10000000000, 1, .ro, 0x0, 0x0, 0x0, 0x0⟩ /- CMP_RES -/,
   ⟨0x300010, 1, 0x10000000000, 1, 0x10000000000, 1, .ro, 0x0, 0x0, 0x0, 0x0⟩ /- CMP_STAT -/,
   ⟨0x300014, 1, 0x10000000000, 1, 0x10000000000, 1, .ro, 0x0, 0x0, 0x0, 0x0⟩ /- CMP_SREC -/,
   ⟨0x300018, 1, 0x10000000000, 1, 0x10000000000, 1, .ro, 0x0, 0x0, 0x0, 0x0⟩ /- CMP_LASTSEQ -/,
   ⟨0x300040, 1, 0x10000000000, 1, 0x10000000000, 2, .counter, 0x0, 0x0, 0x0, 0x0⟩ /- CMP_ARMLATE -/,
   ⟨0x300048, 1, 0x10000000000, 1, 0x10000000000, 2, .counter, 0x0, 0x0, 0x0, 0x0⟩ /- CMP_LOADREF -/,
   ⟨0x300400, 1, 0x10000000000, 32, 0x10, 1, .ro, 0x0, 0x0, 0x0, 0x0⟩ /- CMP_PROG0 -/,
   ⟨0x300404, 1, 0x10000000000, 32, 0x10, 1, .ro, 0x0, 0x0, 0x0, 0x0⟩ /- CMP_PROG1 -/,
   ⟨0x300800, 4, 0x20, 4, 0x4, 1, .rw, 0x0, 0x0, 0xFFFFFFFF, 0x0⟩ /- CMP_CANVAS -/,
   ⟨0x300900, 4, 0x20, 4, 0x4, 1, .ro, 0x0, 0x0, 0x0, 0x0⟩ /- CMP_CANVAS_A -/,
   ⟨0x301000, 64, 0x20, 8, 0x4, 1, .rw, 0x0, 0x0, 0xFFFFFFFF, 0x0⟩ /- CMP_LAYREC -/,
   ⟨0x301800, 64, 0x20, 8, 0x4, 1, .ro, 0x0, 0x0, 0x0, 0x0⟩ /- CMP_LAYREC_A -/,
   ⟨0x302000, 1, 0x10000000000, 64, 0x10, 1, .rw, 0x0, 0x0, 0x0, 0x3⟩ /- CMP_LAYER -/,
   ⟨0x302004, 1, 0x10000000000, 64, 0x10, 1, .ro, 0x0, 0x0, 0x0, 0x0⟩ /- CMP_LAYER_DX -/,
   ⟨0x302008, 1, 0x10000000000, 64, 0x10, 1, .ro, 0x0, 0x0, 0x0, 0x0⟩ /- CMP_LAYER_DY -/,
   ⟨0x302800, 1, 0x10000000000, 32, 0x20, 1, .rw, 0x1F40, 0x1F40, 0x1FFFF, 0x0⟩ /- CMP_GROUP_CFG -/,
   ⟨0x302804, 1, 0x10000000000, 32, 0x20, 1, .ro, 0x0, 0x0, 0x0, 0x0⟩ /- CMP_GROUP_STAT -/,
   ⟨0x302808, 1, 0x10000000000, 32, 0x20, 2, .counter, 0x0, 0x0, 0x0, 0x0⟩ /- CMP_GROUP_HELD -/,
   ⟨0x302810, 1, 0x10000000000, 32, 0x20, 2, .counter, 0x0, 0x0, 0x0, 0x0⟩ /- CMP_GROUP_FLIPS -/,
   ⟨0x310000, 1024, 0x10, 4, 0x4, 1, .rw, 0x0, 0x0, 0xFFFFFFFF, 0x0⟩ /- CMP_TMAP -/,
   ⟨0x314000, 1024, 0x10, 4, 0x4, 1, .ro, 0x0, 0x0, 0x0, 0x0⟩ /- CMP_TMAP_A -/,
   ⟨0x303000, 1, 0x10000000000, 1, 0x10000000000, 1, .rw, 0x323C2, 0x323C2, 0xFFFFFF, 0x0⟩ /- CMP_PACE -/,
   ⟨0x303004, 1, 0x10000000000, 1, 0x10000000000, 1, .rw, 0x0, 0x0, 0x0, 0x2⟩ /- CMP_PACE_STAT -/,
   ⟨0x303008, 1, 0x10000000000, 1, 0x10000000000, 1, .ro, 0x0, 0x0, 0x0, 0x0⟩ /- CMP_PACE_LEADIF -/,
   ⟨0x30300C, 1, 0x10000000000, 1, 0x10000000000, 1, .ro, 0x0, 0x0, 0x0, 0x0⟩ /- CMP_PACE_EST -/,
   ⟨0x303010, 1, 0x10000000000, 1, 0x10000000000, 1, .ro, 0x0, 0x0, 0x0, 0x0⟩ /- CMP_PACE_LAST -/,
   ⟨0x303014, 1, 0x10000000000, 1, 0x10000000000, 1, .ro, 0x0, 0x0, 0x0, 0x0⟩ /- CMP_PACE_MMIN -/,
   ⟨0x303040, 1, 0x10000000000, 1, 0x10000000000, 2, .counter, 0x0, 0x0, 0x0, 0x0⟩ /- CMP_PACE_LATE -/,
   ⟨0x303048, 1, 0x10000000000, 1, 0x10000000000, 2, .counter, 0x0, 0x0, 0x0, 0x0⟩ /- CMP_PACE_SKIP -/,
   ⟨0x303050, 1, 0x10000000000, 1, 0x10000000000, 2, .counter, 0x0, 0x0, 0x0, 0x0⟩ /- CMP_PACE_ABAND -/,
   ⟨0x303058, 1, 0x10000000000, 1, 0x10000000000, 2, .counter, 0x0, 0x0, 0x0, 0x0⟩ /- CMP_PACE_CMTWH -/,
   ⟨0x303060, 1, 0x10000000000, 1, 0x10000000000, 2, .counter, 0x0, 0x0, 0x0, 0x0⟩ /- CMP_PACE_WALLHOLD -/,
   ⟨0x303068, 1, 0x10000000000, 1, 0x10000000000, 2, .counter, 0x0, 0x0, 0x0, 0x0⟩ /- CMP_PACE_WALLMISS -/,
   ⟨0x303080, 1, 0x10000000000, 2, 0x4, 1, .ro, 0x0, 0x0, 0x0, 0x0⟩ /- CMP_WALL_MEMB -/,
   ⟨0x303100, 1, 0x10000000000, 1, 0x10000000000, 1, .rw, 0x96B4, 0x96B4, 0x1FFFF, 0x0⟩ /- CMP_PLC_CFG -/,
   ⟨0x303104, 1, 0x10000000000, 1, 0x10000000000, 1, .cmd, 0x0, 0x0, 0x0, 0x0⟩ /- CMP_PLC_CMD -/,
   ⟨0x303108, 1, 0x10000000000, 1, 0x10000000000, 1, .ro, 0x0, 0x0, 0x0, 0x0⟩ /- CMP_PLC_RES -/,
   ⟨0x303110, 1, 0x10000000000, 4, 0x4, 1, .rw, 0x0, 0x0, 0x7FF, 0x0⟩ /- CMP_PLC_PEER -/,
   ⟨0x303140, 1, 0x10000000000, 8, 0x4, 1, .ro, 0x0, 0x0, 0x0, 0x0⟩ /- CMP_PLC_CREWLD -/,
   ⟨0x303180, 1, 0x10000000000, 2, 0x4, 1, .ro, 0x0, 0x0, 0x0, 0x0⟩ /- CMP_PLC_VAC -/,
   ⟨0x303190, 1, 0x10000000000, 4, 0x4, 1, .ro, 0x0, 0x0, 0x0, 0x0⟩ /- CMP_PLC_DIG -/,
   ⟨0x3031C0, 1, 0x10000000000, 1, 0x10000000000, 2, .counter, 0x0, 0x0, 0x0, 0x0⟩ /- CMP_PLC_CNT_OFFERS -/,
   ⟨0x3031C8, 1, 0x10000000000, 1, 0x10000000000, 2, .counter, 0x0, 0x0, 0x0, 0x0⟩ /- CMP_PLC_CNT_DECL -/,
   ⟨0x3031D0, 1, 0x10000000000, 1, 0x10000000000, 2, .counter, 0x0, 0x0, 0x0, 0x0⟩ /- CMP_PLC_CNT_MOVES -/,
   ⟨0x3031D8, 1, 0x10000000000, 1, 0x10000000000, 2, .counter, 0x0, 0x0, 0x0, 0x0⟩ /- CMP_PLC_CNT_UNPL -/,
   ⟨0x304000, 1, 0x10000000000, 1024, 0x10, 1, .ro, 0x0, 0x0, 0x0, 0x0⟩ /- CMP_PLC_TILE_W0 -/,
   ⟨0x304004, 1, 0x10000000000, 1024, 0x10, 1, .ro, 0x0, 0x0, 0x0, 0x0⟩ /- CMP_PLC_TILE_W1 -/,
   ⟨0x304008, 1, 0x10000000000, 1024, 0x10, 1, .ro, 0x0, 0x0, 0x0, 0x0⟩ /- CMP_PLC_TILE_W2 -/,
   ⟨0x30400C, 1, 0x10000000000, 1024, 0x10, 1, .ro, 0x0, 0x0, 0x0, 0x0⟩ /- CMP_PLC_TILE_W3 -/,
   ⟨0x308000, 1, 0x10000000000, 16, 0x10, 1, .rw, 0x0, 0x0, 0x0, 0x2⟩ /- CMP_PLC_GUEST_W0 -/,
   ⟨0x308004, 1, 0x10000000000, 16, 0x10, 1, .ro, 0x0, 0x0, 0x0, 0x0⟩ /- CMP_PLC_GUEST_W1 -/,
   ⟨0x308008, 1, 0x10000000000, 16, 0x10, 1, .ro, 0x0, 0x0, 0x0, 0x0⟩ /- CMP_PLC_GUEST_W2 -/,
   ⟨0x30800C, 1, 0x10000000000, 16, 0x10, 1, .ro, 0x0, 0x0, 0x0, 0x0⟩ /- CMP_PLC_GUEST_W3 -/]

/-- Register rows of LDU (R543). -/
def regsLDU : List RegRow :=
  [⟨0x340000, 1, 0x10000000000, 1, 0x10000000000, 1, .rw, 0x0, 0x0, 0x0, 0xC0⟩ /- LDU_STAT -/,
   ⟨0x340004, 1, 0x10000000000, 1, 0x10000000000, 1, .cmd, 0x0, 0x0, 0x0, 0x0⟩ /- LDU_CMD -/,
   ⟨0x340008, 1, 0x10000000000, 1, 0x10000000000, 1, .rw, 0x4C40B7F, 0x4C40B7F, 0xFFFF0FFF, 0x0⟩ /- LDU_GEOM0 -/,
   ⟨0x34000C, 1, 0x10000000000, 1, 0x10000000000, 1, .rw, 0x18A0, 0x18A0, 0xFFFF, 0x0⟩ /- LDU_GEOM1 -/,
   ⟨0x340010, 1, 0x10000000000, 1, 0x10000000000, 1, .ro, 0x4C40B7F, 0x4C40B7F, 0x0, 0x0⟩ /- LDU_GEOM0A -/,
   ⟨0x340014, 1, 0x10000000000, 1, 0x10000000000, 1, .ro, 0x18A0, 0x18A0, 0x0, 0x0⟩ /- LDU_GEOM1A -/,
   ⟨0x340018, 1, 0x10000000000, 1, 0x10000000000, 1, .rw, 0x15, 0x15, 0x1F, 0x0⟩ /- LDU_DRV -/,
   ⟨0x34001C, 1, 0x10000000000, 1, 0x10000000000, 1, .ro, 0x15, 0x15, 0x0, 0x0⟩ /- LDU_DRVA -/,
   ⟨0x340020, 1, 0x10000000000, 3, 0x4, 1, .rw, 0x280, 0x280, 0x7FF, 0x0⟩ /- LDU_ICUR -/,
   ⟨0x340030, 1, 0x10000000000, 3, 0x4, 1, .ro, 0x280, 0x280, 0x0, 0x0⟩ /- LDU_ICURA -/,
   ⟨0x340040, 1, 0x10000000000, 1, 0x10000000000, 1, .ro, 0x0, 0x0, 0x0, 0x0⟩ /- LDU_SCALE -/,
   ⟨0x340044, 1, 0x10000000000, 3, 0x4, 1, .ro, 0x0, 0x0, 0x0, 0x0⟩ /- LDU_FFAC -/,
   ⟨0x340050, 1, 0x10000000000, 1, 0x10000000000, 1, .rw, 0x0, 0x0, 0x3FFFF, 0x0⟩ /- LDU_LINE -/,
   ⟨0x340054, 1, 0x10000000000, 1, 0x10000000000, 1, .rw, 0x0, 0x0, 0x0, 0xFF⟩ /- LDU_EVT -/,
   ⟨0x340058, 1, 0x10000000000, 1, 0x10000000000, 1, .rw, 0x0, 0x0, 0xFF, 0x0⟩ /- LDU_IE -/,
   ⟨0x34005C, 1, 0x10000000000, 1, 0x10000000000, 1, .ro, 0x0, 0x0, 0x0, 0x0⟩ /- LDU_POS -/,
   ⟨0x340060, 1, 0x10000000000, 1, 0x10000000000, 1, .ro, 0x80000, 0x80000, 0x0, 0x0⟩ /- LDU_SHOW -/,
   ⟨0x340064, 1, 0x10000000000, 1, 0x10000000000, 1, .rw, 0x3C, 0x3C, 0xFF, 0x0⟩ /- LDU_HOLD -/,
   ⟨0x340068, 1, 0x10000000000, 1, 0x10000000000, 1, .ro, 0x0, 0x0, 0x0, 0x0⟩ /- LDU_HV -/,
   ⟨0x34006C, 1, 0x10000000000, 1, 0x10000000000, 1, .ro, 0x0, 0x0, 0x0, 0x0⟩ /- LDU_RES -/,
   ⟨0x340100, 1, 0x10000000000, 1, 0x10000000000, 2, .counter, 0x0, 0x0, 0x0, 0x0⟩ /- LDU_CNT_FLIPS -/,
   ⟨0x340108, 1, 0x10000000000, 1, 0x10000000000, 2, .counter, 0x0, 0x0, 0x0, 0x0⟩ /- LDU_CNT_HOLDS -/,
   ⟨0x340110, 1, 0x10000000000, 1, 0x10000000000, 2, .counter, 0x0, 0x0, 0x0, 0x0⟩ /- LDU_CNT_BLACKS -/,
   ⟨0x340118, 1, 0x10000000000, 1, 0x10000000000, 2, .counter, 0x0, 0x0, 0x0, 0x0⟩ /- LDU_CNT_SSREF -/,
   ⟨0x340120, 1, 0x10000000000, 1, 0x10000000000, 2, .counter, 0x0, 0x0, 0x0, 0x0⟩ /- LDU_CNT_DLKERR -/,
   ⟨0x340128, 1, 0x10000000000, 1, 0x10000000000, 2, .counter, 0x0, 0x0, 0x0, 0x0⟩ /- LDU_CNT_HVOFF -/,
   ⟨0x340130, 1, 0x10000000000, 1, 0x10000000000, 2, .counter, 0x0, 0x0, 0x0, 0x0⟩ /- LDU_CNT_SLOTS -/]

/-- Register rows of LCR (R543). -/
def regsLCR : List RegRow :=
  [⟨0x380000, 1, 0x10000000000, 1, 0x10000000000, 1, .rw, 0xFF00, 0xFF00, 0x0, 0x10⟩ /- LCR_STAT -/,
   ⟨0x380004, 1, 0x10000000000, 1, 0x10000000000, 1, .cmd, 0x0, 0x0, 0x0, 0x0⟩ /- LCR_CMD -/,
   ⟨0x380008, 1, 0x10000000000, 1, 0x10000000000, 1, .rw, 0x0, 0x0, 0xFFFFFFFF, 0x0⟩ /- LCR_SRC -/,
   ⟨0x38000C, 1, 0x10000000000, 1, 0x10000000000, 1, .ro, 0x0, 0x0, 0x0, 0x0⟩ /- LCR_RES -/,
   ⟨0x380010, 1, 0x10000000000, 1, 0x10000000000, 1, .ro, 0x0, 0x0, 0x0, 0x0⟩ /- LCR_SETS -/,
   ⟨0x380014, 1, 0x10000000000, 2, 0x4, 1, .ro, 0x0, 0x0, 0x0, 0x0⟩ /- LCR_LBSN -/,
   ⟨0x38001C, 1, 0x10000000000, 1, 0x10000000000, 1, .ro, 0x0, 0x0, 0x0, 0x0⟩ /- LCR_BTYPE -/,
   ⟨0x380020, 1, 0x10000000000, 1, 0x10000000000, 1, .ro, 0x0, 0x0, 0x0, 0x0⟩ /- LCR_SWITCH -/,
   ⟨0x380024, 1, 0x10000000000, 1, 0x10000000000, 1, .rw, 0x2, 0x2, 0x3, 0x0⟩ /- LCR_CFG -/,
   ⟨0x380028, 1, 0x10000000000, 1, 0x10000000000, 1, .rw, 0x1039664, 0x1039664, 0x7FFFFFFF, 0x0⟩ /- LCR_DET -/,
   ⟨0x38002C, 1, 0x10000000000, 1, 0x10000000000, 1, .rw, 0x14, 0x14, 0xFF, 0x0⟩ /- LCR_SCAL -/,
   ⟨0x380030, 1, 0x10000000000, 1, 0x10000000000, 1, .ro, 0x0, 0x0, 0x0, 0x0⟩ /- LCR_SCALQ -/,
   ⟨0x380034, 1, 0x10000000000, 1, 0x10000000000, 1, .rw, 0x1E0F1, 0x1E0F1, 0x3FFFFFF, 0x0⟩ /- LCR_PROBE -/,
   ⟨0x380038, 1, 0x10000000000, 1, 0x10000000000, 1, .ro, 0x0, 0x0, 0x0, 0x0⟩ /- LCR_PROBEST -/,
   ⟨0x38003C, 1, 0x10000000000, 1, 0x10000000000, 1, .rw, 0x550D6BF, 0x550D6BF, 0xFFFFFFF, 0x0⟩ /- LCR_NTCCFG -/,
   ⟨0x380040, 1, 0x10000000000, 8, 0x4, 1, .ro, 0x0, 0x0, 0x0, 0x0⟩ /- LCR_LBT -/,
   ⟨0x380060, 1, 0x10000000000, 1, 0x10000000000, 1, .ro, 0x0, 0x0, 0x0, 0x0⟩ /- LCR_LBTMAX -/,
   ⟨0x380070, 1, 0x10000000000, 1, 0x10000000000, 1, .rw, 0x0, 0x0, 0x3FFFF, 0x0⟩ /- LCR_LSEL -/,
   ⟨0x380074, 1, 0x10000000000, 1, 0x10000000000, 1, .ro, 0x0, 0x0, 0x0, 0x0⟩ /- LCR_LAMP -/,
   ⟨0x380078, 1, 0x10000000000, 1, 0x10000000000, 1, .ro, 0x0, 0x0, 0x0, 0x0⟩ /- LCR_FLCNT -/,
   ⟨0x380100, 1, 0x10000000000, 1, 0x10000000000, 2, .counter, 0x0, 0x0, 0x0, 0x0⟩ /- LCR_CNT_OPENS -/,
   ⟨0x380108, 1, 0x10000000000, 1, 0x10000000000, 2, .counter, 0x0, 0x0, 0x0, 0x0⟩ /- LCR_CNT_SHORTS -/,
   ⟨0x380110, 1, 0x10000000000, 1, 0x10000000000, 2, .counter, 0x0, 0x0, 0x0, 0x0⟩ /- LCR_CNT_PINSHORTS -/,
   ⟨0x380118, 1, 0x10000000000, 1, 0x10000000000, 2, .counter, 0x0, 0x0, 0x0, 0x0⟩ /- LCR_CNT_INTERMIT -/,
   ⟨0x380120, 1, 0x10000000000, 1, 0x10000000000, 2, .counter, 0x0, 0x0, 0x0, 0x0⟩ /- LCR_CNT_PROBES -/,
   ⟨0x380128, 1, 0x10000000000, 1, 0x10000000000, 2, .counter, 0x0, 0x0, 0x0, 0x0⟩ /- LCR_CNT_CALRUN -/,
   ⟨0x380130, 1, 0x10000000000, 1, 0x10000000000, 2, .counter, 0x0, 0x0, 0x0, 0x0⟩ /- LCR_CNT_DUPDISC -/,
   ⟨0x380138, 1, 0x10000000000, 1, 0x10000000000, 2, .counter, 0x0, 0x0, 0x0, 0x0⟩ /- LCR_CNT_SETLATE -/,
   ⟨0x381000, 1, 0x10000000000, 1024, 0x4, 1, .ro, 0x0, 0x0, 0x0, 0x0⟩ /- LCR_FLIST -/,
   ⟨0x384000, 1, 0x10000000000, 3072, 0x4, 1, .ro, 0x0, 0x0, 0x0, 0x0⟩ /- LCR_TRIM -/]

/-- Register rows of LPE (R543). -/
def regsLPE : List RegRow :=
  [⟨0x3C0000, 1, 0x10000000000, 1, 0x10000000000, 1, .rw, 0x0, 0x0, 0x0, 0x2⟩ /- LPE_STAT -/,
   ⟨0x3C0004, 1, 0x10000000000, 1, 0x10000000000, 1, .rw, 0x0, 0x0, 0xFFFF, 0x0⟩ /- LPE_SUP -/,
   ⟨0x3C0008, 1, 0x10000000000, 1, 0x10000000000, 1, .ro, 0x0, 0x0, 0x0, 0x0⟩ /- LPE_SUP_DUTY -/,
   ⟨0x3C0040, 1, 0x10000000000, 1, 0x10000000000, 2, .counter, 0x0, 0x0, 0x0, 0x0⟩ /- LPE_QREF -/,
   ⟨0x3C1000, 1, 0x10000000000, 16, 0x100, 1, .rw, 0x0, 0x0, 0x3FFFF, 0x0⟩ /- LPE_CH_CFG -/,
   ⟨0x3C1004, 1, 0x10000000000, 16, 0x100, 1, .rw, 0x0, 0x0, 0xF, 0x0⟩ /- LPE_CH_MODE -/,
   ⟨0x3C1008, 1, 0x10000000000, 16, 0x100, 1, .rw, 0x0, 0x0, 0x0, 0x7⟩ /- LPE_CH -/,
   ⟨0x3C100C, 1, 0x10000000000, 16, 0x100, 1, .rw, 0x1, 0x1, 0x3FFF, 0x0⟩ /- LPE_CH_SPER -/,
   ⟨0x3C1010, 1, 0x10000000000, 16, 0x100, 1, .rw, 0x0, 0x0, 0xFFFFFFFF, 0x0⟩ /- LPE_CH_REF -/,
   ⟨0x3C1014, 1, 0x10000000000, 16, 0x100, 1, .rw, 0x0, 0x0, 0xFFFFFFFF, 0x0⟩ /- LPE_CH_MAN -/,
   ⟨0x3C1018, 1, 0x10000000000, 16, 0x100, 1, .rw, 0x0, 0x0, 0xFFFFFFFF, 0x0⟩ /- LPE_CH_ALPHA -/,
   ⟨0x3C101C, 1, 0x10000000000, 16, 0x100, 1, .rw, 0x0, 0x0, 0xFFFFFFFF, 0x0⟩ /- LPE_CH_RATE -/,
   ⟨0x3C1020, 1, 0x10000000000, 16, 0x100, 1, .rw, 0x0, 0x0, 0xFFFFFFFF, 0x0⟩ /- LPE_CH_KPA -/,
   ⟨0x3C1024, 1, 0x10000000000, 16, 0x100, 1, .rw, 0x0, 0x0, 0xFFFFFFFF, 0x0⟩ /- LPE_CH_KIA -/,
   ⟨0x3C1028, 1, 0x10000000000, 16, 0x100, 1, .rw, 0x0, 0x0, 0xFFFFFFFF, 0x0⟩ /- LPE_CH_OMINA -/,
   ⟨0x3C102C, 1, 0x10000000000, 16, 0x100, 1, .rw, 0x0, 0x0, 0xFFFFFFFF, 0x0⟩ /- LPE_CH_OMAXA -/,
   ⟨0x3C1030, 1, 0x10000000000, 16, 0x100, 1, .rw, 0x0, 0x0, 0xFFFFFFFF, 0x0⟩ /- LPE_CH_KPB -/,
   ⟨0x3C1034, 1, 0x10000000000, 16, 0x100, 1, .rw, 0x0, 0x0, 0xFFFFFFFF, 0x0⟩ /- LPE_CH_KIB -/,
   ⟨0x3C1038, 1, 0x10000000000, 16, 0x100, 1, .rw, 0x0, 0x0, 0xFFFFFFFF, 0x0⟩ /- LPE_CH_OMINB -/,
   ⟨0x3C103C, 1, 0x10000000000, 16, 0x100, 1, .rw, 0x0, 0x0, 0xFFFFFFFF, 0x0⟩ /- LPE_CH_OMAXB -/,
   ⟨0x3C1040, 1, 0x10000000000, 16, 0x100, 1, .rw, 0x0, 0x0, 0xFFFFFFFF, 0x0⟩ /- LPE_CH_HIN -/,
   ⟨0x3C1044, 1, 0x10000000000, 16, 0x100, 1, .rw, 0x0, 0x0, 0xFFFFFFFF, 0x0⟩ /- LPE_CH_OINIT -/,
   ⟨0x3C1050, 1, 0x10000000000, 16, 0x100, 1, .ro, 0x0, 0x0, 0x0, 0x0⟩ /- LPE_CH_IN -/,
   ⟨0x3C1054, 1, 0x10000000000, 16, 0x100, 1, .ro, 0x0, 0x0, 0x0, 0x0⟩ /- LPE_CH_ERR -/,
   ⟨0x3C1058, 1, 0x10000000000, 16, 0x100, 1, .ro, 0x0, 0x0, 0x0, 0x0⟩ /- LPE_CH_INTEG -/,
   ⟨0x3C105C, 1, 0x10000000000, 16, 0x100, 1, .ro, 0x0, 0x0, 0x0, 0x0⟩ /- LPE_CH_OUT -/,
   ⟨0x3C1060, 1, 0x10000000000, 16, 0x100, 1, .rw, 0x1, 0x1, 0x0, 0x4⟩ /- LPE_PROF -/,
   ⟨0x3C1064, 1, 0x10000000000, 16, 0x100, 1, .rw, 0x0, 0x0, 0xFFFFFFFF, 0x0⟩ /- LPE_PROF_TGT -/,
   ⟨0x3C1068, 1, 0x10000000000, 16, 0x100, 1, .rw, 0x10000, 0x10000, 0xFFFFFFFF, 0x0⟩ /- LPE_PROF_V -/,
   ⟨0x3C106C, 1, 0x10000000000, 16, 0x100, 1, .rw, 0x10000, 0x10000, 0xFFFFFFFF, 0x0⟩ /- LPE_PROF_AL -/,
   ⟨0x3C1070, 1, 0x10000000000, 16, 0x100, 1, .rw, 0x10000, 0x10000, 0xFFFFFFFF, 0x0⟩ /- LPE_PROF_JL -/,
   ⟨0x3C1074, 1, 0x10000000000, 16, 0x100, 1, .ro, 0x0, 0x0, 0x0, 0x0⟩ /- LPE_PROF_X -/,
   ⟨0x3C1078, 1, 0x10000000000, 16, 0x100, 1, .ro, 0x0, 0x0, 0x0, 0x0⟩ /- LPE_PROF_VEL -/,
   ⟨0x3C107C, 1, 0x10000000000, 16, 0x100, 1, .ro, 0x0, 0x0, 0x0, 0x0⟩ /- LPE_PROF_ACC -/,
   ⟨0x3C1084, 1, 0x10000000000, 16, 0x100, 1, .ro, 0x10000, 0x10000, 0x0, 0x0⟩ /- LPE_PROF_VA -/,
   ⟨0x3C1088, 1, 0x10000000000, 16, 0x100, 1, .ro, 0x10000, 0x10000, 0x0, 0x0⟩ /- LPE_PROF_AA -/,
   ⟨0x3C108C, 1, 0x10000000000, 16, 0x100, 1, .ro, 0x10000, 0x10000, 0x0, 0x0⟩ /- LPE_PROF_JA -/,
   ⟨0x3C10C0, 1, 0x10000000000, 16, 0x100, 2, .counter, 0x0, 0x0, 0x0, 0x0⟩ /- LPE_CH_SATCNT -/,
   ⟨0x3C10C8, 1, 0x10000000000, 16, 0x100, 2, .counter, 0x0, 0x0, 0x0, 0x0⟩ /- LPE_CH_HOCNT -/,
   ⟨0x3C4000, 1, 0x10000000000, 64, 0x20, 1, .rw, 0x0, 0x0, 0x1F, 0x0⟩ /- LPE_TGT_W0 -/,
   ⟨0x3C4004, 64, 0x20, 4, 0x4, 1, .rw, 0x0, 0x0, 0xFFFFFFFF, 0x0⟩ /- LPE_TGT -/]

/-- Register rows of RDN (R543). -/
def regsRDN : List RegRow :=
  [⟨0x400000, 1, 0x10000000000, 1, 0x10000000000, 1, .rw, 0xF0004, 0xF0004, 0x1FFFFF, 0x0⟩ /- RDN_CFG -/,
   ⟨0x400004, 1, 0x10000000000, 1, 0x10000000000, 1, .cmd, 0x0, 0x0, 0x0, 0x0⟩ /- RDN_CMD -/,
   ⟨0x400008, 1, 0x10000000000, 1, 0x10000000000, 1, .rw, 0x0, 0x0, 0x0, 0x2E0⟩ /- RDN_STAT -/,
   ⟨0x40000C, 1, 0x10000000000, 1, 0x10000000000, 1, .ro, 0x0, 0x0, 0x0, 0x0⟩ /- RDN_PATH -/,
   ⟨0x400010, 1, 0x10000000000, 1, 0x10000000000, 1, .ro, 0x0, 0x0, 0x0, 0x0⟩ /- RDN_EPOCH -/,
   ⟨0x400014, 1, 0x10000000000, 1, 0x10000000000, 1, .ro, 0x0, 0x0, 0x0, 0x0⟩ /- RDN_EPSTAT -/,
   ⟨0x400018, 1, 0x10000000000, 1, 0x10000000000, 1, .ro, 0x0, 0x0, 0x0, 0x0⟩ /- RDN_VOTE -/,
   ⟨0x40001C, 1, 0x10000000000, 1, 0x10000000000, 1, .ro, 0x0, 0x0, 0x0, 0x0⟩ /- RDN_SWAPSEQ -/,
   ⟨0x400020, 1, 0x10000000000, 1, 0x10000000000, 1, .ro, 0x0, 0x0, 0x0, 0x0⟩ /- RDN_VOTESEQ -/,
   ⟨0x400100, 1, 0x10000000000, 1, 0x10000000000, 2, .counter, 0x0, 0x0, 0x0, 0x0⟩ /- RDN_TAKEOVERS -/,
   ⟨0x400108, 1, 0x10000000000, 1, 0x10000000000, 2, .counter, 0x0, 0x0, 0x0, 0x0⟩ /- RDN_SWAPS -/,
   ⟨0x400110, 1, 0x10000000000, 1, 0x10000000000, 2, .counter, 0x0, 0x0, 0x0, 0x0⟩ /- RDN_DIGCMP -/,
   ⟨0x400118, 1, 0x10000000000, 1, 0x10000000000, 2, .counter, 0x0, 0x0, 0x0, 0x0⟩ /- RDN_DIGMIS -/,
   ⟨0x400120, 1, 0x10000000000, 1, 0x10000000000, 2, .counter, 0x0, 0x0, 0x0, 0x0⟩ /- RDN_RECMIS -/,
   ⟨0x400128, 1, 0x10000000000, 1, 0x10000000000, 2, .counter, 0x0, 0x0, 0x0, 0x0⟩ /- RDN_NOCMP -/,
   ⟨0x400130, 1, 0x10000000000, 1, 0x10000000000, 2, .counter, 0x0, 0x0, 0x0, 0x0⟩ /- RDN_VOTES -/,
   ⟨0x400138, 1, 0x10000000000, 1, 0x10000000000, 2, .counter, 0x0, 0x0, 0x0, 0x0⟩ /- RDN_HBTMISS -/,
   ⟨0x400140, 1, 0x10000000000, 1, 0x10000000000, 2, .counter, 0x0, 0x0, 0x0, 0x0⟩ /- RDN_EPINST -/,
   ⟨0x400148, 1, 0x10000000000, 1, 0x10000000000, 2, .counter, 0x0, 0x0, 0x0, 0x0⟩ /- RDN_EPDISC -/,
   ⟨0x400150, 1, 0x10000000000, 1, 0x10000000000, 2, .counter, 0x0, 0x0, 0x0, 0x0⟩ /- RDN_DUALACT -/]

/-- Register rows of CVU (R543). -/
def regsCVU : List RegRow :=
  [⟨0x480000, 1, 0x10000000000, 4, 0x100, 1, .rw, 0x20, 0x20, 0x7FF, 0x0⟩ /- CVU_CFG -/,
   ⟨0x480004, 1, 0x10000000000, 4, 0x100, 1, .cmd, 0x0, 0x0, 0x0, 0x0⟩ /- CVU_CMD -/,
   ⟨0x480008, 1, 0x10000000000, 4, 0x100, 1, .rw, 0x0, 0x0, 0x0, 0xE⟩ /- CVU_STAT -/,
   ⟨0x480010, 1, 0x10000000000, 4, 0x100, 1, .rw, 0x0, 0x0, 0xFFFFFFFF, 0x0⟩ /- CVU_POLYL -/,
   ⟨0x480014, 1, 0x10000000000, 4, 0x100, 1, .rw, 0x0, 0x0, 0xFFFFFFFF, 0x0⟩ /- CVU_POLYH -/,
   ⟨0x480018, 1, 0x10000000000, 4, 0x100, 1, .rw, 0x0, 0x0, 0xFFFFFFFF, 0x0⟩ /- CVU_INITL -/,
   ⟨0x48001C, 1, 0x10000000000, 4, 0x100, 1, .rw, 0x0, 0x0, 0xFFFFFFFF, 0x0⟩ /- CVU_INITH -/,
   ⟨0x480020, 1, 0x10000000000, 4, 0x100, 1, .rw, 0x0, 0x0, 0xFFFFFFFF, 0x0⟩ /- CVU_XORL -/,
   ⟨0x480024, 1, 0x10000000000, 4, 0x100, 1, .rw, 0x0, 0x0, 0xFFFFFFFF, 0x0⟩ /- CVU_XORH -/,
   ⟨0x480030, 4, 0x100, 4, 0x4, 1, .rw, 0x0, 0x0, 0xFFFFFFFF, 0x0⟩ /- CVU_BADDR -/,
   ⟨0x480040, 1, 0x10000000000, 4, 0x100, 1, .rw, 0x0, 0x0, 0x7FFFF, 0x0⟩ /- CVU_BPORT -/,
   ⟨0x480080, 1, 0x10000000000, 4, 0x100, 2, .counter, 0x0, 0x0, 0x0, 0x0⟩ /- CVU_RXOK -/,
   ⟨0x480088, 1, 0x10000000000, 4, 0x100, 2, .counter, 0x0, 0x0, 0x0, 0x0⟩ /- CVU_RXBAD -/,
   ⟨0x480090, 1, 0x10000000000, 4, 0x100, 2, .counter, 0x0, 0x0, 0x0, 0x0⟩ /- CVU_ALVREP -/,
   ⟨0x480098, 1, 0x10000000000, 4, 0x100, 2, .counter, 0x0, 0x0, 0x0, 0x0⟩ /- CVU_ALVSKIP -/,
   ⟨0x4800A0, 1, 0x10000000000, 4, 0x100, 2, .counter, 0x0, 0x0, 0x0, 0x0⟩ /- CVU_TXMSG -/]

/-- Register rows of BOOT (R543). -/
def regsBOOT : List RegRow :=
  [⟨0x4C0000, 1, 0x10000000000, 1, 0x10000000000, 1, .rw, 0x0, 0x0, 0x0, 0x1E00⟩ /- BOOT_STAT -/,
   ⟨0x4C0004, 1, 0x10000000000, 1, 0x10000000000, 1, .cmd, 0x0, 0x0, 0x0, 0x0⟩ /- BOOT_CMD -/,
   ⟨0x4C0008, 1, 0x10000000000, 1, 0x10000000000, 1, .rw, 0x0, 0x0, 0xFFFFFFFF, 0x0⟩ /- BOOT_ARG -/,
   ⟨0x4C000C, 1, 0x10000000000, 1, 0x10000000000, 1, .rw, 0x8, 0x8, 0x1F, 0x0⟩ /- BOOT_CFG -/,
   ⟨0x4C0010, 1, 0x10000000000, 1, 0x10000000000, 1, .ro, 0x0, 0x0, 0x0, 0x0⟩ /- BOOT_COUNT -/,
   ⟨0x4C0014, 1, 0x10000000000, 1, 0x10000000000, 1, .ro, 0x0, 0x0, 0x0, 0x0⟩ /- BOOT_FUSE -/,
   ⟨0x4C0018, 1, 0x10000000000, 1, 0x10000000000, 1, .ro, 0x0, 0x0, 0x0, 0x0⟩ /- BOOT_LOAD -/,
   ⟨0x4C001C, 1, 0x10000000000, 1, 0x10000000000, 1, .ro, 0x0, 0x0, 0x0, 0x0⟩ /- BOOT_RES -/,
   ⟨0x4C0020, 1, 0x10000000000, 1, 0x10000000000, 1, .ro, 0x0, 0x0, 0x0, 0x0⟩ /- BOOT_RUNVER_L -/,
   ⟨0x4C0024, 1, 0x10000000000, 1, 0x10000000000, 1, .ro, 0x0, 0x0, 0x0, 0x0⟩ /- BOOT_RUNVER_H -/,
   ⟨0x4C0040, 1, 0x10000000000, 16, 0x4, 1, .ro, 0x0, 0x0, 0x0, 0x0⟩ /- BOOT_BSR -/,
   ⟨0x4C0080, 1, 0x10000000000, 1, 0x10000000000, 1, .cmd, 0x0, 0x0, 0x0, 0x0⟩ /- BOOT_DLCMD -/,
   ⟨0x4C0084, 1, 0x10000000000, 1, 0x10000000000, 1, .rw, 0x0, 0x0, 0xFFFFFFFF, 0x0⟩ /- BOOT_DLARG0 -/,
   ⟨0x4C0088, 1, 0x10000000000, 1, 0x10000000000, 1, .rw, 0x0, 0x0, 0xFFFFFFFF, 0x0⟩ /- BOOT_DLARG1 -/,
   ⟨0x4C008C, 1, 0x10000000000, 1, 0x10000000000, 1, .rw, 0x0, 0x0, 0x3FF, 0x0⟩ /- BOOT_DLARG2 -/,
   ⟨0x4C0090, 1, 0x10000000000, 1, 0x10000000000, 1, .rw, 0x0, 0x0, 0xFFFFFFFF, 0x0⟩ /- BOOT_DLARG3 -/,
   ⟨0x4C0094, 1, 0x10000000000, 1, 0x10000000000, 1, .ro, 0x0, 0x0, 0x0, 0x0⟩ /- BOOT_DLSTAT -/,
   ⟨0x4C0100, 1, 0x10000000000, 1, 0x10000000000, 2, .counter, 0x0, 0x0, 0x0, 0x0⟩ /- BOOT_PIECEBAD -/,
   ⟨0x4C0108, 1, 0x10000000000, 1, 0x10000000000, 2, .counter, 0x0, 0x0, 0x0, 0x0⟩ /- BOOT_SETERR -/,
   ⟨0x4C0110, 1, 0x10000000000, 1, 0x10000000000, 2, .counter, 0x0, 0x0, 0x0, 0x0⟩ /- BOOT_FLERR -/,
   ⟨0x4C0200, 1, 0x10000000000, 32, 0x4, 1, .ro, 0x0, 0x0, 0x0, 0x0⟩ /- BOOT_DLMAP -/,
   ⟨0x4C4000, 1, 0x10000000000, 4096, 0x4, 1, .rw, 0x0, 0x0, 0xFFFFFFFF, 0x0⟩ /- BOOT_PBUF -/]

/-- Register rows of THM (R543). -/
def regsTHM : List RegRow :=
  [⟨0x440000, 1, 0x10000000000, 1, 0x10000000000, 1, .rw, 0x80000000, 0x80000000, 0x0, 0xF8⟩ /- THM_STAT -/,
   ⟨0x440004, 1, 0x10000000000, 1, 0x10000000000, 1, .rw, 0xB55520, 0xB55520, 0x1FFFFFF, 0x0⟩ /- THM_CFG -/,
   ⟨0x440008, 1, 0x10000000000, 1, 0x10000000000, 1, .ro, 0x0, 0x0, 0x0, 0x0⟩ /- THM_MAX -/,
   ⟨0x44000C, 1, 0x10000000000, 1, 0x10000000000, 1, .ro, 0x0, 0x0, 0x0, 0x0⟩ /- THM_RORMAX -/,
   ⟨0x440040, 1, 0x10000000000, 1, 0x10000000000, 2, .counter, 0x0, 0x0, 0x0, 0x0⟩ /- THM_WARNS -/,
   ⟨0x440048, 1, 0x10000000000, 1, 0x10000000000, 2, .counter, 0x0, 0x0, 0x0, 0x0⟩ /- THM_STOPS -/,
   ⟨0x440050, 1, 0x10000000000, 1, 0x10000000000, 2, .counter, 0x0, 0x0, 0x0, 0x0⟩ /- THM_TRIPS -/,
   ⟨0x440058, 1, 0x10000000000, 1, 0x10000000000, 2, .counter, 0x0, 0x0, 0x0, 0x0⟩ /- THM_RORS -/,
   ⟨0x440100, 1, 0x10000000000, 26, 0x4, 1, .ro, 0x0, 0x0, 0x0, 0x0⟩ /- THM_SENS -/,
   ⟨0x440200, 1, 0x10000000000, 10, 0x4, 1, .ro, 0x0, 0x0, 0x0, 0x0⟩ /- THM_SUP -/]

/-- The rows of the block whose range of R428 holds address `a`. -/
def rowsFor (a : Nat) : List RegRow :=
  if a < 0x10000 then regsGLB
  else if a < 0x20000 then regsPWR
  else if a < 0x40000 then regsTMU
  else if a < 0x80000 then regsLNK
  else if a < 0xC0000 then regsETH
  else if a < 0x100000 then regsSKD
  else if a < 0x140000 then regsMEM
  else if a < 0x180000 then regsENG
  else if a < 0x1C0000 then regsTDP
  else if a < 0x200000 then regsFLM
  else if a < 0x300000 then regsCTX
  else if a < 0x330000 then regsCMP
  else if a < 0x340000 then regsCMPB
  else if a < 0x380000 then regsLDU
  else if a < 0x3C0000 then regsLCR
  else if a < 0x400000 then regsLPE
  else if a < 0x440000 then regsRDN
  else if a < 0x480000 then regsTHM
  else if a < 0x4C0000 then regsCVU
  else if a < 0x500000 then regsBOOT
  else if a < 0x540000 then regsTRC
  else []

/-- Address `a` lies in one of the row's repeats. -/
def hitRow (a : Nat) (r : RegRow) : Bool :=
  let d := a - r.lo
  let e := d % r.s1
  let f := e % r.s2
  decide (r.lo ≤ a ∧ d / r.s1 < r.n1 ∧ e / r.s2 < r.n2 ∧ f < 4 * r.words ∧ f % 4 = 0)

/-- The register word at `a`, if one lies there (R429, R543). -/
def rowAt (a : Nat) : Option RegRow := (rowsFor a).find? (hitRow a)

end Sys2Proof.Machine
end

