-- ==== Sys2Proof/Machine/State.lean ====
section
/-! DEFINITION. The state of the unit as plain data, its reasons to stop, and its state right after
reset. Every register software can read as a word has its home in `regs`, keyed by its address; what
the spec gives the unit besides its registers is in the records below, block by block. -/

namespace Sys2Proof.Machine

/-! ### The unit as a whole -/

/-- What the unit is doing about its start (R452, R464, R465, R481, R491). -/
inductive Phase where
  | held      -- PORST_N low, or a logic supply outside its limits (R491)
  | rom       -- the boot ROM has chosen a slot and its image is being verified and copied (R464)
  | recovery  -- the ROM recovery mode (R480, R481)
  | firmware  -- RC0 firmware runs (R465)
  deriving DecidableEq, Repr

/-- Output pins that are driven levels of their own (R53, R58, R59, R487, R500, R501). -/
structure Pins where
  gp     : List Bool      -- GP00-GP15
  ppsOut : Bool
  ppsEnd : Nat            -- wall time at which the pulse of PPS_OUT ends
  hvEn   : Bool
  faultN : Bool           -- true: FAULT_N asserted (R501)
  porst  : Bool           -- level of PORST_N
  deriving DecidableEq, Repr

/-! ### Time unit -/

/-- A slot grid: TMU_RATE, TMU_RATE_DEN, TMU_SLOTS, TMU_GSCLK (R50, R51, R57). -/
structure GridSet where
  num   : Nat
  den   : Nat
  slots : Nat
  cyc   : Nat
  deriving DecidableEq, Repr

/-- The last Announce of a master as BMCA keeps it (R30). -/
structure Master where
  port : Nat
  gm   : Nat
  rank : Nat
  logInt : Int
  heard : Nat     -- local time of that Announce
  deriving DecidableEq, Repr

/-- Hidden state of the time unit. Wall times are Nats in units of 2^-32 ns since the PTP epoch. -/
structure TimeSt where
  wall     : Nat               -- R27
  acc      : Int               -- part of a wall-time unit not yet added, in 10^-9 units
  i        : Int               -- integrator, 2^-32 ppb (R34)
  f        : Int               -- correction in force, 2^-32 ppb (R34)
  e        : Int               -- last sample, 2^-32 ns (R34, R41)
  acqFirst : Bool              -- the next sample of ACQUIRE steps (R35)
  lockCnt  : Nat               -- R35
  refCnt   : Nat               -- consecutive refusals (R35, R38)
  skip     : Nat               -- samples still to be skipped (R39)
  dRaw     : List Int          -- last d_raw values, newest first, 2^-17 ns (R34)
  masters  : List Master       -- R30
  sel      : Option Master     -- master selected by BMCA (R30)
  lastSample : Nat             -- local time of the last valid sample of the source (R35)
  slewPeer : Bool              -- samples fed under the rules of SLEW after a source change (R44)
  lastPeer : Nat               -- local time of the last peer TIM (R44)
  peerPer  : Nat               -- PER of the last valid peer beacon (R35)
  step     : Option (Int × Nat)  -- pending step: change of wall time, effective wall time (R41, R47)
  stepAnn  : Bool                -- it was announced by a beacon (R47)
  goodGrid : GridSet           -- last set that passed (R51)
  gridPend : Option (GridSet × Nat)  -- grid to take effect, at this slot boundary (R51, R47)
  gridAnn  : Bool              -- gridPend came from a beacon's announcement (R47)
  nextJ    : Nat               -- next slot to launch while the slot grid runs (R50)
  phaseNew : Option (Nat × Nat)  -- new phase offset and the slot it takes effect at (R549)
  lqCount  : Nat               -- insertions so far (R55)
  lqOrd    : List (Nat × Nat)  -- insertion number by stored entry (R55)
  ldly     : List Int          -- last 8 link delays, 2^-32 ns (R46)
  pdlyId   : Nat               -- last PDLY request sent, 0 none (R46)
  pdlyT1   : Nat               -- its egress timestamp
  nextPdly : Nat               -- local time of the next request (R46)
  nextTim  : Nat               -- local time of the next beacon (R45)
  timCnt   : Nat               -- beacons and requests sent
  upAt     : Nat               -- local time of the last valid beacon from upstream (R324)
  dnAt     : Nat               -- local time + 1 of the last valid beacon from downstream, 0 none
  ppsLast  : Nat               -- local time + 1 of the last accepted PPS_IN edge, 0 none (R542)
  ppsSec   : Nat               -- seconds of that edge (R542)
  mclkChg  : List (Nat × Nat)  -- selection before the last change of MCLK_OUT0, MCLK_OUT1, and its wall time (R59)
  deriving DecidableEq, Repr

/-! ### Flumes, order groups, threads -/

/-- An entry of a flume: four words, the thread that pushed it (640 and above: none), the engine it was
pushed from, and its stamp in the order of visibility or of push (R219, R220, R187). -/
structure FEntry where
  w0 : Word
  w1 : Word
  w2 : Word
  w3 : Word
  thr : Nat
  eng : Nat
  ord : Nat
  grp : Nat
  seq : Nat
  deriving DecidableEq, Repr

/-- A flume: visible entries oldest first, and held entries in push order (R196, R214). -/
structure Flume where
  vis  : List FEntry
  held : List FEntry
  deriving DecidableEq, Repr

/-- An open order group: window, lowest sequence not released, and the sequences held or skipped, each
with the flume that holds it, or 2^18 for a skipped one (R225). -/
structure OGroup where
  win  : Nat
  base : Nat
  used : List (Nat × Nat)
  deriving DecidableEq, Repr

/-- State of a thread number (TDP_THR0.STATE). -/
inductive ThrState where
  | free | unplaced | placed | kernel
  deriving DecidableEq, Repr

/-- A thread record (R205, R206, R236). -/
structure Thr where
  st      : ThrState
  prio    : Nat
  affin   : Nat
  eng     : Nat
  slot    : Nat
  waitall : Bool
  waiting : Bool
  flags   : Word
  mask    : Word
  ctx     : Nat
  nctx    : Nat
  entry   : Nat
  s0      : Word
  comp    : Bool    -- spawned by RC0 for composition or correction (R264, R368)
  deriving DecidableEq, Repr

/-! ### Engine slots and samplers -/

/-- ENG_THR_STAT.STATE (R148). ISSUE is never seen between two commands, and OPWAIT is read from the
pending results of a READY slot (R146). -/
inductive SlotSt where
  | free | ready | smpwait | flumewait | evwait | stopped | fault
  deriving DecidableEq, Repr

/-- A pass descriptor (R162, R190). -/
structure PassDesc where
  width : Nat
  samp  : Nat
  depth : Nat
  pack  : Nat
  tv    : Nat
  th    : Nat
  bankv : Nat
  bankh : Nat
  layer : Nat
  y0    : Int
  x0    : Int
  dy    : Nat
  dx    : Nat
  passid : Nat
  deriving DecidableEq, Repr

/-- A sampler request (R188-R192). -/
inductive SmpKind where
  | lut (ra rb rc : List Word) (d : Nat) (mask : Half) (slot sub : Nat) (big : Bool)
  | sopen (desc : PassDesc)
  | srun (y : Word)
  | sclose
  | sclh (x : Word) (d : Nat) (mask : Half)
  deriving DecidableEq, Repr

/-- What a blocked instruction does at its release (R148): its operands were read at issue (R176). -/
inductive Blocked where
  | pull (f d : Nat)
  | push (f : Nat) (w0 w1 w2 w3 : Word)
  | relo (f : Nat) (w0 w1 w2 w3 tag : Word) (pred : Option Nat)
  | waitf (mask : Word) (all clr : Bool) (d : Nat)
  | third (k : SmpKind)      -- a third sampler instruction (R147): it is sent at release
  | sampler                  -- waits for its own request (R162, R166)
  deriving DecidableEq, Repr

/-- A thread slot (R144-R149). Registers are sparse: an unlisted register reads 0. -/
structure Slot where
  st    : SlotSt
  pc    : Nat
  v     : List (Nat × Word)   -- v r lane l at key 16 r + l
  s     : List (Nat × Word)
  p     : List (Nat × Half)   -- p1-p7; p0 reads 0xFFFF
  sat   : Bool
  thr   : Nat
  cause : Nat                 -- FCAUSE
  fins  : Nat                 -- faulting instruction word
  prior : SlotSt
  yld   : List Nat            -- slots that must issue first (R201)
  blk   : Option Blocked
  killed : Bool               -- KILL pending (R207)
  deriving DecidableEq, Repr

/-- A request in a crew's queue, with the slot and the thread that sent it. -/
structure SmpReq where
  eng  : Nat
  slot : Nat
  thr  : Nat
  kind : SmpKind
  deriving DecidableEq, Repr

/-- The open pass: owner, descriptor, taps in use, decimation (R162, R164). -/
structure Pass where
  eng  : Nat
  slot : Nat
  thr  : Nat
  desc : PassDesc
  taps : Nat
  dec  : Bool
  deriving DecidableEq, Repr

/-- A crew's samplers: LUT3 queue, scaler queue (queued opens among its requests), open pass, lines held by
the line buffer (line number and its place), the last output line run and the staged row (R158-R168). -/
structure Crew where
  lutq   : List SmpReq
  sclq   : List SmpReq
  pass   : Option Pass
  lines  : List (Nat × Nat)
  lastY  : Int
  staged : List (Nat × Nat × Nat)
  loading : Option (Nat × Nat × Nat)   -- lattice LOAD in progress: slot, sub-index, size (R161)
  lastIssue : List Nat                 -- slot that issued last, by engine of the crew (R145)
  paceWin : Nat                        -- local time of the next pace window (R152)
  deriving DecidableEq, Repr

/-- A FETCH or OUT entry taken by its hardware consumer and not completed (R223, R224). -/
structure InFlight where
  unit : Nat       -- crew of the fetch unit, or 8 + port of the output consumer
  f    : Nat       -- flume
  e    : FEntry
  done : Nat       -- lines or bytes already moved
  status : Nat     -- ACK STATUS (R222)
  deriving DecidableEq, Repr

/-- Code that every engine of the role receives: the program index (32: the correction program), its offset
in the code region and its bytes (R230, R252, R368). -/
structure CodePart where
  prog  : Nat
  base  : Nat
  bytes : List Byte
  deriving DecidableEq, Repr

/-- Flumes, groups, threads, engines and crews. -/
structure EngSt where
  slots  : List (Nat × Slot)      -- key 8 e + t
  crews  : List (Nat × Crew)
  thr    : List (Nat × Thr)
  ready  : List Nat               -- unplaced threads in order of entry (R210)
  freed  : List Nat               -- freed numbers, longest free first (R206)
  nextNew : Nat                   -- numbers below have been used (R206)
  flumes : List (Nat × Flume)
  groups : List (Nat × OGroup)
  stamp  : Nat                    -- next visibility or push stamp (R187, R219)
  flight : List InFlight
  code   : List CodePart          -- loaded code (R252)
  trcN   : Nat                    -- trace entries written since CLEAR, for STOP (R233)
  trc    : List (Nat × Word)      -- trace buffer, key 4 entry + word (R233)
  deriving DecidableEq, Repr

/-! ### Skidline ports and serial lanes -/

/-- A Skidline frame without its CRCs (R288): `tf` holds header bytes 10-29 (R291), `pay` the payload. -/
structure Frame where
  typ   : Nat
  bcast : Bool
  lloc  : Bool
  dest  : Nat
  src   : Nat
  alive : Nat
  tf    : List Byte
  pay   : List Byte
  deriving DecidableEq, Repr

/-- What left the unit, newest first: a frame with the way it ended (0 END, 1 stomped, 16 + the REASON of an
ABORT), an Ethernet frame body, a control message to an address and UDP port, or a byte string written on one of the
board's serial buses. -/
inductive Sent where
  | msg (port : Nat) (v6 : Bool) (ip udp : Nat) (payload : List Byte)
  | frame (port : Nat) (f : Frame) (fin : Nat)
  | eth (port : Nat) (kind : Nat) (body : List Byte)
  | bus (n : Nat) (bytes : List Byte)
  deriving DecidableEq, Repr

/-- A frame queued for a port: the port it came from if it is forwarded, how it ends, the wall time of its
arrival, the stamp of its OUT entry, and whether its wait for credit has been counted. -/
structure TxItem where
  f    : Frame
  fwd  : Option Nat
  fin  : Nat
  at0  : Nat
  ent  : Option Nat
  waited : Bool
  deriving DecidableEq, Repr

/-- A received frame on its way to its consumer, with its arrival and the state of its trailer. -/
structure RxItem where
  f   : Frame
  at0 : Nat
  fin : Nat
  owed : Bool    -- its units are freed when it is consumed (R302)
  deriving DecidableEq, Repr

/-- A Skidline port: send queues of classes T, C and B, credits (R302), received frames in order, frames that
wait behind a held one (R308), and the alive counters it sends (R301). -/
structure Port where
  tq : List TxItem
  cq : List TxItem
  bq : List TxItem
  sentB : Nat
  sentC : Nat
  cumB  : Nat
  cumC  : Nat
  bufB  : Nat
  bufC  : Nat
  seq   : Nat
  freeB : Nat
  freeC : Nat
  timAt : List Nat
  rx    : List RxItem
  behind : List (RxFrame × Nat)
  held  : Bool
  alive : List (Nat × Nat × Nat)   -- TYPE, DEST, next ALIVE
  calTx : Nat                      -- local time until which a window holds frames (R88)
  last  : Nat                      -- local time of the last frame (R82)
  deriving DecidableEq, Repr

/-- Skidline as a whole. -/
structure SkdSt where
  ports : List (Nat × Port)
  seen  : List (Nat × Nat × Nat × Nat)  -- TYPE, SRC, last ALIVE, local time (R301)
  slices : List (Nat × Nat)             -- SLOTSEQ and SLICE whose SLICE entry was pushed (R309)
  next   : Nat                          -- next buffer of the receive ring (R307)
  nbuf   : Nat                          -- buffers in force
  svcTag : Nat                          -- TAG of the next service message (R443)
  ctlTag : Nat                          -- TAG of the next request to a tile (R326)
  named : Bool                          -- an address has been taken since reset (R318)
  replyTo : List (Nat × Nat)            -- port on which frames of a head last arrived
  enumPend : Option (Nat × List Nat)    -- enumeration in progress: its start and the ports (R314)
  disc   : List (Nat × Nat × Nat)       -- tile: last DISCOVER taken, by port: port, POS, ENUMID (R315, R322)
  ringFed : List (Nat × Nat)            -- RINGEND port and local time of the last frame sent on for its ring (R324)
  ringOn : List Nat                     -- RINGEND ports this head feeds (R417, R419)
  out    : List Sent
  deriving DecidableEq, Repr

/-- Bring-up of a port (R71-R92): key p for Skidline port p, 16 + q for Ethernet port q. -/
structure Lnk where
  fails  : Nat         -- consecutive failures (R79)
  direct : Bool        -- the bring-up in progress is direct
  forceStep : Bool     -- it continues or restarts stepped (R73)
  detAt  : Nat         -- local time of receiver detection
  nextDet : Nat        -- local time of the next detection
  skewAt : Option Nat  -- local time of a deskew failure (R69)
  rate   : Nat         -- rate in training
  target : Nat
  neg    : Option Nat  -- last negotiated rate (R84)
  full   : Bool        -- the next exit is a full bring-up (R91)
  absent : Bool        -- FAIL: detection has found the far end absent
  exitAt : Nat
  ei     : Bool        -- an entry to electrical idle is requested (R81)
  cal    : Bool        -- a calibration run is due
  calCmd : Bool        -- it was asked for by LNK_LCMD CAL
  reqAt  : Nat         -- local time at which the window was asked for
  reqNext : Nat        -- local time of the next CALREQ
  win    : Option Nat  -- wall time of the granted window
  runEnd : Option Nat  -- local time at which the run ends
  deriving DecidableEq, Repr

/-- The serial lanes: ports, windows granted on a transmit direction (port and wall time), requests at a head. -/
structure LnkSt where
  ports : List (Nat × Lnk)
  txWin : List (Nat × Nat)
  reqs  : List (Nat × Nat × Nat × Nat)   -- requests at a head: chain port, unit, port, lanes (R87, R88)
  winSlot : List (Nat × Nat)             -- slot of the last window granted on a chain port
  deriving DecidableEq, Repr

/-! ### Ethernet -/

/-- A JOB of a slot: context, order group and sequence (R228). -/
structure Job where
  ctx : Nat
  grp : Nat
  seq : Nat
  deriving DecidableEq, Repr

/-- A frame a flow receives (R102, R103): RTP timestamp, buffer written (none: skipped), number of its first packet,
packets written, highest number written, and the number and arrival of its marker packet. -/
structure FlowFrame where
  ts    : Nat
  buf   : Option Nat
  first : Nat
  n     : Nat
  hi    : Nat
  mark  : Option (Nat × Nat)
  deriving DecidableEq, Repr

/-- Reception of a flow (R100-R103): last arrival on each leg, numbers seen with their arrival, open frames oldest
first, timestamps of the frames closed last, the number after the last marker, the buffers from the one written
longest ago, and the fence of each buffer: RTP timestamp and wall time. -/
structure FlowSt where
  lastA : Nat
  lastB : Nat
  seen  : List (Nat × Nat)
  frames : List FlowFrame
  closed : List Nat
  next  : Option Nat
  order : List Nat
  fence : List (Nat × Nat × Nat)
  used  : Bool           -- a flip has selected a buffer since OPEN
  deriving DecidableEq, Repr

/-- A still layer: the buffer selected last, whether one has been, and the fence of each buffer: TOKEN and wall
time (R105, R106). -/
structure StillSt where
  cur   : Nat
  used  : Bool
  fence : List (Nat × Nat × Nat)
  deriving DecidableEq, Repr

/-- The monitor (R107-R113): base frame being sent and its next packet, the stores completed (base frame, store)
newest first, the store sent last, the store being composed, and the RTP sequence number. -/
structure MonSt where
  frame : Nat
  pkt   : Option Nat
  done  : List (Nat × Nat)
  sent  : Option (Nat × Nat)
  job   : Option (Nat × Nat × Nat × List Job)  -- slot, base frame, store, JOBs (R108)
  wrote : List (Nat × Nat)          -- bytes written of each band of that job
  seq   : Nat
  arm   : Bool
  nextFrame : Nat                   -- base frame after the last one started
  deriving DecidableEq, Repr

/-- Ethernet: flows, still layers, monitor, and frames waiting on each port with their class: 0 monitor, 1 PTP,
2 control, 3 firmware (R96). -/
structure EthSt where
  flows  : List (Nat × FlowSt)
  stills : List (Nat × StillSt)
  mon    : MonSt
  txq    : List (Nat × Nat × List Byte)
  deriving DecidableEq, Repr

/-! ### Composition, placement and pacing -/

/-- A loaded program: code base and length, entry, threads for an engine, priority, monitor flag, local store a
thread needs, lattices named, declarations (MAXW, TV, TH, DYMAX) of layers 0-15, and the CRC field (R250). -/
structure Prog where
  base : Nat
  len  : Nat
  entry : Nat
  threads : Nat
  prio : Nat
  mon  : Bool
  lsneed : Nat
  luts : List Nat
  decl : List (Nat × Nat × Nat × Nat)
  crc  : Nat
  deriving DecidableEq, Repr

/-- A slot the allocator has posted or skipped, until it is closed (R266-R274). -/
structure SlotRun where
  j     : Nat                       -- slot number of R50
  at0   : Nat                       -- wall time of its posting
  pace  : Nat                       -- GLB_PACE.PACE then
  late  : Bool
  skip  : Bool                      -- not composed (R269)
  jobs  : List Job
  wait  : List (Job × FEntry)       -- outside its group's window (R228)
  bad   : Bool                      -- some JOB was refused, skipped or abandoned (R271)
  done  : Option Nat                -- wall time of its completion
  commit : Nat                      -- 0 open, 1 CMT sent, 2 withheld
  fed   : List Nat                  -- protected rings, by port, that this slot feeds (R415)
  bufs  : List (Nat × Nat × Nat)    -- selected buffers: SRCK, SRC, buffer (R245)
  moved : List (Nat × Nat)          -- moved tile entries and slices forwarded (R278)
  digs  : List (Nat × Nat × Nat)    -- digests of slices: unit address, slice, digest (R410)
  recd  : List (Nat × Nat)          -- record digest by ring port (R411)
  digOut : List Nat                 -- rings whose DIG has been sent or compared
  deriving DecidableEq, Repr

/-- An offer whose reply is awaited: tile entry, peer register, first slot s, estimated duration (R276). -/
structure Offer where
  tile : Nat
  peer : Nat
  s    : Nat
  et   : Nat
  deriving DecidableEq, Repr

/-- A tile composed by a peer: entry, first slot composed there, slot from which it is reclaimed, consecutive slots
withheld for it, consecutive slots in which the owner had room, estimated duration, and its group closed (R278,
R280). -/
structure Moved where
  tile : Nat
  first : Nat
  back : Option Nat
  miss : Nat
  room : Nat
  et   : Nat
  closed : Bool
  deriving DecidableEq, Repr

/-- A guest tile: entry g, owner's unit address, tile-map words, first and last slot, canvas digest of the owner,
port to the owner (R278, R279). -/
structure Guest where
  g     : Nat
  owner : Nat
  words : List Word
  first : Nat
  last  : Option Nat
  dig   : Nat
  port  : Nat
  deriving DecidableEq, Repr

/-- Composition control, allocator and pacing. -/
structure CmpSt where
  progs : List (Nat × Prog)
  loading : Option (Nat × Prog × List Byte)   -- LOAD in progress (R252)
  sel   : List (Nat × Nat × Nat × Nat)  -- layer: SRCK, SRC and the buffer selected since it was bound (R247)
  next  : Option Nat                -- next slot to post, while the slot grid runs
  slots : List SlotRun              -- newest first
  durs  : List (Nat × Nat)          -- last durations (wall time) with their PACE, newest first (R267)
  loads : List Nat                  -- accumulated load of each crew (R263)
  own   : List (Nat × Nat)          -- user of an allocated context: tile entry t, 1024 + guest, 2048 monitor, 2049 vote
  thr   : List (Nat × Nat × Nat × Nat × Nat)  -- composition threads: number, crew, program, first context, contexts
  plc   : Option (Nat × Nat × Bool)  -- CMP_PLC_CMD held for the next slot posted: OP, engine, threads killed (R265)
  hi    : Nat                       -- consecutive slots with LOAD above HI (R276)
  offer : Option Offer
  declined : List (Nat × Nat)       -- tile entry and peers that have declined it in this round
  moved : List Moved
  guests : List Guest
  ended : List (Nat × Nat × Nat)    -- move ends told each slot: unit address, slot s', cause (R444)
  retry : Nat                       -- slots posted since unplaced tiles were tried (R282)
  ready : List (Nat × Nat × Bool)   -- READY and NOTREADY received: slot sequence, head (R272, R273)
  decided : Option Nat              -- last slot decided by the reference head
  told  : Option Nat                -- last slot for which READY or NOTREADY was sent (R272)
  decs  : List (Nat × Bool)         -- decisions held: slot sequence, COMMIT (R272)
  deriving DecidableEq, Repr

/-! ### Redundancy -/

/-- An item of an epoch (R425). -/
structure Item where
  kind : Nat
  idx  : Nat
  data : List Byte
  deriving DecidableEq, Repr

/-- A received epoch that waits for its slot (R426). -/
structure Epoch where
  num   : Nat
  actid : Nat
  full  : Bool
  items : List Item
  apply : Nat
  deriving DecidableEq, Repr

/-- A vote (R421): slice, slot, own and the other verdict (true: SELFOK), base frame of its start, requests and
verdicts sent, recompute thread and its digest. -/
structure Vote where
  tile : Nat
  slice : Nat
  seq  : Nat
  mine : Option Bool
  theirs : Option Bool
  start : Nat
  asked : Nat
  told : Nat
  thr  : Option Nat
  dig  : Option Nat
  deriving DecidableEq, Repr

/-- A swap in agreement (R419): swap slot, taking side, cause, duration, state before, agreed. -/
structure Swap where
  slot  : Nat
  taking : Bool
  cause : Nat
  dur   : Nat
  prev  : Nat
  agreed : Bool
  deriving DecidableEq, Repr

/-- Redundancy. Base frames are numbered from the PTP epoch. -/
structure RdnSt where
  feeds : Bool                       -- this head feeds the protected rings (R415)
  since : Nat                        -- base frame of the entry to START (R416)
  bf    : Nat                        -- base frame whose HBT is awaited
  heard : List Nat                   -- ports on which its HBT has arrived
  sentBf : Option Nat                -- base frame of the last HBT sent (R409)
  take  : Bool                       -- takeover due at the next pacing tick (R417)
  swap  : Option Swap
  backAt : Option Nat                -- base frame at which a drill swaps back (R424)
  yieldAt : Option Nat               -- slot from which a conflict yields (R420)
  lost  : Bool                       -- SOLO entered from ACTIVE (R548)
  vote  : Option Vote
  digs  : List (Nat × Nat × List (Nat × Nat × Nat))  -- DIG received: ring port, SLOTSEQ, entries (R410)
  recRun : List (Nat × Nat)          -- consecutive record mismatches by ring port (R412)
  items : List Item                  -- items as last sent (R425)
  full  : Bool                       -- a full epoch has been asked for
  parts : Option (Nat × Nat × List Byte)  -- epoch being received: number, next index, bytes of its items
  inst  : List Epoch                 -- received epochs that wait for their slot, oldest first (R426)
  installed : Bool                   -- some epoch has been installed
  epBf  : Option Nat                 -- base frame of the last epoch closed
  dual  : Bool                       -- a conflict is in progress (R420)
  pairMis : Bool                     -- both heads, or neither, set PRIMARY (R405; log entry 37)
  peerRev : Bool                     -- the partner's REVERT (log entry 37)
  asked : Option Nat                 -- base frame of the last EPREQ; none: no request pending
  deriving DecidableEq, Repr

/-! ### Lamp drive, lamp correction and loop engine -/

/-- The slot being scanned (R345): slot number, wall time of its scan start, its grid, scan rows N, segments G and row
period R, row periods begun, whether its slot pad has begun, and whether it has raised LINE (R352). -/
structure Scan where
  j    : Nat
  at0  : Nat
  grid : GridSet
  rows : Nat
  segs : Nat
  rcyc : Nat
  row  : Nat
  pad  : Bool
  line : Bool
  deriving DecidableEq, Repr

/-- Lamp drive: executed FLIPs by the slot they select for (slot, sequence, buffer), the slot being scanned, an armed
geometry with the local time of its arm, the local time of an armed drive set, whether the lamp-side supplies allow
light (R355) and since when they are in range, the local time from which lamps may light (R490), and the sinks that
conduct in the present row period with their on-times (R346). -/
structure LduSt where
  flips : List (Nat × Nat × Nat)
  cur   : Option Scan
  geom  : Option (Word × Word × Nat)
  drv   : Option Nat
  hvOk  : Bool
  hvSince : Option Nat
  showAt : Nat
  on    : List (Nat × Nat)
  deriving DecidableEq, Repr

/-- A lamp that has been sampled (R377): verdict, streak, verdict updates at its last sample, last update by a probe. -/
structure Lamp where
  verdict : Nat
  streak  : Nat
  last    : Nat
  probed  : Bool
  deriving DecidableEq, Repr

/-- A store into the calibration area in progress (R360): record, number of the record kept in force, its image. -/
structure Store where
  id   : Nat
  data : List Byte
  deriving DecidableEq, Repr

/-- Lamp correction: lamps by row × 3,072 + sink, verdict updates so far, samples of the present slot (1 good, 2 open,
4 shorted, 8 by a probe), mapped places row × 1,024 + column (R365), the store in progress, a set to select with the
local time from which (R364), the probe pass with its start, the lamps it has still to probe and how many it has probed, the start of the last pass,
sinks found shorted (R380), the local times of the next sensor readings (R382), and the local time at which the
pin-short test or a calibration run that needs no slot pad ends. -/
structure LcrSt where
  lamps : List (Nat × Lamp)
  slots : Nat
  samp  : List (Nat × Nat)
  map   : List Nat
  store : Option Store
  auto  : Option (Nat × Nat)
  pass  : Option (Nat × List Nat × Nat)
  lastPass : Option Nat
  short : List Nat
  nextNtc : Nat
  nextDig : Nat
  shortEnd : Nat
  calEnd : Nat
  deriving DecidableEq, Repr

/-- A channel of the loop engine: the integrators of modes 1-4, the output before Combine, the sample period in force,
the target entry a RAMP has named, the lowest sink voltage of its sample period in mV, and its profile generator:
position, velocity and acceleration, exact (log entry 57), and the side on which it has passed its target (R399). -/
structure Chan where
  integ : List Int
  y0    : Int
  per   : Nat
  ramp  : Option Nat
  hdrm  : Option Nat
  x     : Int      -- 2^-16 / (6 * 10^15)
  v     : Int      -- 2^-16 / (2 * 10^10) per second
  a     : Int      -- 2^-16 / 10^5 per second^2
  side  : Int
  deriving DecidableEq, Repr

/-- The loop engine: its channels, the next sample instant as wall time, outputs not yet delivered (wall time,
destination, value), and whether any headroom has been measured. -/
structure LpeSt where
  chans : List (Nat × Chan)
  next  : Nat
  outs  : List (Nat × Nat × Int)
  seen  : Bool
  deriving DecidableEq, Repr

/-- Tile firmware's account of the slots (R370): sequences whose commit it holds, and the slices completed of a
sequence. -/
structure FwSt where
  cmts  : List Nat
  dones : List (Nat × List Nat)
  deriving DecidableEq, Repr

/-! ### Flash, power and temperature -/

/-- The download record (R469): image, its length and pieces, its slot, the pieces held. -/
structure Download where
  id   : Nat
  len  : Nat
  n    : Nat
  slot : Nat
  held : List Nat
  deriving DecidableEq, Repr

/-- Flash, fuses and the start. `recs` holds the copies of the two-copy records at 2 × record + copy: record 0 boot
selection, 1 key store, 2 dielet trims, 3 board description, 4 and 5 settings, 6 correction image, 8 and 9 board records,
16-23 calibration sets (R360, R455). `img` holds the pieces of the image slots at 1,024 × slot + piece; `chk` what the
cryptographic checks of R461 find on a slot whose bytes are not held (log entry 49): bit 0 key hash, 1 signature, 2 type 1
section, 3 the other sections; 16: computed from the bytes. -/
structure BootSt where
  recs  : List (Nat × FlashCopy)
  img   : List (Nat × List Byte)
  chk   : List Nat
  dl    : Option Download
  count : Nat                    -- boot count (R466)
  run   : Nat                    -- slot of the running image
  trial : Bool                   -- it is a candidate in TRIAL
  busy  : Option (Nat × List Byte)   -- BOOT_CMD in progress: OP and what it writes (R485)
  piece : Option (Nat × List Byte × Option (Nat × Nat × Nat))  -- piece programming; port, source and TAG of an IMG frame (R471)
  keys  : List Nat               -- hash of each fuse key slot, 0 unprogrammed (R460)
  revoked : List Nat
  fsec  : Nat
  prod  : Bool
  burn  : Bool                   -- fuses were cut while being blown (R462)
  bd    : Option (List Byte)     -- board description in force since the start (R457)
  sett  : List (Nat × Nat × Nat) -- settings entries still to be applied: address, value, mask (R478)
  conv  : Option (List Byte)     -- converted settings record of a trial (R475, R476)
  news  : List (Nat × Nat × Nat) -- BOOT events that firmware has still to notify: event, reason, build (R484)
  baud  : Nat                    -- UART rate of recovery mode (R481)
  erased : List Nat              -- slots marked EMPTY in this recovery (R482)
  lampAt : Option Nat            -- local time of the lamp-side test that is still to come (R521)
  deriving DecidableEq, Repr

/-- Power control: the target of a transition of the unit's own, the local time from which the next step may take place,
and core voltage: target, step sent, its local time (R490, R493, R499). -/
structure PwrSt where
  auto : Option Nat
  vcmd : Option (Nat × Nat × Nat)
  vset : Nat                     -- set point reached by commands, mV; 0 before the first (R493)
  supply : Option Nat            -- local time at which logic supplies came back in range (R491)
  deriving DecidableEq, Repr

/-- Temperature: samples of each sensor newest first (local time, 1/16 °C), a warning in force, the start of an orderly
stop, its factor at 0, a trip with its time, and the local time of the next housekeeping round. -/
structure ThmSt where
  hist : List (Nat × List (Nat × Int))
  warn : Bool
  stopAt : Option Nat
  zero : Bool
  tripAt : Option Nat
  nextRound : Nat
  deriving DecidableEq, Repr

/-! ### Notifications -/

/-- A notification record: the four words of R441. -/
structure NRec where
  w0 : Word
  w1 : Word
  w2 : Word
  w3 : Word
  deriving DecidableEq, Repr

/-- Records queued for the two destinations, or by a tile for its head, with the records dropped since the
last LOST record (R440-R442). -/
structure NoteSt where
  q0    : List NRec
  q1    : List NRec
  tileQ : List NRec
  lost0 : Nat
  lost1 : Nat
  next0 : Nat     -- local time from which the next notification may be sent (R440)
  next1 : Nat
  deriving DecidableEq, Repr

/-! ### Wall commands and images (R328-R335) -/

/-- A unit that a head arms: its answer (none yet, 0 armed, else the REASON), and whether it has confirmed the decision. -/
structure WcUnit where
  addr : Nat
  ans  : Option Nat
  done : Bool
  deriving DecidableEq, Repr

/-- Another head at the coordinator: the units it is asked to arm by name, its last HREPORT (armed, failed), its DONE. -/
structure WcHead where
  num  : Nat
  list : List Nat
  rep  : Option (Nat × Nat)
  done : Bool
  deriving DecidableEq, Repr

/-- The wall command a head carries out for its section, and as coordinator for the wall (R329-R332). -/
structure WcJob where
  id    : Nat
  coord : Nat
  typ   : Nat
  best  : Bool
  dead  : Nat            -- D_A, wall time
  t     : Nat
  par   : List Byte
  ports : List Nat       -- chain ports on which the ARM is broadcast
  units : List WcUnit
  heads : List WcHead
  told  : Option (Nat × Nat)   -- HREPORT last sent
  dec   : Option Bool    -- decision: commit or abort
  next  : Nat            -- local time of the next repetition
  deriving DecidableEq, Repr

/-- An arm a unit holds, one of each TYPE (R330): the head that sent it, T, PARAM, and where the change is staged. -/
structure WcArm where
  typ    : Nat
  id     : Nat
  src    : Nat
  dead   : Nat
  t      : Nat
  par    : List Byte
  staged : Nat
  deriving DecidableEq, Repr

/-- Wall commands: the jobs of a head, CMDID of the next command, arms held, and answers given (CMDID, COORD, TYPE, REASON). -/
structure WcSt where
  jobs : List WcJob
  nextId : Nat
  arms : List WcArm
  said : List (Nat × Nat × Nat × Nat)
  deriving DecidableEq, Repr

/-- Image distribution (R334, R335): pieces still to be sent in this pass, local time of the next one, tiles whose maps are
awaited, pieces the answers so far miss, tiles so far incomplete. -/
structure ImgSt where
  need : List Nat
  next : Nat
  wait : List Nat
  miss : List Nat
  inc  : List Nat
  deriving DecidableEq, Repr

/-! ### Control plane (R114-R116, R326, R327, R437-R439, R448) -/

/-- Where a control message comes from: Ethernet port, address, UDP port. -/
structure Peer where
  port : Nat
  v6   : Bool
  ip   : Nat
  udp  : Nat
  deriving DecidableEq, Repr

/-- A tracked endpoint (R115): highest counter accepted, the accepted ones of the 64 below it, local time of its last
message. -/
structure Endpoint where
  who  : Peer
  hi   : Nat
  seen : List Nat
  last : Nat
  deriving DecidableEq, Repr

/-- A response kept (R437): endpoint, TAG, local time and body. -/
structure Cached where
  who  : Peer
  tag  : Nat
  at0  : Nat
  body : List Byte
  deriving DecidableEq, Repr

/-- A request sent to a tile (R326): TAG on Skidline, unit, deadline, whether it is a query of the maps of R335, and the
requester of a relayed one with its header, key (0 none, 1 A, 2 B) and the check-value unit bound when it was accepted;
none: a request of the head's own. -/
structure Relay where
  tag  : Nat
  unit : Nat
  till : Nat
  maps : Bool
  host : Option (Peer × List Byte × Nat × Option Nat)
  deriving DecidableEq, Repr

/-- The control plane: keys A and B (ID and bytes), endpoints, cached responses, relayed requests, requests queued at a
tile (port and frame), requests it has served (source, TAG, local time, response), messages sent, and check-value units
whose next request is the first. -/
structure CtlSt where
  keyA   : Option (Nat × List Byte)
  keyB   : Option (Nat × List Byte)
  eps    : List Endpoint
  cache  : List Cached
  relays : List Relay
  tileQ  : List (Nat × Frame)
  served : List (Nat × Nat × Nat × List Byte)
  msgN   : Nat
  first  : List Nat
  deriving DecidableEq, Repr

/-! ### Memory controller -/

/-- Who holds a DRAM object: what it is for, and its number (R127). -/
inductive Owner where
  | reserve | flow (f b : Nat) | still (l b : Nat) | monitor (b : Nat) | context (c : Nat)
  | flume (f : Nat) | rxring | staging (set : Nat) | image
  deriving DecidableEq, Repr

/-- An allocated DRAM object (R127): offset and bytes. -/
structure Alloc where
  off : Nat
  len : Nat
  own : Owner
  deriving DecidableEq, Repr

/-- Self-refresh of one channel (R137, R138). -/
structure ChSt where
  pend : Bool      -- an entry has started and is not committed
  idle : Nat       -- local time since which the channel is idle after an exit
  fails : Nat      -- failed training passes of this bring-up (R130)
  meas : Nat       -- local time of the next WCK2DQ measurement (R131)
  wck  : Nat       -- timing of the last measurement
  deriving DecidableEq, Repr

/-- Hidden state of the memory controller. -/
structure MemSt where
  nch    : Nat                 -- population in force since the last bring-up (R118)
  dens   : Nat                 -- bytes per channel
  grain  : Nat                 -- G in force (R124, R126)
  loc    : Nat                 -- L in force (R124, R126)
  allocs : List Alloc          -- by rising offset
  ch     : List (Nat × ChSt)
  prevRate : Nat               -- rate to return to (R133)
  nextRate : Option Nat        -- rate a write in HALT has set for the next bring-up (R132)
  started : Nat                -- local time of the start of the pass or change in progress
  nextPoll : Nat               -- local time of the next MR4 poll (R134)
  lost   : List (Nat × Nat × Nat)  -- channel, segment, draw: contents undefined after exit (R139)
  seed   : Bool                -- residues were last reset to their spread seeds (R347)
  deriving DecidableEq, Repr

/-! ### The machine -/

/-- Why a command stops the unit. No command of the table does (the unit's own faults, thread faults and
refused commands are next states), so the type has no value. -/
inductive Fault where
  deriving DecidableEq, Repr

/-- Why the model answers no state. -/
inductive Refusal where
  /-- Raised by an arm of exec whose command has no meaning yet. Safe: no state is claimed. -/
  | notModelled (mnemonic : String)
  deriving DecidableEq, Repr

/-- The unit. `regs` lists the registers that differ from their reset value in the role; `mem` lists the
bytes of the on-chip memory windows and of DRAM, by control address, that differ from 0 (R123, R128,
R428). -/
structure State where
  head  : Bool                 -- ROLE strap: head role (R1)
  phase : Phase
  now   : Nat                  -- local time, ns since the last rising edge of PORST_N
  regs  : List (Nat × Word)
  mem   : List Host.Cell
  pins  : Pins
  tm    : TimeSt
  eng   : EngSt
  note  : NoteSt
  memc  : MemSt
  skd   : SkdSt
  lnk   : LnkSt
  eth   : EthSt
  cmp   : CmpSt
  rdn   : RdnSt
  ldu   : LduSt
  lcr   : LcrSt
  lpe   : LpeSt
  fw    : FwSt
  boot  : BootSt
  wc    : WcSt
  img   : ImgSt
  ctl   : CtlSt
  pwr   : PwrSt
  thm   : ThmSt
  fresh : Nat                  -- free values drawn so far (the model's own)
  resp  : Nat                  -- status of the last host operation (R435)
  pending : List Instr         -- commands that wait, first in first out
  deriving DecidableEq, Repr

/-! ### Reset -/

/-- Pins in reset: every output low, ALERT_N, FAULT_N and TRIP_N released. -/
def Pins.reset : Pins where
  gp := List.replicate 16 false
  ppsOut := false
  ppsEnd := 0
  hvEn := false
  faultN := false
  porst := true

/-- The grid of the reset values of R60. -/
def GridSet.reset : GridSet := ⟨60000, 1000, 1, 4000000⟩

/-- The time unit after reset: wall time 0, servo in FREE (R27). -/
def TimeSt.reset : TimeSt where
  wall := 0
  acc := 0
  i := 0
  f := 0
  e := 0
  acqFirst := true
  lockCnt := 0
  refCnt := 0
  skip := 0
  dRaw := []
  masters := []
  sel := none
  lastSample := 0
  slewPeer := false
  lastPeer := 0
  peerPer := 3
  step := none
  stepAnn := false
  goodGrid := GridSet.reset
  gridPend := none
  gridAnn := false
  nextJ := 0
  phaseNew := none
  lqCount := 0
  lqOrd := []
  ldly := []
  pdlyId := 0
  pdlyT1 := 0
  nextPdly := 0
  nextTim := 0
  timCnt := 0
  upAt := 0
  dnAt := 0
  ppsLast := 0
  ppsSec := 0
  mclkChg := [(0, 0), (0, 0)]

/-- Engines, threads and flumes after reset: nothing resident, nothing allocated. -/
def EngSt.reset : EngSt where
  slots := []
  crews := []
  thr := []
  ready := []
  freed := []
  nextNew := 0
  flumes := []
  groups := []
  stamp := 0
  flight := []
  code := []
  trcN := 0
  trc := []

/-- No record queued. -/
def NoteSt.reset : NoteSt := ⟨[], [], [], 0, 0, 0, 0⟩

/-- Memory unpowered: nothing populated, only the firmware reserve named (R120, R127). -/
def MemSt.reset : MemSt where
  nch := 0
  dens := 0
  grain := 1024
  loc := 0
  allocs := [⟨0, 0x4000000, .reserve⟩]
  ch := []
  prevRate := 0
  nextRate := none
  started := 0
  nextPoll := 0
  lost := []
  seed := true

/-- No frame queued, no address taken. -/
def SkdSt.reset : SkdSt where
  ports := []
  seen := []
  slices := []
  next := 0
  nbuf := 64
  svcTag := 0
  ctlTag := 0
  named := false
  replyTo := []
  enumPend := none
  disc := []
  ringFed := []
  ringOn := []
  out := []

/-- Nothing loaded, placed or posted. -/
def CmpSt.reset : CmpSt where
  progs := []
  loading := none
  sel := []
  next := none
  slots := []
  durs := []
  loads := [0, 0, 0, 0, 0, 0, 0, 0]
  own := []
  thr := []
  plc := none
  hi := 0
  offer := none
  declined := []
  moved := []
  guests := []
  ended := []
  retry := 0
  ready := []
  decided := none
  told := none
  decs := []

/-- Redundancy off. -/
def RdnSt.reset : RdnSt where
  feeds := false
  since := 0
  bf := 0
  heard := []
  sentBf := none
  take := false
  swap := none
  backAt := none
  yieldAt := none
  lost := false
  vote := none
  digs := []
  recRun := []
  items := []
  full := false
  parts := none
  inst := []
  installed := false
  epBf := none
  dual := false
  pairMis := false
  peerRev := true
  asked := none

/-- Erased flash and blank fuses (log entry 49). -/
def BootSt.reset : BootSt where
  recs := []
  img := []
  chk := [16, 16]
  dl := none
  count := 0
  run := 0
  trial := false
  busy := none
  piece := none
  keys := [0, 0, 0, 0]
  revoked := []
  fsec := 0
  prod := false
  burn := false
  bd := none
  sett := []
  conv := none
  news := []
  baud := 115200
  erased := []
  lampAt := some 5000000

/-- No key, no endpoint, nothing relayed. -/
def CtlSt.reset : CtlSt := ⟨none, none, [], [], [], [], [], 0, []⟩

/-- The unit right after reset: its start has ended in HALT (R465; log entry 49). -/
def State.reset : State where
  head := true
  phase := .firmware
  now := 0
  regs := []
  mem := []
  pins := Pins.reset
  tm := TimeSt.reset
  eng := EngSt.reset
  note := NoteSt.reset
  memc := MemSt.reset
  skd := SkdSt.reset
  lnk := ⟨[], [], [], []⟩
  eth := ⟨[], [], ⟨0, none, [], none, none, [], 0, false, 0⟩, []⟩
  cmp := CmpSt.reset
  rdn := RdnSt.reset
  ldu := ⟨[], none, none, none, true, none, 0, []⟩
  lcr := ⟨[], 0, [], [], none, none, none, none, [], 0, 0, 0, 0⟩
  lpe := ⟨[], 0, [], false⟩
  fw := ⟨[], []⟩
  boot := BootSt.reset
  wc := ⟨[], 1, [], []⟩
  img := ⟨[], 0, [], [], []⟩
  ctl := CtlSt.reset
  pwr := ⟨none, none, 0, none⟩
  thm := ⟨[], false, none, false, none, 0⟩
  fresh := 0
  resp := 0
  pending := []

end Sys2Proof.Machine
end

