-- ==== Sys2Proof/Machine/Ops.lean ====
section
/-! DEFINITION. The named operations over registers, memory, counters and command status that every
block uses (R6-R11, R61, R428, R435), the trace writer (R233), notifications (R440-R442) and free
values. -/

namespace Sys2Proof.Machine

/-! ### Numbers -/

/-- The value of a `w`-bit two's-complement field. -/
def toInt (w n : Nat) : Int := if n < 2 ^ (w - 1) then n else (n : Int) - 2 ^ w

/-- The `w`-bit two's-complement code of an integer, wrapping. -/
def ofInt (w : Nat) (i : Int) : Nat := (i % (2 ^ w : Int)).toNat

/-- Division rounded to nearest, ties away from zero (R34). -/
def roundDiv (a : Int) (b : Nat) : Int :=
  let q : Int := (((2 * a.natAbs + b) / (2 * b) : Nat) : Int)
  if a < 0 then -q else q

/-- The integer bounded to `lo`..`hi`. -/
def boundInt (lo hi i : Int) : Int := if i < lo then lo else if hi < i then hi else i

/-! ### Registers -/

/-- The value of the register word at `a` after reset. The words whose reset value depends on the quad
or the engine in tile role are R93's LNK_QSTAT.UNPWR and R171's ENG_STAT.GATED. -/
def resetVal (head : Bool) (a : Nat) : Word :=
  if !head && decide (0x54004 ≤ a ∧ a ≤ 0x60004 ∧ (a - 0x54004) % 0x4000 = 0) then 8#32
  else if !head && decide (0x148008 ≤ a ∧ a ≤ 0x17F008 ∧ (a - 0x148008) % 0x1000 = 0) then 1#32
  else match rowAt a with
    | some r => BitVec.ofNat 32 (if head then r.resetH else r.resetT)
    | none => 0#32

/-- The register word at `a`. -/
def State.rd (s : State) (a : Nat) : Word := mget (resetVal s.head a) s.regs a

/-- The state with register word `a` set. -/
def State.wr (s : State) (a : Nat) (v : Word) : State :=
  { s with regs := mput (resetVal s.head a) s.regs a v }

/-- The bits [lo + w - 1 : lo] of a word. -/
def getBits (v : Word) (lo w : Nat) : Nat := v.toNat / 2 ^ lo % 2 ^ w

/-- The word with bits [lo + w - 1 : lo] set to `n`. -/
def putBits (v : Word) (lo w n : Nat) : Word :=
  BitVec.ofNat 32 (v.toNat % 2 ^ lo + 2 ^ lo * (n % 2 ^ w) + 2 ^ (lo + w) * (v.toNat / 2 ^ (lo + w)))

/-- A register field. -/
def State.get (s : State) (f : Fld) : Nat := getBits (s.rd f.reg) f.lo f.w

/-- The state with a register field set; bits of `n` above the field are dropped. -/
def State.set (s : State) (f : Fld) (n : Nat) : State :=
  s.wr f.reg (putBits (s.rd f.reg) f.lo f.w n)

/-- A one-bit register field. -/
def State.bit (s : State) (f : Fld) : Bool := s.get f = 1

/-- A register field read in two's complement. -/
def State.getS (s : State) (f : Fld) : Int := toInt f.w (s.get f)

/-- Several fields set, in order. -/
def State.setAll (s : State) : List (Fld × Nat) → State
  | [] => s
  | (f, n) :: l => (s.set f n).setAll l

/-! ### Counters (R61, R445) -/

/-- The count of the 48-bit counter at `a`. -/
def State.count (s : State) (a : Nat) : Nat :=
  (s.rd a).toNat + 2 ^ 32 * getBits (s.rd (a + 4)) 0 16

/-- Add `n` to the 48-bit counter at `a`; at its maximum it holds all ones and sets OV (R61, R445; log entry 73). -/
def State.bumpN (s : State) (a n : Nat) : State :=
  let c := s.count a + n
  if c < 2 ^ 48 - 1 then
    (s.wr a (BitVec.ofNat 32 c)).wr (a + 4) (putBits (s.rd (a + 4)) 0 16 (c / 2 ^ 32))
  else (s.wr a (BitVec.ofNat 32 (2 ^ 32 - 1))).wr (a + 4) (BitVec.ofNat 32 (0x8000FFFF))

/-- Count one event. -/
def State.bump (s : State) (a : Nat) : State := s.bumpN a 1

/-- Clear the counter at `a` with its overflow bit (R61). -/
def State.clearCount (s : State) (a : Nat) : State := (s.wr a 0).wr (a + 4) 0

/-! ### Command registers (R10, R11) -/

/-- STAT codes of R10. -/
abbrev stIDLE : Nat := 0
abbrev stBUSY : Nat := 1
abbrev stDONE : Nat := 2
abbrev stDEFERRED : Nat := 3
abbrev stREFUSED : Nat := 4
abbrev stFAILED : Nat := 5

/-- STAT of the command register at `a`. -/
def State.stat (s : State) (a : Nat) : Nat := getBits (s.rd a) 28 4

/-- The command register at `a` with STAT set. -/
def State.setStat (s : State) (a st : Nat) : State := s.wr a (putBits (s.rd a) 28 4 st)

/-- A command is executing or held (R11). -/
def State.busy (s : State) (a : Nat) : Bool := s.stat a = stBUSY || s.stat a = stDEFERRED

/-- Status codes of an operation (R435). -/
abbrev rOK : Nat := 0x00
abbrev rBUSY : Nat := 0x01
abbrev rNOADDR : Nat := 0x03
abbrev rALIGN : Nat := 0x04
abbrev rACCESS : Nat := 0x05
abbrev rSTATE : Nat := 0x06
abbrev rUNPWR : Nat := 0x07
abbrev rRANGE : Nat := 0x08
abbrev rDRAMERR : Nat := 0x09

/-- The state with the status of the last host operation. -/
def State.answer (s : State) (r : Nat) : State := { s with resp := r }

/-- The command `v` written to the command register at `a`, then `op`, which sets STAT. A write while the
command in progress is BUSY or DEFERRED is refused with BUSY and changes nothing (R11, R434). -/
def State.command (s : State) (a v : Nat) (op : State → State) : State :=
  if s.busy a then s.answer rBUSY
  else op ((s.wr a (BitVec.ofNat 32 (v % 2 ^ 28))).answer rOK)

/-! ### Memory windows and DRAM (R123, R128) -/

/-- Channel and channel offset of DRAM offset `a` (R124, R125). -/
def dramPlace (m : MemSt) (a : Nat) : Nat × Nat :=
  let w := m.nch * (m.dens - m.loc)
  if a < w then
    let q := a / m.grain
    (q % m.nch, q / m.nch * m.grain + a % m.grain)
  else
    let g := (a - w) / (2 * m.loc)
    let r := a - w - g * 2 * m.loc
    let q := r / m.grain
    (2 * g + q % 2, (m.dens - m.loc) + q / 2 * m.grain + r % m.grain)

/-- The segment of R139 in which DRAM offset `a` lies, with its channel. -/
def dramSegment (m : MemSt) (a : Nat) : Nat × Nat :=
  ((dramPlace m a).1, (dramPlace m a).2 * 8 / m.dens)

/-- The seed of the residue of row `r`, sink `k` (R347). -/
def residueSeed (r k : Nat) : Nat := (21 * k + 37 * r) % 64

/-- First byte of the dispersion residue in the scan-store window, and the first one after it (R341). -/
abbrev residueBase : Nat := 0x02300000
abbrev residueEnd : Nat := 0x02330000

/-- What a byte that nothing has written reads as: the seed of a dispersion residue (R347), 0 elsewhere (log entry 6),
and a free value in a segment whose contents self-refresh has left undefined (R139; log entry 7). -/
def memDefault (m : MemSt) (a : Nat) : Byte :=
  if m.seed && decide (residueBase ≤ a ∧ a < residueEnd) then
    BitVec.ofNat 8 (residueSeed ((a - residueBase) / 3072) ((a - residueBase) % 3072))
  else match m.lost with
  | [] => 0#8
  | _ =>
    if a < 0x1000000000 then 0#8
    else
      let q := dramSegment m (a - 0x1000000000)
      match m.lost.find? (fun l => l.1 = q.1 && l.2.1 = q.2) with
      | some l => Config.freeByte (l.2.2 * 2 ^ 48 + a)
      | none => 0#8

/-- The canonical form of memory: addresses strictly rising, no byte listed that equals what its address reads as
without it (R123, R128). -/
def Memory.wf (m : MemSt) (l : List Host.Cell) : Bool := mwf (memDefault m) l

/-- Memory in its canonical form: what an unlisted byte reads as may have changed (R139, R347). -/
def State.settle (s : State) : State := { s with mem := mnorm (memDefault s.memc) s.mem }

/-- A command ends in a next state, with memory in its canonical form. -/
def settled (s : State) : Host.Outcome State Fault Refusal := .next s.settle

/-- The byte at control address `a`. -/
def State.byte (s : State) (a : Nat) : Byte := mget (memDefault s.memc a) s.mem a

/-- The state with the byte at `a` set. -/
def State.putByte (s : State) (a : Nat) (b : Byte) : State :=
  { s with mem := mput (memDefault s.memc a) s.mem a b }

/-- The bytes at `a`, `a + 1`, .. -/
def State.bytes (s : State) (a : Nat) : Nat → List Byte
  | 0 => []
  | n + 1 => s.byte a :: s.bytes (a + 1) n

/-- Bytes stored from `a` upward. -/
def State.putBytes (s : State) (a : Nat) : List Byte → State
  | [] => s
  | b :: l => (s.putByte a b).putBytes (a + 1) l

/-- The little-endian 16-bit value at `a`. -/
def State.half (s : State) (a : Nat) : Nat := (s.byte a).toNat + 256 * (s.byte (a + 1)).toNat

/-- The little-endian 32-bit word at `a` (R428). -/
def State.word (s : State) (a : Nat) : Word :=
  BitVec.ofNat 32 ((s.byte a).toNat + 2 ^ 8 * (s.byte (a + 1)).toNat +
    2 ^ 16 * (s.byte (a + 2)).toNat + 2 ^ 24 * (s.byte (a + 3)).toNat)

/-- The four bytes of a word, lowest first. -/
def wordBytes (v : Word) : List Byte :=
  [BitVec.ofNat 8 v.toNat, BitVec.ofNat 8 (v.toNat / 2 ^ 8), BitVec.ofNat 8 (v.toNat / 2 ^ 16),
   BitVec.ofNat 8 (v.toNat / 2 ^ 24)]

/-- The two bytes of a 16-bit value, lowest first. -/
def halfBytes (n : Nat) : List Byte := [BitVec.ofNat 8 n, BitVec.ofNat 8 (n / 256)]

/-- A word stored at `a`, little-endian. -/
def State.putWord (s : State) (a : Nat) (v : Word) : State := s.putBytes a (wordBytes v)

/-- A 16-bit value stored at `a`, little-endian. -/
def State.putHalf (s : State) (a n : Nat) : State := s.putBytes a (halfBytes n)

/-- The little-endian number in a byte string. -/
def leNat : List Byte → Nat
  | [] => 0
  | b :: l => b.toNat + 256 * leNat l

/-- The `n` little-endian bytes of a number. -/
def natLE : Nat → Nat → List Byte
  | 0, _ => []
  | n + 1, v => BitVec.ofNat 8 v :: natLE n (v / 256)

/-- Bases of the windows of R128 and of DRAM (R123). -/
abbrev lsBase (e : Nat) : Nat := 0x01000000 + e * 0x40000
abbrev scanBase : Nat := 0x02000000
abbrev lutBase (c : Nat) : Nat := 0x02400000 + c * 0x100000
abbrev lineBase (c : Nat) : Nat := 0x02C00000 + c * 0x80000
abbrev dramBase : Nat := 0x1000000000

/-! ### Free values (log entry 3) -/

/-- A free word, and the state in which it has been drawn. -/
def State.draw (s : State) : Word × State :=
  (Config.freeWord s.fresh, { s with fresh := s.fresh + 1 })

/-- A free number, and the state in which it has been drawn. -/
def State.drawNat (s : State) : Nat × State :=
  (Config.freeNat s.fresh, { s with fresh := s.fresh + 1 })

/-! ### Wall time (R27) and addresses -/

/-- One nanosecond of wall time. -/
abbrev wNs : Nat := 2 ^ 32
/-- One second of wall time. -/
abbrev wSec : Nat := 10 ^ 9 * 2 ^ 32
/-- The modulus of wall time: 2^48 s (R27). -/
abbrev wMod : Nat := 2 ^ 48 * wSec

/-- Nanoseconds within the second, and the seconds, of a wall time. -/
def wallNs (w : Nat) : Nat := w / wNs % 10 ^ 9
def wallSec (w : Nat) : Nat := w / wSec % 2 ^ 48

/-- A wall time from its seconds and nanoseconds. -/
def wallOf (sec ns : Nat) : Nat := sec * wSec + ns * wNs

/-- Power states (R486). -/
abbrev psOFF : Nat := 0
abbrev psHALT : Nat := 1
abbrev psSTANDBY : Nat := 2
abbrev psREADY : Nat := 3
abbrev psSHOW : Nat := 4

/-- The power state in force (R486). -/
def State.power (s : State) : Nat := s.get PWR_STAT_STATE

/-- RC0 firmware runs and serves commands (R465, R486): not in reset, not in the ROM, not in OFF. -/
def State.running (s : State) : Bool := s.phase = .firmware && s.power ≠ psOFF

/-- The unit composes, corrects and carries chains: READY or SHOW (R486). -/
def State.ready (s : State) : Bool := s.phase = .firmware && decide (psREADY ≤ s.power)

/-- The unit address in force (R291, R316). -/
def State.addr (s : State) : Nat := s.get SKD_ADDR_ADDR

/-- A lamp side is present (R2, R521). -/
def State.lampSide (s : State) : Bool := !s.bit GLB_STRAP_NOLAMP

/-! ### Trace (R233) -/

/-- Entries the trace buffer holds (R26, R233). -/
abbrev traceSize : Nat := 65536

/-- An entry of class bit `cls` (class 2, FAULT, is always written while EN = 1) traced with its thread, engine, slot and argument. -/
def State.trace (s : State) (ev cls thr eng slot arg : Nat) : State :=
  if !s.bit TRC_CTL_EN || (cls ≠ 2 && !(s.get TRC_CTL_CLASS).testBit cls) then s
  else if s.bit TRC_CTL_STOP && decide (traceSize ≤ s.eng.trcN) then s.bump TRC_LOST
  else
    let i := s.get TRC_WIDX_IDX
    let put (m : List (Nat × Word)) (k n : Nat) := mput 0#32 m (4 * i + k) (BitVec.ofNat 32 n)
    let m := put (put (put (put s.eng.trc 0 (wallNs s.tm.wall)) 1
      (wallSec s.tm.wall % 2 ^ 16 + 2 ^ 16 * ev)) 2
      (thr % 1024 + 2 ^ 10 * (eng % 64) + 2 ^ 16 * (slot % 8))) 3 arg
    let s := { s with eng := { s.eng with trc := m, trcN := s.eng.trcN + 1 } }
    let s := s.set TRC_WIDX_IDX ((i + 1) % traceSize)
    if i + 1 = traceSize then s.set TRC_WIDX_WRAP 1 else s

/-- A traced event that concerns no thread. -/
def State.trace0 (s : State) (ev cls arg : Nat) : State := s.trace ev cls 0x3FF 0 0 arg

/-! ### Notifications (R440-R442) -/

/-- The record of an event of code `code` at this unit now (R441). -/
def State.record (s : State) (code arg : Nat) : NRec where
  w0 := BitVec.ofNat 32 (code % 2 ^ 16 + 2 ^ 16 * s.addr)
  w1 := BitVec.ofNat 32 (wallNs s.tm.wall)
  w2 := BitVec.ofNat 32 (wallSec s.tm.wall)
  w3 := BitVec.ofNat 32 arg

/-- The head's log: the record at the next index, the oldest overwritten once full (R442). -/
def State.logRecord (s : State) (r : NRec) : State :=
  let i := s.get GLB_NLOGIDX_IDX
  let s := (((s.wr (GLB_NLOG (4 * i)) r.w0).wr (GLB_NLOG (4 * i + 1)) r.w1).wr
    (GLB_NLOG (4 * i + 2)) r.w2).wr (GLB_NLOG (4 * i + 3)) r.w3
  let s := s.set GLB_NLOGIDX_IDX ((i + 1) % 256)
  if i = 255 then s.set GLB_NLOGIDX_WRAP 1 else s

/-- The record queued for destination `d` when it is enabled and its code is not masked; a full queue
drops it (R440, R442). -/
def State.queueRecord (s : State) (d : Nat) (r : NRec) : State :=
  if !s.bit (GLB_NDEST_W4_EN d) || !(s.rd GLB_NMASK).toNat.testBit (getBits r.w0 0 16) then s
  else if d = 0 then
    if s.note.q0.length < 256 then { s with note := { s.note with q0 := s.note.q0 ++ [r] } }
    else { s with note := { s.note with lost0 := s.note.lost0 + 1 } }.bump GLB_NDROP
  else
    if s.note.q1.length < 256 then { s with note := { s.note with q1 := s.note.q1 ++ [r] } }
    else { s with note := { s.note with lost1 := s.note.lost1 + 1 } }.bump GLB_NDROP

/-- A record taken into the head's log and its streams (R440, R442). -/
def State.takeRecord (s : State) (r : NRec) : State :=
  ((s.logRecord r).queueRecord 0 r).queueRecord 1 r

/-- The unit reports an event: a head logs and queues it, a tile queues it for its head (R440). -/
def State.notify (s : State) (code arg : Nat) : State :=
  if s.head then s.takeRecord (s.record code arg)
  else { s with note := { s.note with tileQ := s.note.tileQ ++ [s.record code arg] } }

/-- Notification codes of R441. -/
abbrev nMONEVT : Nat := 0x01
abbrev nLDUEVT : Nat := 0x02
abbrev nCHAIN : Nat := 0x03
abbrev nLINK : Nat := 0x04
abbrev nCALMIS : Nat := 0x05
abbrev nRDNSTATE : Nat := 0x06
abbrev nWCDONE : Nat := 0x07
abbrev nWCREVERT : Nat := 0x08
abbrev nSERVO : Nat := 0x09
abbrev nLAMPFLT : Nat := 0x0A
abbrev nUNPLACED : Nat := 0x0B
abbrev nTHERMAL : Nat := 0x0C
abbrev nBOOT : Nat := 0x0D
abbrev nLOST : Nat := 0x0E

end Sys2Proof.Machine
end

