-- ==== Sys2Proof/Machine/Mem.lean ====
section
/-! DEFINITION. The memory controller: allocation of DRAM objects (R127), traffic counts, bring-up and
rate changes (R129-R133), refresh (R134, R135) and self-refresh (R137-R139). -/

namespace Sys2Proof.Machine

/-! ### Size and state -/

/-- Bytes of DRAM, N × density (R120). -/
def State.dramBytes (s : State) : Nat := s.memc.nch * s.memc.dens

/-- MEM_STAT.STATE codes (R140). -/
abbrev mOFF : Nat := 0
abbrev mTRAIN : Nat := 1
abbrev mACTIVE : Nat := 2
abbrev mSELFREF : Nat := 3
abbrev mRATECHG : Nat := 4
abbrev mFAIL : Nat := 5

/-- DRAM answers requests: powered and trained, possibly in self-refresh (R120, R130, R137). -/
def State.dramUp (s : State) : Bool :=
  s.get MEM_STAT_STATE = mACTIVE || s.get MEM_STAT_STATE = mSELFREF || s.get MEM_STAT_STATE = mRATECHG

/-- One channel's hidden state. -/
def ChSt.init : ChSt := ⟨false, 0, 0, 0, 0⟩
def State.chan (s : State) (c : Nat) : ChSt := mget ChSt.init s.memc.ch c
def State.setChan (s : State) (c : Nat) (x : ChSt) : State :=
  { s with memc := { s.memc with ch := mput ChSt.init s.memc.ch c x } }

/-! ### Allocation (R127) -/

/-- The least multiple of `step` at or above `a`. -/
def alignUp (a step : Nat) : Nat := (a + step - 1) / step * step

/-- The lowest start at or above `at0`, stepping by `step`, where `len` bytes fit below `lim` between the
allocated objects, listed by rising offset. -/
def fit (step len lim : Nat) : List Alloc → Nat → Option Nat
  | [], at0 => if at0 + len ≤ lim then some at0 else none
  | x :: l, at0 =>
    if x.off + x.len ≤ at0 then fit step len lim l at0
    else if at0 + len ≤ x.off then some at0
    else fit step len lim l (alignUp (x.off + x.len) step)

/-- The object added in order of offset. -/
def addAlloc (x : Alloc) : List Alloc → List Alloc
  | [] => [x]
  | y :: l => if x.off < y.off then x :: y :: l else y :: addAlloc x l

/-- Place an object of `n` bytes in the wide region: whole multiples of N × G at a multiple of 4,096 and
of N × G, lowest free offset first (R127). -/
def State.allocWide (s : State) (n : Nat) (own : Owner) : Option (Nat × State) :=
  let m := s.memc
  let u := m.nch * m.grain
  if u = 0 then none
  else
    let len := alignUp n u
    match fit (Nat.lcm 4096 u) len (m.nch * (m.dens - m.loc)) m.allocs 0 with
    | some off => some (off, { s with memc := { m with allocs := addAlloc ⟨off, len, own⟩ m.allocs } })
    | none => none

/-- Place a crew's object in the local region of its near pair (R122), and in the wide region if that is
full or L = 0 (R127). -/
def State.allocCrew (s : State) (c n : Nat) (own : Owner) : Option (Nat × State) :=
  let m := s.memc
  let u := 2 * m.grain
  let g := c * m.nch / 16
  let b := m.nch * (m.dens - m.loc) + g * 2 * m.loc
  if m.loc = 0 ∨ m.nch = 0 then s.allocWide n own
  else
    let len := alignUp n u
    match fit (Nat.lcm 4096 u) len (b + 2 * m.loc) m.allocs (alignUp b (Nat.lcm 4096 u)) with
    | some off => some (off, { s with memc := { m with allocs := addAlloc ⟨off, len, own⟩ m.allocs } })
    | none => s.allocWide n own

/-- Return every object of an owner. -/
def State.freeOwner (s : State) (own : Owner) : State :=
  { s with memc := { s.memc with allocs := s.memc.allocs.filter (fun x => x.own ≠ own) } }

/-- Offset of an owner's object. -/
def State.ownerOff (s : State) (own : Owner) : Option Nat :=
  (s.memc.allocs.find? (fun x => x.own = own)).map Alloc.off

/-- Wide-region bytes allocated, MiB (R140). -/
def State.allocWideMiB (s : State) : Nat :=
  let w := s.memc.nch * (s.memc.dens - s.memc.loc)
  ((s.memc.allocs.filter (fun x => decide (x.off < w))).map Alloc.len).sum / 2 ^ 20

/-- Bytes allocated in the largest local region, MiB (R140). -/
def State.allocLocalMiB (s : State) : Nat :=
  let m := s.memc
  let w := m.nch * (m.dens - m.loc)
  let reg (g : Nat) := ((m.allocs.filter
    (fun x => decide (w + g * 2 * m.loc ≤ x.off ∧ x.off < w + (g + 1) * 2 * m.loc))).map Alloc.len).sum
  (List.range 8).foldl (fun a g => max a (reg g)) 0 / 2 ^ 20

/-- Segment `k` of every channel holds an allocated object: some object's channel offsets meet it. In the
wide region an object spreads evenly over the channels (R124, R139). -/
def segmentUsed (m : MemSt) (k : Nat) : Bool :=
  let w := m.nch * (m.dens - m.loc)
  let lo := k * m.dens / 8
  let hi := (k + 1) * m.dens / 8
  k = 0 || m.allocs.any (fun x =>
    if x.off < w then decide (x.off / m.nch < hi ∧ lo < (x.off + x.len) / m.nch)
    else
      let r := (x.off - w) % (2 * m.loc)
      decide ((m.dens - m.loc) + r / 2 < hi ∧ lo < (m.dens - m.loc) + (r + x.len) / 2))

/-- The mask of segments that hold allocations (MEM_PASR.USED, R139). -/
def State.pasrUsed (s : State) : Nat :=
  (List.range 8).foldl (fun a k => if segmentUsed s.memc k then a + 2 ^ k else a) 0

/-- The mask self-refresh applies: requested segments that hold no allocation (R139). -/
def State.pasrMask (s : State) : Nat :=
  (List.range 8).foldl (fun a k =>
    if (s.get MEM_PASR_REQ).testBit k && !(s.pasrUsed).testBit k then a + 2 ^ k else a) 0

/-! ### Traffic -/

/-- A "DRAM address ÷ 4,096" (R123) of an offset, and the offset that such a value names: past the end of DRAM for a value
that names no DRAM address. -/
def dramPage (off : Nat) : Word := BitVec.ofNat 32 (0x1000000 + off / 4096)
def pageOff (w : Word) : Nat := (w.toNat + 2 ^ 32 - 0x1000000) % 2 ^ 32 * 4096

/-- Count the 64-byte lines of DRAM that `n` bytes from offset `a` touch, in each line's channel (R140). -/
def State.countLines (s : State) (ctr : Nat → Nat) (a n : Nat) : State :=
  (List.range ((min (a + n) s.dramBytes + 63) / 64 - a / 64)).foldl
    (fun s k => s.bump (ctr (dramPlace s.memc ((a / 64 + k) * 64)).1)) s

/-- Bytes read from DRAM at offset `a`, with their lines counted. -/
def State.dramRead (s : State) (a n : Nat) : List Byte × State :=
  (s.bytes (dramBase + a) n, s.countLines MEM_CH_RD a n)

/-- Bytes written to DRAM at offset `a`, with their lines counted. -/
def State.dramWrite (s : State) (a : Nat) (l : List Byte) : State :=
  (s.putBytes (dramBase + a) l).countLines MEM_CH_WR a l.length

/-- An uncorrectable read of the line at offset `a`: the last data read are delivered (R141). -/
def State.uncorrectable (s : State) (a : Nat) : State :=
  let c := (dramPlace s.memc a).1
  ((s.bump (MEM_CH_LUNC c)).wr (MEM_CH_ERRADR c) (BitVec.ofNat 32 (a / 64))).set (MEM_CH_STAT_LUNC c) 1

/-! ### Bring-up (R118, R120, R129, R130) -/

/-- Every channel of the population in state `st`. -/
def State.setChannels (s : State) (st : Nat) : State :=
  (List.range s.memc.nch).foldl (fun s c => s.set (MEM_CH_STAT_STATE c) st) s

/-- Grain in bytes of MEM_IL.GRAIN (R140). -/
def grainBytes (g : Nat) : Nat := 256 * 2 ^ g

/-- The board description is lawful for the role (R118, R119). -/
def boardMemOk (head : Bool) (nch dens : Nat) : Bool :=
  decide (dens ≤ 2) && (if head then decide (4 ≤ nch ∧ nch ≤ 16) && nch % 2 = 0 else nch = 2)

/-- Memory bring-up starts: MEM_CFG is written from the board description, MEM_IL takes effect, and every
populated channel trains from step 1 (R118, R126, R129). A board description outside R118 leaves memory
out of service. The rate is the one a write of MEM_FREQ in HALT has set, else the board's (R132). -/
def State.memBringUp (s : State) (cfg : Word) : State :=
  let s := s.wr MEM_CFG (cfg &&& 0x000FFFFF#32)
  let nch := s.get MEM_CFG_NCH
  let dens := s.get MEM_CFG_DENS
  if !boardMemOk s.head nch dens then s.set MEM_STAT_STATE mFAIL
  else
    let rate := s.memc.nextRate.getD (s.get MEM_CFG_BRATE)
    let m := { s.memc with nch := nch, dens := 2 ^ 30 * 2 ^ dens, grain := grainBytes (s.get MEM_IL_GRAIN),
                           loc := s.get MEM_IL_LOCAL * 2 ^ 26, ch := [], prevRate := rate,
                           started := s.now, lost := [] }
    let s := { s with memc := m }
    let s := (s.set MEM_STAT_RATE rate).set MEM_STAT_STATE mTRAIN
    let s := (List.range 16).foldl (fun s c => s.set (MEM_CH_STAT_STATE c) (if c < nch then mTRAIN else 6)) s
    s.set MEM_TRN_STEP 1

/-- The read and write eye of a pass at channel `c`: measurements, free values (R140; log entry 3). -/
def State.trainEye (s : State) (c : Nat) : State :=
  let (w, s) := s.draw
  s.wr (MEM_CH_TRN c) (w &&& 0xFFFF#32)

/-- Training has completed: the channels are active and their measurements are staggered (R129, R131). -/
def State.memTrained (s : State) : State :=
  let s := (List.range s.memc.nch).foldl (fun s c => s.trainEye c) s
  let s := ((s.set MEM_STAT_STATE mACTIVE).set MEM_TRN_STEP 0).setChannels mACTIVE
  let s := (List.range s.memc.nch).foldl (fun s c =>
    s.setChan c { s.chan c with fails := 0, pend := false, idle := s.now, meas := s.now + (c + 1) * 1000 }) s
  { s with memc := { s.memc with nextPoll := s.now } }

/-- Training has failed three times on the channels of mask `bad`: memory is out of service and FAULT_N is asserted (R130). -/
def State.memFailed (s : State) (bad : Nat) : State :=
  let s := (List.range s.memc.nch).foldl (fun s c => if bad.testBit c then s.set (MEM_CH_STAT_TRNFAIL c) 1 else s) s
  let s := ((s.set MEM_STAT_STATE mFAIL).set MEM_TRN_STEP 0).setChannels mFAIL
  { s with pins := { s.pins with faultN := true } }

/-- Memory loses power: its contents are lost (R120). -/
def State.memOff (s : State) : State :=
  let s := (s.set MEM_STAT_STATE mOFF).set MEM_TRN_STEP 0
  let s := (List.range 16).foldl (fun s c => s.set (MEM_CH_STAT_STATE c) mOFF) s
  { s with
    mem := s.mem.filter (fun x => decide (x.1 < dramBase))
    memc := { s.memc with allocs := MemSt.reset.allocs, ch := [], lost := [] } }

/-! ### Self-refresh (R137-R139) -/

/-- MEM_STAT.STATE and PARTSR from the channels' states (R140). -/
def State.memRollup (s : State) : State :=
  let n := s.memc.nch
  let k := ((List.range n).filter (fun c => s.get (MEM_CH_STAT_STATE c) = mSELFREF)).length
  (s.set MEM_STAT_STATE (if k = n then mSELFREF else mACTIVE)).set MEM_STAT_PARTSR
    (if 0 < k ∧ k < n then 1 else 0)

/-- Every channel starts an entry (R137, first case). -/
def State.memSelfRefresh (s : State) : State :=
  (List.range s.memc.nch).foldl (fun s c =>
    if s.get (MEM_CH_STAT_STATE c) = mACTIVE then s.setChan c { s.chan c with pend := true } else s) s

/-- One channel is in self-refresh: the mask of R139 is written at the entry. -/
def State.channelIn (s : State) (c : Nat) : State :=
  let s := s.set MEM_PASR_APPLIED s.pasrMask
  let s := (s.set (MEM_CH_STAT_STATE c) mSELFREF).setChan c { s.chan c with pend := false }
  (s.bump MEM_SRENT).memRollup

/-- The contents of the applied segments of a channel become free values at its exit (R139). -/
def State.channelLose (s : State) (c : Nat) : State :=
  let segs := (List.range 8).filter (fun k => (s.get MEM_PASR_APPLIED).testBit k)
  match segs with
  | [] => s
  | _ =>
    let hit (a : Nat) : Bool := decide (dramBase ≤ a) &&
      (let q := dramSegment s.memc (a - dramBase); q.1 = c && segs.contains q.2)
    { s with
      mem := s.mem.filter (fun x => !hit x.1)
      memc := { s.memc with
        lost := segs.map (fun k => (c, k, s.fresh)) ++
          s.memc.lost.filter (fun l => !(l.1 = c && segs.contains l.2.1)) }
      fresh := s.fresh + 1 }

/-- One channel has left self-refresh. -/
def State.channelOut (s : State) (c : Nat) : State :=
  let s := (s.set (MEM_CH_STAT_STATE c) mACTIVE).setChan c { s.chan c with pend := false, idle := s.now }
  (s.channelLose c).memRollup

/-- Every channel leaves self-refresh or gives up its entry (R137). -/
def State.memWake (s : State) : State :=
  (List.range s.memc.nch).foldl (fun s c =>
    if s.get (MEM_CH_STAT_STATE c) = mSELFREF then s.channelOut c
    else s.setChan c { s.chan c with pend := false }) s

/-! ### The rows -/

/-- WCK2DQ_MEASURE (R131): channel `c` runs its oscillator measurement, `t` what it reads, and adjusts its
timing; the next one is due PER ms later. -/
def execWck2dqMeasure (c t : Nat) (s : State) : Host.Outcome State Fault Refusal :=
  settled <|
    if s.phase = .firmware && decide (c < s.memc.nch) && s.get (MEM_CH_STAT_STATE c) = mACTIVE &&
        decide ((s.chan c).meas ≤ s.now) then
      s.setChan c { s.chan c with meas := s.now + s.get MEM_TRN_PER * 1000000, wck := t }
    else s

/-- MEM_FREQ written with RATE (R132). -/
def State.memFreq (s : State) (rate : Nat) : State :=
  s.command MEM_FREQ rate fun s =>
    if s.power = psHALT && s.get MEM_STAT_STATE = mOFF then
      { s with memc := { s.memc with nextRate := some rate } }.setStat MEM_FREQ stDONE
    else if s.power = psREADY || (s.power = psHALT && s.get MEM_STAT_STATE = mTRAIN) then
      let deferred := s.get MEM_TRN_STEP ≠ 0
      let s := s.setStat MEM_FREQ (if deferred then stDEFERRED else stBUSY)
      let s := { s with memc := { s.memc with prevRate := s.get MEM_STAT_RATE, started := s.now } }
      ((s.set MEM_STAT_STATE mRATECHG).setChannels mRATECHG).set MEM_TRN_STEP 1
    else s.setStat MEM_FREQ stREFUSED

/-- MEM_FREQ_CHANGE (R132): the host writes MEM_FREQ. -/
def execMemFreqChange (rate : Nat) (s : State) : Host.Outcome State Fault Refusal :=
  settled (if s.running then s.memFreq (rate % 2) else s)

/-- RATE_CHANGE_DONE (R130, R132, R133): the training in progress ends; `ok`: it passed; `again`: after a
failed pass at the new rate, the training at the previous rate passed; `bad`: else the channels that failed. -/
def execRateChangeDone (ok again : Bool) (bad : Nat) (s : State) : Host.Outcome State Fault Refusal :=
  settled <|
    if !s.running then s
    else if s.get MEM_STAT_STATE = mRATECHG then
      if ok then
        (((s.set MEM_STAT_RATE (s.get ⟨MEM_FREQ, 0, 1⟩)).memTrained).setStat MEM_FREQ stDONE).bump MEM_FREQCHG
      else if again then
        ((s.set MEM_STAT_RATE s.memc.prevRate).memTrained).setStat MEM_FREQ stFAILED
      else
        ((s.set MEM_STAT_RATE s.memc.prevRate).memFailed bad).setStat MEM_FREQ stFAILED
    else s

/-- The multiplier code of MEM_CH_STAT.MULT for an MR4 refresh-rate field, as JESD209-5C codes it (R134;
log entry 8). -/
def mr4Mult (f : Nat) : Nat :=
  if f = 0x1F then 0
  else if f ≤ 3 then 4
  else if f ≤ 6 then 3
  else if f ≤ 9 then 2
  else if f ≤ 11 then 1
  else 0

/-- MR4_POLL (R134, R135): the controller reads the refresh-rate fields of every device of channel `c`. -/
def execMr4Poll (c : Nat) (fields : List Nat) (s : State) : Host.Outcome State Fault Refusal :=
  settled <|
    if s.phase = .firmware && decide (c < s.memc.nch) && s.get (MEM_CH_STAT_STATE c) = mACTIVE &&
        decide (s.memc.nextPoll ≤ s.now) && !fields.isEmpty then
      let worst := fields.foldl max 0
      let hot := worst = 0x1F
      let m := mr4Mult worst
      let m := if 2 < m && !s.bit MEM_REF_SLOW then 2 else m
      let s := (s.set (MEM_CH_STAT_RRATE c) worst).set (MEM_CH_STAT_MULT c) (if hot then 0 else m)
      let s := if hot then s.set (MEM_CH_STAT_OVERT c) 1 else s
      if c + 1 = s.memc.nch then
        { s with memc := { s.memc with nextPoll := s.now + s.get MEM_REF_POLL * 1000000 } }
      else s
    else s

/-- SELF_REFRESH_ENTRY (R137-R139): the entry of channel `c` is committed. -/
def execSelfRefreshEntry (c : Nat) (s : State) : Host.Outcome State Fault Refusal :=
  settled <|
    if decide (c < s.memc.nch) && s.power = psSTANDBY && s.get (MEM_CH_STAT_STATE c) = mACTIVE &&
        ((s.chan c).pend || decide ((s.chan c).idle + s.get MEM_SR_IDLE * 1000 ≤ s.now)) then
      s.channelIn c
    else s

/-- A request arrives for channel `c` in STANDBY (R138): before the commitment it aborts the entry; after it, it waits for
the exit. -/
def State.channelTouch (s : State) (c : Nat) : State :=
  if s.get (MEM_CH_STAT_STATE c) = mSELFREF then (s.channelOut c).bump MEM_SRWAIT
  else if (s.chan c).pend then (s.setChan c { s.chan c with pend := false, idle := s.now }).bump MEM_SRABORT
  else s.setChan c { s.chan c with idle := s.now }

/-- SELF_REFRESH_EXIT (R138). -/
def execSelfRefreshExit (c : Nat) (s : State) : Host.Outcome State Fault Refusal :=
  settled (if decide (c < s.memc.nch) && s.power = psSTANDBY then s.channelTouch c else s)

end Sys2Proof.Machine
end

