-- ==== Sys2Proof/Machine/Flume.lean ====
section
/-! DEFINITION. Flumes, contexts and order groups (R214-R232), and the flume-manager commands (R236,
R546). -/

namespace Sys2Proof.Machine

/-! ### Contexts (R229) -/

/-- Contexts of the role (R229). -/
def State.ctxCount (s : State) : Nat := if s.head then 16384 else 16

/-- Word `w` of the record of context `c`. -/
abbrev ctxWord (c w : Nat) : Nat := CTX_REC (16 * c + w)
abbrev CTX_STATE (c : Nat) : Fld := ⟨ctxWord c 0, 0, 2⟩
abbrev CTX_CREW (c : Nat) : Fld := ⟨ctxWord c 0, 2, 3⟩
abbrev CTX_REMOTE (c : Nat) : Fld := ⟨ctxWord c 0, 5, 1⟩
abbrev CTX_MON (c : Nat) : Fld := ⟨ctxWord c 0, 6, 1⟩
abbrev CTX_ERR (c : Nat) : Fld := ⟨ctxWord c 0, 7, 1⟩
abbrev CTX_SLICE (c : Nat) : Fld := ⟨ctxWord c 0, 8, 4⟩
abbrev CTX_TILE (c : Nat) : Fld := ⟨ctxWord c 0, 16, 16⟩
abbrev CTX_GROUP (c : Nat) : Fld := ⟨ctxWord c 1, 0, 12⟩
abbrev CTX_LASTTHR (c : Nat) : Fld := ⟨ctxWord c 1, 16, 10⟩
abbrev CTX_POSTSEQ (c : Nat) : Fld := ⟨ctxWord c 2, 0, 16⟩
abbrev CTX_RELSEQ (c : Nat) : Fld := ⟨ctxWord c 2, 16, 16⟩
abbrev CTX_PROG (c : Nat) : Fld := ⟨ctxWord c 3, 0, 8⟩
abbrev CTX_CANVAS (c : Nat) : Fld := ⟨ctxWord c 3, 8, 2⟩
abbrev CTX_STORE (c : Nat) : Nat := ctxWord c 4
abbrev CTX_JOBS (c : Nat) : Nat := ctxWord c 5
abbrev CTX_OVF (c : Nat) : Nat := ctxWord c 7
abbrev CTX_RELNS (c : Nat) : Fld := ⟨ctxWord c 9, 0, 30⟩
abbrev CTX_DEPTH (c k : Nat) : Fld := ⟨ctxWord c (10 + k / 6), 5 * (k % 6), 5⟩

/-- STATE codes of a context (R229). -/
abbrev cFREE : Nat := 0
abbrev cBOUND : Nat := 1
abbrev cACTIVE : Nat := 2
abbrev cDRAINING : Nat := 3

/-! ### Flumes (R214-R218) -/

def Flume.empty : Flume := ⟨[], []⟩
def State.flume (s : State) (f : Nat) : Flume := mget Flume.empty s.eng.flumes f
def State.setFlume (s : State) (f : Nat) (x : Flume) : State :=
  { s with eng := { s.eng with flumes := mput Flume.empty s.eng.flumes f x } }

/-- Entries flume `f` holds, visible and held (R216). -/
def State.flumeLen (s : State) (f : Nat) : Nat := (s.flume f).vis.length + (s.flume f).held.length

/-- The flume is at its depth, 2^DEPTH entries (R216). -/
def State.flumeFull (s : State) (f : Nat) : Bool :=
  decide (2 ^ s.get (CTX_DEPTH (f / 16) (f % 16)) ≤ s.flumeLen f)

/-- The consumer of flume `f` is hardware (R214, R215). -/
def hwConsumer (f : Nat) : Bool := decide (1 ≤ f % 16 ∧ f % 16 ≤ 9)

/-- The context is one of a tile's, or one of a head's correction contexts (R230). -/
def State.corrCtx (s : State) (c : Nat) : Bool :=
  decide (c < 16) && (!s.head || (s.lampSide && s.get (CTX_TILE c) = s.addr && s.get (CTX_STATE c) ≠ cFREE))

/-- The consumer of flume `f` is firmware (R215). -/
def State.fwConsumer (s : State) (f : Nat) : Bool :=
  (f = 11 && s.corrCtx 0) || (f % 16 = 12 && s.corrCtx (f / 16))

/-- An entry's words with the pushing thread and engine. -/
def FEntry.mk4 (w0 w1 w2 w3 : Word) (thr eng : Nat) : FEntry := ⟨w0, w1, w2, w3, thr, eng, 0, 0, 0⟩

/-- Append a visible entry; entries become visible in the order of their stamps (R187, R219). -/
def State.pushVis (s : State) (f : Nat) (e : FEntry) : State :=
  let q := s.flume f
  let s := s.setFlume f { q with vis := q.vis ++ [{ e with ord := s.eng.stamp }] }
  { s with eng := { s.eng with stamp := s.eng.stamp + 1 } }

/-- Take the oldest visible entry (R186). -/
def State.takeVis (s : State) (f : Nat) : Option (FEntry × State) :=
  match (s.flume f).vis with
  | [] => none
  | e :: l => some (e, s.setFlume f { s.flume f with vis := l })

/-! ### Order groups (R225-R227) -/

def State.group (s : State) (g : Nat) : Option OGroup :=
  (s.eng.groups.find? (fun x => x.1 = g)).map Prod.snd

/-- Groups are listed by rising number; a closed group is not listed. -/
def State.setGroup (s : State) (g : Nat) (x : OGroup) : State :=
  { s with eng := { s.eng with groups := minsert g x (merase g s.eng.groups) } }

/-- Sequence `q` lies in the window (R225). -/
def inWindow (x : OGroup) (q : Nat) : Bool := decide ((q + 65536 - x.base) % 65536 < x.win)

/-- Sequence `q` has been used in the window (R196). -/
def usedSeq (x : OGroup) (q : Nat) : Bool := x.used.any (fun u => u.1 = q)

/-- The flume number that stands for a skipped sequence. -/
abbrev skipMark : Nat := 2 ^ 18

/-- An entry of flume `f` is released: it takes its place in the flume's order now (R197), and its context
records the release (R229). -/
def State.releaseEntry (s : State) (f g q : Nat) : State :=
  let x := s.flume f
  match x.held.find? (fun e => e.grp = g && e.seq = q) with
  | none => s
  | some e =>
    let s := s.setFlume f { x with held := x.held.filter (fun e => !(e.grp = g && e.seq = q)) }
    let s := s.pushVis f e
    if f % 16 = 9 then
      (s.set (CTX_RELSEQ (f / 16)) e.w2.toNat).set (CTX_RELNS (f / 16)) (wallNs s.tm.wall)
    else s

/-- The cascade of R226: while the sequence at BASE is held or skipped it is released and BASE advances. -/
def State.cascade (s : State) (g : Nat) : Nat → State
  | 0 => s
  | n + 1 =>
    match s.group g with
    | none => s
    | some x =>
      match x.used.find? (fun u => u.1 = x.base) with
      | none => s
      | some u =>
        let s := s.setGroup g { x with base := (x.base + 1) % 65536,
                                       used := x.used.filter (fun v => v.1 ≠ x.base) }
        let s := if u.2 = skipMark then s
          else (s.releaseEntry u.2 g x.base).trace0 0x20 5 (g + 2 ^ 16 * x.base)
        s.cascade g n

/-- Largest window, hence the longest cascade (R225). -/
abbrev maxWin : Nat := 256

/-- The flume manager accepts a RELO entry tagged (g, q) (R196): group open, sequence in the window and not
used, tag bits [15:12] zero. -/
def State.reloOk (s : State) (tag : Word) : Bool :=
  let g := getBits tag 0 12
  let q := getBits tag 16 16
  match s.group g with
  | none => false
  | some x => getBits tag 12 4 = 0 && inWindow x q && !usedSeq x q

/-- An accepted RELO entry is held under its tag, and what its arrival releases is released (R196, R226). -/
def State.relo (s : State) (f : Nat) (e : FEntry) (tag : Word) : State :=
  let g := getBits tag 0 12
  let q := getBits tag 16 16
  match s.group g with
  | none => s
  | some x =>
    let fl := s.flume f
    let s := s.setFlume f { fl with held := fl.held ++ [{ e with grp := g, seq := q, ord := s.eng.stamp }] }
    let s := { s with eng := { s.eng with stamp := s.eng.stamp + 1 } }
    (s.setGroup g { x with used := x.used ++ [(q, f)] }).cascade g maxWin

/-- A refused RELO entry is counted and traced (R226). -/
def State.reloRefused (s : State) (tag : Word) : State := (s.bump FLM_RELREF).trace0 0x09 1 tag.toNat

/-- A sequence marked released without an entry, and the cascade (R227). -/
def State.skipSeq (s : State) (g q : Nat) : State :=
  match s.group g with
  | none => s
  | some x =>
    ((s.setGroup g { x with used := x.used ++ [(q, skipMark)] }).cascade g maxWin).trace0 0x1C 4
      (g + 2 ^ 16 * q)

/-- Held entries of a group leave their flumes and are counted; the group is free (R227). -/
def State.closeGroup (s : State) (g : Nat) : State :=
  match s.group g with
  | none => s
  | some x =>
    let held := x.used.filter (fun u => u.2 ≠ skipMark)
    let s := held.foldl (fun s u =>
      s.setFlume u.2 { s.flume u.2 with held := (s.flume u.2).held.filter (fun e => e.grp ≠ g) }) s
    let s := { s with eng := { s.eng with groups := merase g s.eng.groups } }
    (s.bumpN FLM_GDISC held.length).trace0 0x1B 4 g

/-! ### Context allocation (R231, R232) -/

/-- The default depth of flume k (R216). -/
def State.defDepth (s : State) (k : Nat) : Nat :=
  getBits (s.rd (FLM_DEFD0 + 4 * (k / 6))) (5 * (k % 6)) 5

/-- DRAM bytes the flumes of depths `ds` need: a flume of depth 1 or 2 needs none (R217). -/
def flumeBytes (ds : List Nat) : Nat := (ds.map (fun d => if d ≤ 1 then 0 else 2 ^ d * 16)).sum

/-- The lowest FREE context. -/
def State.freeCtx (s : State) : Option Nat :=
  (List.range s.ctxCount).find? (fun c => s.get (CTX_STATE c) = cFREE)

/-- Context `c` bound: its record is written and its counters are zero (R231). -/
def State.bindCtx (s : State) (c tile slice crew mon remote store : Nat) : State :=
  let s := (List.range 13).foldl (fun s w => s.wr (ctxWord c w) 0) s
  let s := s.setAll [(CTX_STATE c, cBOUND), (CTX_CREW c, crew), (CTX_REMOTE c, remote), (CTX_MON c, mon),
    (CTX_SLICE c, slice), (CTX_TILE c, tile), (CTX_LASTTHR c, 0x3FF)]
  let s := s.wr (CTX_STORE c) (BitVec.ofNat 32 (store / 64))
  let s := (List.range 16).foldl (fun s k => s.set (CTX_DEPTH c k) (s.defDepth k)) s
  s.trace0 0x18 4 c

/-- CTXALLOC by firmware: the lowest FREE context, or the reason it is refused (R231, R546). -/
def State.ctxAlloc (s : State) (tile slice crew mon remote : Nat) : (Option Nat × Nat) × State :=
  if !s.head && crew ≠ 0 then ((none, 5), s)
  else match s.freeCtx with
    | none => ((none, 1), (s.bump FLM_CTXREF).trace0 0x07 1 tile)
    | some c =>
      let n := flumeBytes ((List.range 16).map s.defDepth)
      if n = 0 then ((some c, 0), s.bindCtx c tile slice crew mon remote 0)
      else match s.allocCrew crew n (.context c) with
        | none => ((none, 4), s)
        | some (off, s) => ((some c, 0), s.bindCtx c tile slice crew mon remote off)

/-- CTXFREE: the context drains (R232). -/
def State.ctxFree (s : State) (c : Nat) : State := (s.set (CTX_STATE c) cDRAINING).trace0 0x19 4 c

/-- Every flume of context `c` holds no entry. -/
def State.ctxEmpty (s : State) (c : Nat) : Bool :=
  (List.range 16).all (fun k => s.flumeLen (16 * c + k) = 0)

/-- The context is FREE and its storage returned (R232). -/
def State.ctxDone (s : State) (c : Nat) : State :=
  let s := s.set (CTX_STATE c) cFREE
  (List.range 16).foldl (fun s k => s.freeOwner (.flume (16 * c + k))) (s.freeOwner (.context c))

/-- Every flume of context `c` emptied (R547, tile role). -/
def State.ctxFlush (s : State) (c : Nat) : State :=
  (List.range 16).foldl (fun s k => s.setFlume (16 * c + k) Flume.empty) s

/-! ### FLM_CMD (R236, R546) -/

/-- Reasons of FLM_RES (R236). -/
abbrev fCTX_FULL : Nat := 1
abbrev fGRP_FULL : Nat := 2
abbrev fBUSY : Nat := 3
abbrev fNOMEM : Nat := 4
abbrev fBADARG : Nat := 5
abbrev fFULL : Nat := 6
abbrev fSTATE : Nat := 7

/-- An accepted command: REASON 0, RESULT and DONE (R546). -/
def State.flmDone (s : State) (res : Nat) : State :=
  ((s.set FLM_RES_REASON 0).set FLM_RES_RESULT res).setStat FLM_CMD stDONE

/-- A refused command writes its reason and leaves RESULT (R546). -/
def State.flmRefuse (s : State) (reason : Nat) : State :=
  (s.set FLM_RES_REASON reason).setStat FLM_CMD stREFUSED

/-- Operation `op` of FLM_CMD from `src`: what the host may not use is refused with STATE (R236, R546). -/
def State.flmCommand (s : State) (src : Src) (v : Nat) (hostOk : State → Bool) (op : State → State) : State :=
  s.command FLM_CMD v fun s => if src = .host && !hostOk s then s.flmRefuse fSTATE else op s

/-- FLM_CMD CTXALLOC (R231). -/
def State.flmCtxAlloc (s : State) (src : Src) : State :=
  s.flmCommand src 1 (fun _ => false) fun s =>
    let a := s.rd (FLM_ARG 0)
    match s.ctxAlloc (getBits a 0 16) (getBits a 16 4) (getBits a 20 3) (getBits a 23 1) (getBits a 24 1) with
    | ((some c, _), s) => s.flmDone c
    | ((none, r), s) => s.flmRefuse r

/-- FLM_CMD CTXFREE of context FLM_SEL (R232). -/
def State.flmCtxFree (s : State) (src : Src) : State :=
  s.flmCommand src 2 (fun _ => false) fun s =>
    let c := s.get FLM_SEL_SEL
    if decide (c < s.ctxCount) && (s.get (CTX_STATE c) = cFREE || s.get (CTX_STATE c) = cDRAINING) then
      s.flmRefuse fSTATE
    else if s.ctxCount ≤ c then s.flmRefuse fBADARG
    else (s.ctxFree c).flmDone c

/-- A thread waits on flume `f`. -/
def waitsOn (f : Nat) (x : Slot) : Bool :=
  match x.blk with
  | some (.pull g _) => g = f
  | some (.push g _ _ _ _) => g = f
  | some (.relo g _ _ _ _ _ _) => g = f
  | _ => false

def State.flumeWaiter (s : State) (f : Nat) : Bool := s.eng.slots.any (fun x => waitsOn f x.2)

/-- FLM_CMD SETDEPTH of flume FLM_SEL (R216, R217). -/
def State.flmSetDepth (s : State) (src : Src) (depth : Nat) : State :=
  s.flmCommand src (3 + 2 ^ 4 * (depth % 32)) (fun s => decide (12 ≤ s.get FLM_SEL_SEL % 16)) fun s =>
    let f := s.get FLM_SEL_SEL
    let c := f / 16
    if decide (c < s.ctxCount) && s.get (CTX_STATE c) = cFREE then s.flmRefuse fSTATE
    else if decide (s.ctxCount ≤ c) || decide (16 < depth % 32) then s.flmRefuse fBADARG
    else if decide (s.flumeLen f ≠ 0) || s.flumeWaiter f then s.flmRefuse fBUSY
    else
      let s0 := s.freeOwner (.flume f)
      let n := flumeBytes [depth % 32]
      if n = 0 then (s0.set (CTX_DEPTH c (f % 16)) (depth % 32)).flmDone f
      else match s0.allocCrew (s.get (CTX_CREW c)) n (.flume f) with
        | none => s.flmRefuse fNOMEM
        | some (_, s1) => (s1.set (CTX_DEPTH c (f % 16)) (depth % 32)).flmDone f

/-- FLM_CMD PUSH of FLM_ARG0-3 into flume FLM_SEL (R218). -/
def State.flmPush (s : State) (src : Src) : State :=
  s.flmCommand src 4 (fun s => decide (11 ≤ s.get FLM_SEL_SEL % 16)) fun s =>
    let f := s.get FLM_SEL_SEL
    if decide (f / 16 < s.ctxCount) && s.get (CTX_STATE (f / 16)) = cFREE then s.flmRefuse fSTATE
    else if s.ctxCount ≤ f / 16 then s.flmRefuse fBADARG
    else if s.flumeFull f then s.flmRefuse fFULL
    else (s.pushVis f (.mk4 (s.rd (FLM_ARG 0)) (s.rd (FLM_ARG 1)) (s.rd (FLM_ARG 2)) (s.rd (FLM_ARG 3))
      0x3FF 0)).flmDone f

/-- A group opened by firmware (R225), or the reason it is refused. -/
def State.groupOpen (s : State) (g base win : Nat) : State :=
  (s.setGroup g ⟨win, base, []⟩).trace0 0x1A 4 g

/-- FLM_CMD GOPEN of group FLM_SEL (R225). With every group open the named group is open too; GRP_FULL is
then the reason that the rule names first for that case (log entry 9). -/
def State.flmGopen (s : State) (src : Src) (win1 : Nat) : State :=
  s.flmCommand src (5 + 2 ^ 9 * (win1 % 256)) (fun _ => false) fun s =>
    let g := s.get FLM_SEL_SEL
    if 4096 ≤ g then s.flmRefuse fBADARG
    else if s.eng.groups.length = 4096 then ((s.bump FLM_GREF).trace0 0x08 1 g).flmRefuse fGRP_FULL
    else if (s.group g).isSome then s.flmRefuse fBUSY
    else (s.groupOpen g (getBits (s.rd (FLM_ARG 0)) 0 16) (win1 % 256 + 1)).flmDone g

/-- FLM_CMD GCLOSE of group FLM_SEL (R227). -/
def State.flmGclose (s : State) (src : Src) : State :=
  s.flmCommand src 6 (fun _ => false) fun s =>
    let g := s.get FLM_SEL_SEL
    if decide (g < 4096) && (s.group g).isNone then s.flmRefuse fSTATE
    else if 4096 ≤ g then s.flmRefuse fBADARG
    else (s.closeGroup g).flmDone g

/-- FLM_CMD GSKIP of sequence FLM_ARG0[15:0] of group FLM_SEL (R227). -/
def State.flmGskip (s : State) (src : Src) : State :=
  s.flmCommand src 7 (fun _ => true) fun s =>
    let g := s.get FLM_SEL_SEL
    let q := getBits (s.rd (FLM_ARG 0)) 0 16
    if 4096 ≤ g then s.flmRefuse fBADARG
    else match s.group g with
      | none => s.flmRefuse fSTATE
      | some x =>
        if !inWindow x q || usedSeq x q then s.flmRefuse fBADARG
        else
          let s := s.skipSeq g q
          s.flmDone (match s.group g with | some y => y.base | none => 0)

/-- A flume-manager command that the unit is up to serve. -/
def execCtxalloc (src : Src) (s : State) : Host.Outcome State Fault Refusal :=
  settled (if s.running then s.flmCtxAlloc src else s)

/-- CTXFREE (R232). -/
def execCtxfree (src : Src) (s : State) : Host.Outcome State Fault Refusal :=
  settled (if s.running then s.flmCtxFree src else s)

/-- SETDEPTH (R216). -/
def execSetdepth (src : Src) (depth : Nat) (s : State) : Host.Outcome State Fault Refusal :=
  settled (if s.running then s.flmSetDepth src depth else s)

/-- FLM_PUSH (R218). -/
def execFlmPush (src : Src) (s : State) : Host.Outcome State Fault Refusal :=
  settled (if s.running then s.flmPush src else s)

/-- GOPEN (R225). -/
def execGopen (src : Src) (win1 : Nat) (s : State) : Host.Outcome State Fault Refusal :=
  settled (if s.running then s.flmGopen src win1 else s)

/-- GCLOSE (R227). -/
def execGclose (src : Src) (s : State) : Host.Outcome State Fault Refusal :=
  settled (if s.running then s.flmGclose src else s)

/-- GSKIP (R227). -/
def execGskip (src : Src) (s : State) : Host.Outcome State Fault Refusal :=
  settled (if s.running then s.flmGskip src else s)

/-- FLM_EDATA0_READ (R236): the entry at FLM_ESEL of flume FLM_FSEL, visible entries first, then held
entries in push order; a read of EDATA0 latches the other words and the tag. -/
def State.latchEntry (s : State) : State :=
  let q := s.flume (s.get FLM_FSEL_FLUME)
  let n := s.get FLM_ESEL_POS
  let nv := q.vis.length
  let (e, held) := if n < nv then (q.vis[n]?, false) else (q.held[n - nv]?, true)
  match e with
  | none =>
    ((((s.wr (FLM_EDATA 0) 0).wr (FLM_EDATA 1) 0).wr (FLM_EDATA 2) 0).wr (FLM_EDATA 3) 0).wr FLM_ETAG 0
  | some e =>
    let s := (((s.wr (FLM_EDATA 0) e.w0).wr (FLM_EDATA 1) e.w1).wr (FLM_EDATA 2) e.w2).wr (FLM_EDATA 3) e.w3
    (s.wr FLM_ETAG 0).setAll [(FLM_ETAG_GROUP, if held then e.grp else 0),
      (FLM_ETAG_HELD, if held then 1 else 0), (FLM_ETAG_VALID, 1), (FLM_ETAG_SEQ, if held then e.seq else 0)]

def execFlmEdata0Read (s : State) : Host.Outcome State Fault Refusal :=
  settled (if s.running then s.latchEntry else s)

/-- A read of TRC_RD0 latches the entry at TRC_RSEL into TRC_RD1-TRC_RD3 (R234). -/
def State.latchTrace (s : State) : State :=
  let i := s.get TRC_RSEL_ENTRY
  (List.range 4).foldl (fun s k => s.wr (TRC_RD k) (mget 0 s.eng.trc (4 * i + k))) s

/-- TRC_RD0_READ (R234). -/
def execTrcRd0Read (s : State) : Host.Outcome State Fault Refusal :=
  settled (if s.running then s.latchTrace else s)

/-- TRC_CMD CLEAR: refused while TRC_CTL.EN = 1 (R234). -/
def State.trcClear (s : State) : State :=
  s.command TRC_CMD 1 fun s =>
    if s.bit TRC_CTL_EN then s.setStat TRC_CMD stREFUSED
    else
      let s := { s with eng := { s.eng with trc := [], trcN := 0 } }
      (s.wr TRC_WIDX 0).setStat TRC_CMD stDONE

/-- TRC_CLEAR (R234). -/
def execTrcClear (s : State) : Host.Outcome State Fault Refusal :=
  settled (if s.running then s.trcClear else s)

end Sys2Proof.Machine
end

