-- ==== Sys2Proof/Machine/Threads.lean ====
section
/-! DEFINITION. Threads, ready lists and placement (R205-R212), event flags (R213), engine slots and their
faults (R144-R150), and the thread commands (R236). -/

namespace Sys2Proof.Machine

/-! ### Slots, crews and thread records -/

def Slot.init : Slot where
  st := .free
  pc := 0
  v := []
  s := []
  p := []
  sat := false
  thr := 0
  cause := 0
  fins := 0
  prior := .free
  yld := []
  blk := none
  killed := false

def Crew.init : Crew where
  lutq := []
  sclq := []
  pass := none
  lines := []
  lastY := 0
  staged := []
  loading := none
  lastIssue := [7, 7, 7, 7, 7, 7, 7, 7]
  paceWin := 0

def Thr.init : Thr := ⟨.free, 0, 0, 0, 0, false, false, 0, 0, 0, 0, 0, 0, false⟩

def State.slot (s : State) (e t : Nat) : Slot := mget Slot.init s.eng.slots (8 * e + t)
def State.setSlot (s : State) (e t : Nat) (x : Slot) : State :=
  { s with eng := { s.eng with slots := mput Slot.init s.eng.slots (8 * e + t) x } }
def State.crew (s : State) (c : Nat) : Crew := mget Crew.init s.eng.crews c
def State.setCrew (s : State) (c : Nat) (x : Crew) : State :=
  { s with eng := { s.eng with crews := mput Crew.init s.eng.crews c x } }
def State.thread (s : State) (t : Nat) : Thr := mget Thr.init s.eng.thr t
def State.setThread (s : State) (t : Nat) (x : Thr) : State :=
  { s with eng := { s.eng with thr := mput Thr.init s.eng.thr t x } }

/-- Thread numbers (R205). -/
abbrev threadCount : Nat := 640

/-- Scalar, vector-lane and predicate registers; p0 reads 0xFFFF (R144). -/
def Slot.sreg (x : Slot) (r : Nat) : Word := mget 0 x.s r
def Slot.vreg (x : Slot) (r l : Nat) : Word := mget 0 x.v (16 * r + l)
def Slot.preg (x : Slot) (r : Nat) : Half := if r = 0 then 0xFFFF#16 else mget 0 x.p r
def Slot.setS (x : Slot) (r : Nat) (w : Word) : Slot := { x with s := mput 0 x.s r w }
def Slot.setV (x : Slot) (r l : Nat) (w : Word) : Slot := { x with v := mput 0 x.v (16 * r + l) w }
/-- Writes to p0 have no effect (R144). -/
def Slot.setP (x : Slot) (r : Nat) (w : Half) : Slot := if r = 0 then x else { x with p := mput 0 x.p r w }

/-- Engines are powered in the role: every crew in a head, CREW0 in a tile (R16, R143). -/
def State.crewOn (s : State) (c : Nat) : Bool := decide (c < 8) && (s.head || c = 0)

/-- The engine is powered and not gated (R170). -/
def State.engOn (s : State) (e : Nat) : Bool :=
  decide (e < 64) && s.crewOn (e / 8) && !s.bit (ENG_STAT_GATED e)

/-- A STOP is draining (R150). -/
def State.stopping (s : State) (e : Nat) : Bool :=
  s.stat (ENG_CMD e) = stBUSY && s.get (ENG_CMD_OP e) = 1

/-- Slots of engine `e` that are not FREE. -/
def State.resident (s : State) (e : Nat) : List Nat :=
  (List.range 8).filter (fun t => (s.slot e t).st ≠ .free)

/-- Requests outstanding for a slot (R147). -/
def State.smpOut (s : State) (e t : Nat) : Nat :=
  ((s.crew (e / 8)).lutq.filter (fun r => r.eng = e && r.slot = t && r.thr = (s.slot e t).thr)).length +
  ((s.crew (e / 8)).sclq.filter (fun r => r.eng = e && r.slot = t && r.thr = (s.slot e t).thr)).length

/-! ### Scaler passes of a thread (R162) -/

/-- The next queued pass opens, if the scaler is free: its opening thread's request returns by
SAMPLER_RETURN. -/
def Crew.closeOf (x : Crew) (e t : Nat) : Crew :=
  let x := { x with sclq := x.sclq.filter (fun r => !(r.eng = e && r.slot = t &&
                      (match r.kind with | .sopen _ => true | _ => false))) }
  match x.pass with
  | some p => if p.eng = e && p.slot = t then { x with pass := none, lines := [], staged := [] } else x
  | none => x

/-- A pass held by slot (e, t), open or queued, closes. -/
def State.closePasses (s : State) (e t : Nat) : State :=
  s.setCrew (e / 8) ((s.crew (e / 8)).closeOf e t)

/-- The outstanding requests of slot (e, t) complete and are discarded (R149, R202). -/
def State.dropRequests (s : State) (e t : Nat) : State :=
  let x := s.crew (e / 8)
  s.setCrew (e / 8) { x with lutq := x.lutq.filter (fun r => !(r.eng = e && r.slot = t)),
                             sclq := x.sclq.filter (fun r => !(r.eng = e && r.slot = t)) }

/-! ### Faults (R149) -/

/-- The thread of slot (e, t) stops before the faulting instruction has any effect. -/
def State.threadFault (s : State) (e t cause fins : Nat) : State :=
  let x := s.slot e t
  let s := s.setSlot e t { x with st := .fault, cause := cause, fins := fins, blk := none, yld := [] }
  let s := (s.closePasses e t).dropRequests e t
  let s := s.setThread x.thr { s.thread x.thr with waiting := false }
  ((s.set (ENG_STAT_FAULT e) 1).bump (ENG_FAULTS e)).trace 0x10 2 x.thr e t cause

/-! ### The life of a thread (R205-R211) -/

/-- The number becomes free: its flags and wait mask are cleared, and it goes behind every number freed
before it (R206, R208). A KILL that waited for it reads DONE (R207). -/
def State.freeThread (s : State) (t : Nat) : State :=
  let s := s.setThread t Thr.init
  let s := { s with eng := { s.eng with ready := s.eng.ready.filter (fun u => u ≠ t),
                                        freed := s.eng.freed ++ [t] } }
  if s.stat TDP_CMD = stBUSY && s.get TDP_CMD_OP = 2 && s.get TDP_CMD_THREAD = t then
    s.setStat TDP_CMD stDONE
  else s

/-- The thread of slot (e, t) ends and the slot is FREE (R148, R202). -/
def State.endSlot (s : State) (e t : Nat) : State :=
  let x := s.slot e t
  let s := (s.closePasses e t).dropRequests e t
  (s.setSlot e t Slot.init).freeThread x.thr

/-- The number a new thread takes: never used first, ascending, then longest free (R206). -/
def State.newNumber (s : State) : Option (Nat × State) :=
  if s.eng.nextNew < threadCount then
    some (s.eng.nextNew, { s with eng := { s.eng with nextNew := s.eng.nextNew + 1 } })
  else match s.eng.freed with
    | [] => none
    | t :: l => some (t, { s with eng := { s.eng with freed := l } })

/-- A Kerf thread created (R206), with the reason when it is refused. -/
def State.spawn (s : State) (entry prio affin ctx nctx : Nat) (flags s0 : Word) (comp : Bool) :
    (Option Nat × Nat) × State :=
  let powered := (List.range 8).any (fun c => affin.testBit c && s.crewOn c)
  let refuse (r : Nat) (s : State) := ((none, r), (s.bump TDP_REFUSED).trace0 0x05 1 r)
  if entry % 8 ≠ 0 ∨ !powered then refuse 3 s
  else if decide (s.ctxCount < ctx + nctx) ||
      (List.range nctx).any (fun i => s.get (CTX_STATE (ctx + i)) = cFREE) then refuse 2 s
  else match s.newNumber with
    | none => refuse 1 s
    | some (t, s) =>
      let s := s.setThread t
        ⟨.unplaced, prio, affin, 0, 0, false, false, flags, 0, ctx, nctx, entry, s0, comp⟩
      let s := { s with eng := { s.eng with ready := s.eng.ready ++ [t] } }
      ((some t, 0), (s.bump TDP_SPAWNS).trace 0x01 0 t 0 0 entry)

/-- Flags set in thread number `t` by bitwise OR; a number that holds no thread loses them (R208, R213). -/
def State.signal (s : State) (t : Nat) (flags : Word) : State :=
  if decide (t < threadCount) && (s.thread t).st ≠ .free then
    s.setThread t { s.thread t with flags := (s.thread t).flags ||| flags }
  else (s.bump TDP_SIGLOST).trace0 0x06 1 t

/-- Slot (e, t) takes threads: its engine is powered, not gated, not stopped, and the slot is FREE (R210). -/
def State.slotOpen (s : State) (e t : Nat) : Bool :=
  s.engOn e && !s.bit (ENG_STAT_STOPPED e) && !s.stopping e && (s.slot e t).st = .free

/-- Engines with a free slot that suit an affinity mask (R210). -/
def State.engFits (s : State) (affin e : Nat) : Bool :=
  affin.testBit (e / 8) && (List.range 8).any (fun t => s.slotOpen e t)

/-- The engine of R211: fewest resident threads, then lowest number. -/
def State.bestEngine (s : State) (affin : Nat) : Option Nat :=
  ((List.range 64).filter (s.engFits affin)).foldl (fun b e =>
    match b with
    | none => some e
    | some d => if (s.resident e).length < (s.resident d).length then some e else some d) none

/-- The first eligible thread of the highest priority that has one (R210). -/
def State.bestThread (s : State) : Option Nat :=
  (s.eng.ready.filter (fun t => (s.bestEngine (s.thread t).affin).isSome)).foldl (fun b t =>
    match b with
    | none => some t
    | some u => if (s.thread u).prio < (s.thread t).prio then some t else some u) none

/-- Thread `n` placed into slot (e, t) (R206, R211, R212). -/
def State.placeIn (s : State) (n e t : Nat) : State :=
  let x := s.thread n
  let sl := { Slot.init with st := .ready, pc := x.entry, thr := n }
  let sl := (sl.setS 0 x.s0).setS 1 (BitVec.ofNat 32 x.ctx)
  let s := s.setSlot e t sl
  let s := s.setThread n { x with st := .placed, eng := e, slot := t }
  let s := { s with eng := { s.eng with ready := s.eng.ready.filter (fun u => u ≠ n) } }
  (s.bump TDP_PLACED).trace 0x02 0 n e t x.prio

/-- One placement decision (R210-R212). -/
def State.placeOne (s : State) : State :=
  match s.bestThread with
  | none => s
  | some n =>
    match s.bestEngine (s.thread n).affin with
    | none => s
    | some e =>
      match (List.range 8).find? (fun t => s.slotOpen e t) with
      | none => s
      | some t => s.placeIn n e t

/-- THREAD_PLACE (R210): engines issue and take threads from READY up (R486, R547). -/
def execThreadPlace (s : State) : Host.Outcome State Fault Refusal :=
  settled (if s.ready then s.placeOne else s)

/-! ### Thread commands (R206, R207, R209, R213) -/

/-- TDP_CMD SPAWN from TDP_ARG0-3 (R206). -/
def State.tdpSpawn (s : State) : State :=
  s.command TDP_CMD 1 fun s =>
    match s.spawn (s.get TDP_ARG0_ENTRY) (s.get TDP_ARG0_PRIO) (s.get TDP_ARG0_AFFIN) (s.get TDP_ARG1_CTX)
        (s.get TDP_ARG1_NCTX + 1) (s.rd TDP_ARG2) (s.rd TDP_ARG3) false with
    | ((some t, _), s) => ((s.set TDP_RES_THREAD t).set TDP_RES_REASON 0).setStat TDP_CMD stDONE
    | ((none, r), s) => (s.set TDP_RES_REASON r).setStat TDP_CMD stREFUSED

def execThrSpawn (s : State) : Host.Outcome State Fault Refusal :=
  settled (if s.running then s.tdpSpawn else s)

/-- Thread `t` is killed (R207): removed if unplaced, cleared if in FAULT, else marked, so that it ends at
its next issue; a blocked thread is released for this purpose. -/
def State.killThread (s : State) (t : Nat) : State :=
  let x := s.thread t
  let s := s.trace 0x04 0 t x.eng x.slot 0
  match x.st with
  | .unplaced => s.freeThread t
  | .placed =>
    let sl := s.slot x.eng x.slot
    if sl.st = .fault then s.endSlot x.eng x.slot
    else if sl.st = .stopped then s.setSlot x.eng x.slot { sl with killed := true }
    else
      let s := s.setThread t { x with waiting := false }
      s.setSlot x.eng x.slot { sl with st := .ready, blk := none, killed := true, yld := [] }
  | _ => s

/-- TDP_CMD KILL (R207): refused for a kernel thread or a free number; DONE when the number is free. -/
def State.tdpKill (s : State) (t : Nat) : State :=
  s.command TDP_CMD (2 + 2 ^ 4 * (t % 1024)) fun s =>
    let st := (s.thread (t % 1024)).st
    if st = .free ∨ st = .kernel then s.setStat TDP_CMD stREFUSED
    else (s.setStat TDP_CMD stBUSY).killThread (t % 1024)

def execThrKill (t : Nat) (s : State) : Host.Outcome State Fault Refusal :=
  settled (if s.running then s.tdpKill t else s)

/-- TDP_CMD SIGNAL (R208, R213). -/
def State.tdpSignal (s : State) (t : Nat) : State :=
  s.command TDP_CMD (3 + 2 ^ 4 * (t % 1024)) fun s =>
    (s.signal (t % 1024) (s.rd TDP_ARG2)).setStat TDP_CMD stDONE

def execThrSignal (t : Nat) (s : State) : Host.Outcome State Fault Refusal :=
  settled (if s.running then s.tdpSignal t else s)

/-- TDP_CMD SETPRIO (R209, R210): an unplaced thread moves to the tail of its new list. -/
def State.tdpSetprio (s : State) (t prio : Nat) : State :=
  s.command TDP_CMD (4 + 2 ^ 4 * (t % 1024) + 2 ^ 14 * (prio % 32)) fun s =>
    let x := s.thread (t % 1024)
    if x.st = .free ∨ x.st = .kernel then s.setStat TDP_CMD stREFUSED
    else
      let s := s.setThread (t % 1024) { x with prio := prio % 32 }
      let s := if x.st = .unplaced then
        { s with eng := { s.eng with
            ready := s.eng.ready.filter (fun u => u ≠ t % 1024) ++ [t % 1024] } } else s
      s.setStat TDP_CMD stDONE

def execThrSetprio (t prio : Nat) (s : State) : Host.Outcome State Fault Refusal :=
  settled (if s.running then s.tdpSetprio t prio else s)

/-! ### Draining contexts (R232) -/

/-- Context `c` of a blocked instruction. -/
def blockedCtx (x : Slot) : Option Nat :=
  match x.blk with
  | some (.pull g _) => some (g / 16)
  | some (.push g _ _ _ _) => some (g / 16)
  | some (.relo g _ _ _ _ _ _) => some (g / 16)
  | _ => none

/-- Every thread that waits on a flume of context `c` faults with FCAUSE 0x6 (R232). The instruction word of
the blocked instruction is that at its address. -/
def State.faultWaiters (s : State) (c : Nat) : State :=
  s.eng.slots.foldl (fun s p =>
    let e := p.1 / 8
    let t := p.1 % 8
    if blockedCtx (s.slot e t) = some c then
      let a := lsBase e + (s.slot e t).pc
      s.threadFault e t 6 ((s.word a).toNat + 2 ^ 32 * (s.word (a + 4)).toNat)
    else s) s

/-- CTX_DRAIN_DONE (R232): every flume of draining context `c` holds no entry. -/
def execCtxDrainDone (c : Nat) (s : State) : Host.Outcome State Fault Refusal :=
  settled <|
    if s.running && decide (c < s.ctxCount) && s.get (CTX_STATE c) = cDRAINING && s.ctxEmpty c then
      (s.faultWaiters c).ctxDone c
    else s

end Sys2Proof.Machine
end

