-- ==== Sys2Proof/Machine/Operands.lean ====
section
/-! DEFINITION. The Kerf instruction word: its fields (R173), the guard (R174), operand B (R175), illegal
encodings (R175, R177, R178) and the vector registers an instruction names (R146). -/

namespace Sys2Proof.Machine

/-- The fields of a Kerf word (R173). -/
structure KIns where
  op  : Nat
  pn  : Nat
  pg  : Nat
  d   : Nat
  a   : Nat
  b   : Nat
  c   : Nat
  bs  : Nat
  fn  : Nat
  x1  : Nat
  x2  : Nat
  imm : Nat
  deriving DecidableEq, Repr

/-- Bits [lo + n - 1 : lo] of a number. -/
def nbits (w lo n : Nat) : Nat := w / 2 ^ lo % 2 ^ n

/-- The fields of a 64-bit instruction word (R173). -/
def kdecode (w : Nat) : KIns where
  op := nbits w 56 8
  pn := nbits w 55 1
  pg := nbits w 52 3
  d := nbits w 47 5
  a := nbits w 42 5
  b := nbits w 37 5
  c := nbits w 32 5
  bs := nbits w 30 2
  fn := nbits w 26 4
  x1 := nbits w 25 1
  x2 := nbits w 24 1
  imm := nbits w 0 24

/-- IMM, sign-extended (R173). -/
def KIns.simm (i : KIns) : Int := toInt 24 i.imm

/-- IMM, sign-extended, as a 32-bit value. -/
def KIns.immW (i : KIns) : Word := BitVec.ofNat 32 (ofInt 32 i.simm)

/-! ### Opcodes (R177) -/

/-- ADD, ADDS, MUL, MAC, MIN, MAX, CLMP, SHL, SHR in either kind. -/
def isArith (op : Nat) : Bool := decide (0x10 ≤ op ∧ op ≤ 0x18 ∨ 0x20 ≤ op ∧ op ≤ 0x28)

/-- Forms listed for an opcode; 0 for an opcode outside the map. -/
def formCount (op : Nat) : Nat :=
  match op with
  | 0x10 => 15 | 0x11 => 6 | 0x12 => 5 | 0x13 => 2 | 0x14 => 2 | 0x15 => 2 | 0x16 => 2 | 0x17 => 2
  | 0x18 => 3 | 0x19 => 11
  | 0x20 => 15 | 0x21 => 6 | 0x22 => 5 | 0x23 => 2 | 0x24 => 2 | 0x25 => 2 | 0x26 => 2 | 0x27 => 2
  | 0x28 => 3 | 0x29 => 11
  | 0x30 => 3 | 0x31 => 3 | 0x40 => 1 | 0x41 => 1 | 0x50 => 1 | 0x51 => 3 | 0x52 => 1 | 0x58 => 4
  | 0x60 => 2 | 0x61 => 1 | 0x62 => 1 | 0x70 => 4 | 0x71 => 1 | 0x7E => 1 | 0x7F => 1
  | _ => 0

/-- A predicate form of ADD (R179). -/
def isPred (fn : Nat) : Bool := fn = 6 || fn = 7 || fn = 14

/-! ### Legality (R175, R178) -/

/-- Operand B per BS: 1 only for vector opcodes, 2 only with field B zero, 3 never (R175). -/
def bsOk (vec : Bool) (i : KIns) : Bool :=
  match i.bs with
  | 0 => true
  | 1 => vec
  | 2 => i.b = 0
  | _ => false

def addLegal (vec : Bool) (i : KIns) : Bool :=
  i.x1 = 0 && i.c = 0 &&
  (if isPred i.fn then vec && i.bs = 0 && decide (i.d ≤ 7) && decide (i.a ≤ 7) && decide (i.b ≤ 7)
   else bsOk vec i && i.x2 = 0 && (decide (i.fn < 8) || decide (i.d ≤ 7)))

/-- MUL and MAC: C is a shift count in the shifted forms only (R181). -/
def mulLegal (vec : Bool) (i : KIns) : Bool :=
  bsOk vec i && i.x1 = 0 && i.x2 = 0 && (i.op % 16 = 3 || decide (3 ≤ i.fn) || i.c = 0)

/-- ADDS, MIN, MAX, SHL, SHR; CLMP names C (R180, R182). -/
def plainLegal (vec : Bool) (i : KIns) : Bool :=
  bsOk vec i && i.x1 = 0 && i.x2 = 0 && (i.op % 16 = 6 || i.c = 0)

/-- IMM bits a form of CVT uses, for the forms whose IMM is unsigned (R183). -/
def cvtImmOk (i : KIns) : Bool :=
  match i.fn with
  | 0 => decide (i.imm < 3)
  | 6 => decide (i.imm < 16)
  | 9 => decide (i.imm < 2 ^ 16)
  | 10 => decide (i.imm < 7)
  | _ => true

def cvtLegal (vec : Bool) (i : KIns) : Bool :=
  i.c = 0 && i.x1 = 0 && i.x2 = 0 && cvtImmOk i &&
  (if i.fn = 2 then bsOk vec i else i.bs = 0) &&
  (match i.fn with
   | 5 => vec
   | 6 => vec
   | 7 => vec
   | 8 => i.a = 0
   | 10 => !vec && i.a = 0
   | _ => true)

/-- No field but OP, PG and PN (R201, R202). -/
def bareLegal (i : KIns) : Bool :=
  i.d = 0 && i.a = 0 && i.b = 0 && i.c = 0 && i.bs = 0 && i.fn = 0 && i.x1 = 0 && i.x2 = 0 && i.imm = 0

/-- The encoding is legal (R175, R177, R178). A field counts as unused where the opcode's table marks it so
(log entry 10). -/
def kLegal (i : KIns) : Bool :=
  decide (i.fn < formCount i.op) &&
  match i.op with
  | 0x10 => addLegal true i
  | 0x20 => addLegal false i
  | 0x12 => mulLegal true i
  | 0x13 => mulLegal true i
  | 0x22 => mulLegal false i
  | 0x23 => mulLegal false i
  | 0x19 => cvtLegal true i
  | 0x29 => cvtLegal false i
  | 0x30 => i.x1 = 0 && i.x2 = 0 && i.bs = 0 && i.b = 0 && i.c = 0
  | 0x31 => i.x1 = 0 && i.x2 = 0 && i.bs = 0 && i.b = 0 && i.c = 0
  | 0x40 => i.c = 0 && i.x2 = 0 && i.bs = 0 && decide (i.imm < 16) && decide (i.d ≤ 28) &&
            (if i.x1 = 0 then i.b = 0 else decide (i.b ≤ 7))
  | 0x41 => i.c = 0 && i.x2 = 0 && i.bs = 0 && decide (i.imm < 16) && decide (i.d ≤ 28) &&
            (if i.x1 = 0 then i.b = 0 else decide (i.b ≤ 7))
  | 0x50 => i.c = 0 && i.x2 = 0 && i.bs = 0 && decide (i.imm < 64) && decide (i.d ≤ 29) &&
            decide (i.a ≤ 29) &&
            (i.x1 = 1 || (i.b = 0 && decide (nbits i.imm 2 3 < 7) && (nbits i.imm 5 1 = 0 || nbits i.imm 2 3 = 0)))
  | 0x51 => i.x1 = 0 && i.x2 = 0 && i.b = 0 && i.c = 0 && i.d = 0 && i.bs = 0 && (i.fn ≠ 2 || i.imm = 0)
  | 0x52 => i.b = 0 && i.c = 0 && i.bs = 0 && i.fn = 0 && i.x1 = 0 && i.x2 = 0 && i.imm = 0 && decide (i.d ≤ 29)
  | 0x58 => bsOk true i && i.x1 = 0 && i.x2 = 0 && (decide (i.fn < 2) || i.c = 0)
  | 0x60 => i.b = 0 && i.c = 0 && i.imm = 0 && i.bs = 0
  | 0x61 => i.d = 0 && i.c = 0 && i.fn = 0 && i.x1 = 0 && i.x2 = 0 && i.imm = 0 && i.bs = 0
  | 0x62 => i.x2 = 0 && i.bs = 0 && decide (i.imm < 16) && decide (i.d ≤ 28) &&
            (if i.x1 = 0 then i.c = 0 else decide (i.c ≤ 7))
  | 0x70 => i.a = 0 && i.b = 0 && i.c = 0 && i.d = 0 && i.x2 = 0 && i.bs = 0 &&
            (decide (i.fn < 2) || (i.pg = 0 && i.pn = 0))
  | 0x71 => i.b = 0 && i.c = 0 && i.fn = 0 && i.x2 = 0 && i.bs = 0 && (i.x1 = 1 || i.d = 0)
  | 0x7E => bareLegal i
  | 0x7F => bareLegal i
  | op => plainLegal (decide (op < 0x20)) i

/-! ### Guard and operands (R174, R175) -/

/-- The guard mask M (R174). -/
def KIns.mask (i : KIns) (x : Slot) : Half :=
  if i.pn = 1 then ~~~ (x.preg i.pg) else x.preg i.pg

/-- The guard enables lane `l`. -/
def laneOn (m : Half) (l : Nat) : Bool := m.toNat.testBit l

/-- The lanes the guard enables, lowest first. -/
def lanesOn (m : Half) : List Nat := (List.range 16).filter (laneOn m)

/-- Lane `l` of operand B of a vector instruction (R175). -/
def KIns.vecB (i : KIns) (x : Slot) (l : Nat) : Word :=
  match i.bs with
  | 0 => x.vreg i.b l
  | 1 => x.sreg i.b
  | _ => i.immW

/-- Operand B of a scalar instruction (R175). -/
def KIns.scaB (i : KIns) (x : Slot) : Word := if i.bs = 0 then x.sreg i.b else i.immW

/-- The vector registers an instruction reads or writes, which a pending sampler result may hold (R146). -/
def KIns.vregs (i : KIns) : List Nat :=
  let bReg := if i.bs = 0 then [i.b] else []
  match i.op with
  | 0x10 => if isPred i.fn then [] else if i.fn < 8 then i.d :: i.a :: bReg else i.a :: bReg
  | 0x16 => i.d :: i.a :: i.c :: bReg
  | 0x19 =>
    match i.fn with
    | 2 => i.d :: i.a :: bReg
    | 5 => [i.d]
    | 6 => [i.a]
    | 7 => [i.d]
    | 8 => [i.d]
    | _ => [i.d, i.a]
  | 0x30 => if i.fn = 0 then [] else if i.fn = 1 then [i.d] else [i.d, i.a]
  | 0x31 => if i.fn = 0 then [] else if i.fn = 1 then [i.d] else [i.d, i.a]
  | 0x50 => [i.d, i.d + 1, i.d + 2, i.a, i.a + 1, i.a + 2]
  | 0x52 => [i.d, i.d + 1, i.d + 2]
  | 0x58 => i.d :: i.a :: (if i.fn < 2 then i.c :: bReg else bReg)
  | op => if 0x11 ≤ op ∧ op ≤ 0x18 then i.d :: i.a :: bReg else []

end Sys2Proof.Machine
end

