-- ==== Sys2Proof/Machine/Flags.lean ====
section
/-! DEFINITION. Saturating results: the bounded value and whether the bound applied, which sets the
thread's SAT flag (R169, R180-R183, R193, R203). -/

namespace Sys2Proof.Machine

/-- A result and whether it saturated. -/
abbrev SatWord := Word × Bool

/-- The 32-bit word of an integer, wrapping. -/
def wordOfInt (i : Int) : Word := BitVec.ofNat 32 (ofInt 32 i)

/-- The integer bounded to `lo`..`hi`, with the saturation. -/
def satBetween (lo hi i : Int) : SatWord := (wordOfInt (boundInt lo hi i), decide (i < lo ∨ hi < i))

/-- Bounded to the signed 32-bit range. -/
def satS (i : Int) : SatWord := satBetween (-2 ^ 31) (2 ^ 31 - 1) i

/-- Bounded to the unsigned 32-bit range. -/
def satU (i : Int) : SatWord := satBetween 0 (2 ^ 32 - 1) i

/-- Bounded to 0..65,535. -/
def satH (i : Int) : SatWord := satBetween 0 65535 i

/-- A result of a form that never saturates. -/
def noSat (w : Word) : SatWord := (w, false)

/-- The rounded arithmetic shift of R181 and R182: (p + (n > 0 ? 2^(n-1) : 0)) >> n, exact. -/
def roundShift (p : Int) (n : Nat) : Int := (p + (if n = 0 then 0 else 2 ^ (n - 1))) / (2 ^ n : Int)

/-! ### The arithmetic forms, one lane: operands a, b, c or the shift count n, and d -/

/-- ADD forms 0-5 (R179). -/
def addForm (fn : Nat) (a b : Word) : Word :=
  match fn with
  | 0 => a + b
  | 1 => a - b
  | 2 => a &&& b
  | 3 => a ||| b
  | 4 => a ^^^ b
  | _ => a &&& ~~~ b

/-- The compares, ADD forms 8-13 (R179). -/
def cmpForm (fn : Nat) (a b : Word) : Bool :=
  match fn with
  | 8 => a = b
  | 9 => a ≠ b
  | 10 => decide (a.toInt < b.toInt)
  | 11 => decide (a.toInt ≤ b.toInt)
  | 12 => decide (a.toNat < b.toNat)
  | _ => decide (a.toNat ≤ b.toNat)

/-- The predicate forms, ADD forms 6, 7 and 14; X2 inverts pB first (R179). -/
def predForm (fn x2 : Nat) (a b : Half) : Half :=
  let b := if x2 = 1 then ~~~ b else b
  match fn with
  | 6 => a &&& b
  | 7 => a ||| b
  | _ => a ^^^ b

/-- ADDS (R180). -/
def addsForm (fn : Nat) (a b : Word) : SatWord :=
  match fn with
  | 0 => satS (a.toInt + b.toInt)
  | 1 => satS (a.toInt - b.toInt)
  | 2 => satU ((a.toNat : Int) + b.toNat)
  | 3 => satU ((a.toNat : Int) - b.toNat)
  | 4 => satH (a.toInt + b.toInt)
  | _ => satH (a.toInt - b.toInt)

/-- MUL with shift count `n` (R181). -/
def mulForm (fn n : Nat) (a b : Word) : SatWord :=
  match fn with
  | 0 => noSat (a * b)
  | 1 => noSat (wordOfInt (a.toInt * b.toInt / 2 ^ 32))
  | 2 => noSat (BitVec.ofNat 32 (a.toNat * b.toNat / 2 ^ 32))
  | 3 => satS (roundShift (a.toInt * b.toInt) n)
  | _ => satU (roundShift ((a.toNat : Int) * b.toNat) n)

/-- MAC with shift count `n` and accumulator `d` (R181). -/
def macForm (fn n : Nat) (a b d : Word) : SatWord :=
  match fn with
  | 0 => satS (d.toInt + roundShift (a.toInt * b.toInt) n)
  | _ => satU ((d.toNat : Int) + roundShift ((a.toNat : Int) * b.toNat) n)

/-- MIN (R182). -/
def minForm (fn : Nat) (a b : Word) : Word :=
  if fn = 0 then (if a.toInt ≤ b.toInt then a else b) else (if a.toNat ≤ b.toNat then a else b)

/-- MAX (R182). -/
def maxForm (fn : Nat) (a b : Word) : Word :=
  if fn = 0 then (if a.toInt ≤ b.toInt then b else a) else (if a.toNat ≤ b.toNat then b else a)

/-- CLMP applies the maximum first (R182). -/
def clmpForm (fn : Nat) (a b c : Word) : Word := minForm fn (maxForm fn a b) c

/-- SHL; the count is B AND 31 (R182). -/
def shlForm (fn : Nat) (a b : Word) : SatWord :=
  let n := b.toNat % 32
  if fn = 0 then noSat (a <<< n) else satS (a.toInt * 2 ^ n)

/-- SHR; the count is B AND 31 (R182). -/
def shrForm (fn : Nat) (a b : Word) : Word :=
  let n := b.toNat % 32
  match fn with
  | 0 => a >>> n
  | 1 => a.sshiftRight n
  | _ => wordOfInt (roundShift a.toInt n)

/-- Bounded to 0..65,535 as signed, for CVT (R183). -/
def sat16 (a : Word) : SatWord := satH a.toInt

/-- CVT forms 0-4 and 9 of operand A, and PK16 with operand B (R183). -/
def cvtForm (fn imm : Nat) (a b : Word) : SatWord :=
  match fn with
  | 0 =>
    let x := a.toNat / 2 ^ (10 * imm) % 1024
    noSat (BitVec.ofNat 32 (x * 64 ||| x / 16))
  | 1 => sat16 a
  | 2 =>
    let (p, s) := sat16 a
    let (q, t) := sat16 b
    (q <<< 16 ||| p, s || t)
  | 3 => noSat (a &&& 0xFFFF#32)
  | 4 => noSat (a >>> 16)
  | _ => noSat ((a &&& 0xFFFF#32) ||| BitVec.ofNat 32 (imm * 2 ^ 16))

/-- BLND of foreground `a`, background `b` and alpha lane `c`; every bound on an input or on the result sets
SAT (R193). -/
def blndForm (fn : Nat) (a b c : Word) : SatWord :=
  let (a, sa) := satH a.toInt
  let (b, sb) := satH b.toInt
  let (c, sc) := if fn < 2 then satH c.toInt else (0, false)
  let al : Int := c.toNat + c.toNat / 2 ^ 15
  let x : Int := a.toNat
  let y : Int := b.toNat
  let r : Int := match fn with
    | 0 => (x * al + y * (65536 - al) + 32768) / 65536
    | 1 => x + (y * (65536 - al) + 32768) / 65536
    | 2 => x + y
    | _ => (x * y + 32767) / 65535
  let (r, sr) := satH r
  (r, sa || sb || sc || sr)

end Sys2Proof.Machine
end

