-- ==== Sys2Proof/Machine/Sampler.lean ====
section
/-! DEFINITION. The samplers of a crew: LUT3 (R158-R161), the scaler's passes, lines and arithmetic
(R162-R166), the request queues (R147, R168, R192) and the lattice commands (R161). -/

namespace Sys2Proof.Machine

/-! ### LUT3 (R158-R160) -/

/-- Bytes of a lattice. -/
def latticeBytes (big : Bool) : Nat := if big then 215622 else 29478

/-- Control address of lattice position (slot, sub) of crew `c` (R158). -/
def latticeBase (c slot sub : Nat) : Nat := lutBase c + slot * 0x36000 + sub * 0x7380

/-- The lattice is loaded with that size (R160, R188). -/
def State.latticeReady (s : State) (c slot sub : Nat) (big : Bool) : Bool :=
  decide (sub < 7) && (!big || sub = 0) && (s.get (CMP_CREW_LUTSLOT_LOADED c slot)).testBit sub &&
  s.get (CMP_CREW_LUTSLOT_SIZE c slot) = (if big then 1 else 0)

/-- Output component `k` of the lattice at `base` for inputs r, g, b (R159). -/
def State.lattice (s : State) (base : Nat) (big : Bool) (k r g b : Nat) : Nat :=
  let n := if big then 33 else 17
  let f := if big then 11 else 12
  let one := 2 ^ f
  let node (a : Nat) : Nat := s.half (base + a * 6 + 2 * k)
  let fr := r % one
  let fg := g % one
  let fb := b % one
  -- the axes in order of f, ties in the order r, g, b: (f, node step)
  let ar := (fr, 1)
  let ag := (fg, n)
  let ab := (fb, n * n)
  let (x1, x2) := if fr < fg then (ag, ar) else (ar, ag)
  let (y1, y2, y3) :=
    if x2.1 < ab.1 then (if x1.1 < ab.1 then (ab, x1, x2) else (x1, ab, x2)) else (x1, x2, ab)
  let v0 := ((b / one) * n + g / one) * n + r / one
  let v1 := v0 + y1.2
  let v2 := v1 + y2.2
  let v3 := v2 + y3.2
  ((one - y1.1) * node v0 + (y1.1 - y2.1) * node v1 + (y2.1 - y3.1) * node v2 + y3.1 * node v3
    + one / 2) / one

/-- A LUT3 input taken as 0..65,535 (R159). -/
def lutIn (w : Word) : Nat := (satH w.toInt).1.toNat

/-- LUT3 request bounds some input of an enabled lane (R159, R203). -/
def lutClips (x : Slot) (a : Nat) (m : Half) : Bool :=
  (lanesOn m).any (fun l => (satH (x.vreg a l).toInt).2 || (satH (x.vreg (a + 1) l).toInt).2 ||
    (satH (x.vreg (a + 2) l).toInt).2)

/-! ### Passes (R162, R164, R190) -/

/-- Lines available A for a width (R164). -/
def availLines (width : Nat) : Nat := min 64 (131072 / width)

/-- D = max(DY, 1), Q16.16 (R164). -/
def stepD (dy : Nat) : Nat := max dy 65536

/-- Lines a pass with `t` taps needs: ceil(t D) + 1 (R164). -/
def linesNeeded (t dy : Nat) : Nat := (t * stepD dy + 65535) / 65536 + 1

/-- The largest t, at most `t0`, whose lines fit; 0 if none. -/
def fitTaps (a dy : Nat) : Nat → Nat
  | 0 => 0
  | t + 1 => if linesNeeded (t + 1) dy ≤ a then t + 1 else fitTaps a dy t

/-- Taps in use and whether the pass decimates (R164). -/
def passTaps (d : PassDesc) : Nat × Bool :=
  let t := fitTaps (availLines d.width) d.dy d.tv
  if t = d.tv then (t, false) else if 2 ≤ t then (t, false) else (1, true)

/-- A descriptor from its eight words, when every range and reserved bit holds (R162, R190). Y0 and X0 are
two's complement (log entry 11). -/
def passDesc (w : Nat → Nat) : Option PassDesc :=
  let d : PassDesc :=
    { width := nbits (w 0) 0 14, samp := nbits (w 0) 14 2, depth := nbits (w 0) 16 2,
      pack := nbits (w 0) 18 1, tv := nbits (w 0) 19 4 + 1, th := nbits (w 0) 23 4 + 1,
      bankv := nbits (w 1) 0 5, bankh := nbits (w 1) 5 5, layer := nbits (w 1) 10 6,
      y0 := toInt 32 (w 2), x0 := toInt 32 (w 3), dy := w 4, dx := w 5, passid := nbits (w 6) 0 16 }
  if decide (16 ≤ d.width ∧ d.width ≤ 8192) && decide (d.samp < 3) && nbits (w 0) 27 5 = 0 &&
     nbits (w 1) 16 16 = 0 && decide (0 < d.dy ∧ d.dy ≤ 16 * 65536) && decide (0 < d.dx ∧ d.dx ≤ 16 * 65536) &&
     nbits (w 6) 16 16 = 0 && w 7 = 0
  then some d else none

/-- Height of layer `L`: that of the source its active record names (R165, R245; log entry 11). -/
def State.layerHeight (s : State) (L : Nat) : Nat :=
  let w := s.rd (CMP_LAYREC_A L 0)
  let n := getBits w 2 6
  if getBits w 1 1 = 1 then s.get (ETH_STILL_SIZE_H n) else s.get (ETH_FLOW_SIZE_H n)

/-! ### Filtering (R165) -/

/-- Input index `k` brought inside 0 .. n - 1; n = 0 bounds below only. -/
def edge (n : Nat) (k : Int) : Nat := if k < 0 then 0 else if n ≠ 0 ∧ (n : Int) ≤ k then n - 1 else k.toNat

/-- Input indices with 0 ≤ u < t, each with floor(u) and the phase floor(frac(u) 64), for position `p` and
step `d` in Q16.16 (R165). -/
def taps (p : Int) (d t : Nat) : List (Int × Nat × Nat) :=
  let lo : Int := (2 * p - t * d) / 131072
  (List.range (t * d / 65536 + 3)).filterMap fun (j : Nat) =>
    let k : Int := lo + (j : Int)
    let num : Int := 2 * (k * 65536 - p) + t * d
    if 0 ≤ num ∧ num < 2 * t * d then
      let u := num.toNat
      some (k, u / (2 * d), u % (2 * d) * 64 / (2 * d))
    else none

/-- The index nearest to position `p`; `up` chooses between two equally near (log entry 12). -/
def nearest (p : Int) (up : Bool) : Int :=
  if p % 65536 = 32768 then (if up then p / 65536 + 1 else p / 65536) else (p + 32768) / 65536

/-- Rounding to the nearest integer; `up` chooses at a tie (log entry 12). -/
def roundTie (a b : Int) (up : Bool) : Int :=
  let a := if b < 0 then -a else a
  let b := if b < 0 then -b else b
  if (2 * a) % (2 * b) = b then (if up then a / b + 1 else a / b) else (2 * a + b) / (2 * b)

/-- Coefficient of column `t`, phase `h` of bank `b` (R165). -/
def State.coeff (s : State) (c b t h : Nat) : Int :=
  toInt 16 (s.half (lutBase c + 0xD8000 + b * 0x800 + (t * 64 + h) * 2))

/-- A filtered value: clamped to 0..65,535, and whether the clamp applied (R165). `src` reads the input at an
index, `co` the coefficient at (column, phase). -/
def filterOut (p : Int) (d t c0 : Nat) (co : Nat → Nat → Int) (src : Int → Int) (up : Bool) : Nat × Bool :=
  let w := (taps p d t).map (fun (k, u, h) => (k, co (c0 + u) h))
  let S : Int := (w.map Prod.snd).sum
  let v := if S = 0 then src (nearest p up)
           else roundTie ((w.map (fun (k, q) => q * src k)).sum) S up
  ((boundInt 0 65535 v).toNat, decide (v < 0 ∨ 65535 < v))

/-- A 10-bit component as the filter takes it (R165). -/
def expand10 (x : Nat) : Nat := x * 64 ||| x / 16

/-- Component `j` of the LB32 word of pixel `x` of the line in place `p` of crew `c`'s line buffer. -/
def State.lb32 (s : State) (c width p x j : Nat) : Nat :=
  expand10 (getBits (s.word (lineBase c + (p * width + x) * 4)) (10 * j) 10)

/-- Input lines an output line of the pass reads (R165, R166). -/
def passLines (x : Pass) (h : Nat) (y : Nat) : List Nat :=
  let p : Int := x.desc.y0 + y * x.desc.dy
  if x.dec then [edge h (nearest p false), edge h (nearest p true)]
  else ((taps p (stepD x.desc.dy) x.taps).map (fun (k, _) => edge h k)) ++
    [edge h (nearest p false), edge h (nearest p true)]

/-- Every line that output line `y` reads is in the line buffer (R166). Where the sum of the weights is 0 or
the pass decimates, the line read is the nearest one. -/
def State.linesIn (s : State) (c : Nat) (x : Pass) (y : Nat) : Bool :=
  let h := s.layerHeight x.desc.layer
  let p : Int := x.desc.y0 + y * x.desc.dy
  let ts := taps p (stepD x.desc.dy) x.taps
  let c0 := (x.desc.tv - x.taps) / 2
  let S : Int := (ts.map (fun (_, u, ph) => s.coeff c x.desc.bankv (c0 + u) ph)).sum
  let need := if x.dec ∨ S = 0 then [edge h (nearest p false), edge h (nearest p true)]
    else ts.map (fun (k, _) => edge h k)
  need.all (fun k => (s.crew c).lines.any (fun l => l.1 = k))

/-- The row of output line `y` of the open pass, and the number of clamped values (R165). -/
def State.runRow (s : State) (c : Nat) (x : Pass) (y : Nat) (up : Bool) : List (Nat × Nat × Nat) × Nat :=
  let d := x.desc
  let h := s.layerHeight d.layer
  let lines := (s.crew c).lines
  let place (k : Int) : Nat := ((lines.find? (fun l => l.1 = edge h k)).map Prod.snd).getD 0
  let p : Int := d.y0 + y * d.dy
  let c0 := (d.tv - x.taps) / 2
  let out (i j : Nat) : Nat × Bool :=
    let src (k : Int) : Int := (s.lb32 c d.width (place k) i j : Nat)
    if x.dec then ((src (nearest p up)).toNat, false)
    else filterOut p (stepD d.dy) x.taps c0 (s.coeff c d.bankv) src up
  let px := (List.range d.width).map (fun i => (out i 0, out i 1, out i 2))
  let n (b : Bool) : Nat := if b then 1 else 0
  (px.map (fun q => (q.1.1, q.2.1.1, q.2.2.1)), (px.map (fun q => n q.1.2 + n q.2.1.2 + n q.2.2.2)).sum)

/-- Output pixel `x` of the staged row, component `j` (R165, R191). -/
def State.hPixel (s : State) (c : Nat) (q : Pass) (staged : List (Nat × Nat × Nat)) (x j : Nat) (up : Bool) :
    Nat × Bool :=
  let d := q.desc
  let src (k : Int) : Int :=
    let v := staged.getD (edge d.width k) (0, 0, 0)
    ((if j = 0 then v.1 else if j = 1 then v.2.1 else v.2.2 : Nat) : Int)
  filterOut (d.x0 + x * d.dx) (stepD d.dx) d.th 0 (s.coeff c d.bankh) src up

/-! ### Requests (R147, R168) -/

/-- A request of slot (e, t) enters its crew's queue and is counted (R168, R172, R192). -/
def State.enqueue (s : State) (e t : Nat) (k : SmpKind) : State :=
  let c := e / 8
  let r : SmpReq := ⟨e, t, (s.slot e t).thr, k⟩
  let x := s.crew c
  match k with
  | .lut .. => (s.setCrew c { x with lutq := x.lutq ++ [r] }).bump (CMP_CREW_LUTREQ c)
  | _ => (s.setCrew c { x with sclq := x.sclq ++ [r] }).bump (CMP_CREW_SCLREQ c)

/-- A pass its thread reopens closes first, once the thread's earlier requests are done (R162, R189). -/
def Crew.settle (x : Crew) : Crew :=
  match x.pass with
  | none => x
  | some p =>
    match x.sclq.find? (fun r => r.eng = p.eng && r.slot = p.slot) with
    | some r =>
      match r.kind with
      | .sopen _ => { x with pass := none, lines := [], staged := [] }
      | _ => x
    | none => x

/-- The open pass of slot (e, t) (R162, R192). -/
def Crew.passOf (x : Crew) (e t : Nat) : Option Pass :=
  match x.pass with
  | some p => if p.eng = e && p.slot = t then some p else none
  | none => none

/-- A request holds its thread in SMPWAIT: an open always, a run while its lines are missing (R162, R166). -/
def State.holdsThread (s : State) (e t : Nat) (k : SmpKind) : Bool :=
  match k with
  | .sopen _ => true
  | .srun y =>
    match (s.crew (e / 8)).passOf e t with
    | some p => !s.linesIn (e / 8) p y.toNat
    | none => false
  | _ => false

/-- The request can be served now: nothing earlier of its thread waits in the queue, an open finds the scaler
free, a run finds its lines (R162, R166, R168, R191). -/
def State.servable (s : State) (c : Nat) (earlier : List SmpReq) (r : SmpReq) : Bool :=
  !earlier.any (fun q => q.eng = r.eng && q.slot = r.slot) &&
  match r.kind with
  | .sopen _ => (s.crew c).pass.isNone
  | .srun y =>
    match (s.crew c).passOf r.eng r.slot with
    | some p => s.linesIn c p y.toNat
    | none => true
  | _ => true

/-- The first request of the queue that can be served, with the queue before and after it. -/
def State.nextScl (s : State) (c : Nat) : List SmpReq → List SmpReq → Option (SmpReq × List SmpReq)
  | _, [] => none
  | seen, r :: l => if s.servable c seen r then some (r, seen ++ l) else s.nextScl c (seen ++ [r]) l

/-- The slot's blocked instruction has completed: it is READY at the next one; a stopped slot keeps that as
its PRIOR state (R148, R150). -/
def Slot.released (x : Slot) : Slot :=
  let x := { x with pc := x.pc + 8, blk := none }
  if x.st = .stopped then { x with prior := .ready } else { x with st := .ready }

/-- After one of its requests has completed, a thread held in SMPWAIT goes on: a third request is sent
(R147), an open or a run that held it has completed (R148). -/
def State.samplerWake (s : State) (e t : Nat) : State :=
  let x := s.slot e t
  match x.blk with
  | some (.third k) =>
    let held := s.holdsThread e t k
    let s := s.enqueue e t k
    let s := s.setCrew (e / 8) (s.crew (e / 8)).settle
    if held then s.setSlot e t { x with blk := some .sampler } else s.setSlot e t x.released
  | some .sampler =>
    if (s.crew (e / 8)).sclq.any (fun r => r.eng = e && r.slot = t) then s else s.setSlot e t x.released
  | _ => s

/-- Three result vectors written to vD, v(D + 1), v(D + 2) in the enabled lanes. -/
def Slot.setV3 (x : Slot) (d : Nat) (m : Half) (f : Nat → Nat → Word) : Slot :=
  (lanesOn m).foldl (fun x l => ((x.setV d l (f 0 l)).setV (d + 1) l (f 1 l)).setV (d + 2) l (f 2 l)) x

/-- A LUT3 request returns (R159, R160). -/
def State.serveLut (s : State) (c : Nat) (r : SmpReq) : State :=
  match r.kind with
  | .lut ra rb rc d m k sub big =>
    let x := s.slot r.eng r.slot
    if s.latticeReady c k sub big then
      let base := latticeBase c k sub
      let s := s.setSlot r.eng r.slot (x.setV3 d m fun j l => BitVec.ofNat 32
        (s.lattice base big j (lutIn (lget 0 ra l)) (lutIn (lget 0 rb l)) (lutIn (lget 0 rc l))))
      s.samplerWake r.eng r.slot
    else
      let s := s.setSlot r.eng r.slot (x.setV3 d m fun _ _ => 0)
      let s := s.setAll [(CMP_CREW_LUTST_MISS c, 1), (CMP_CREW_LUTST_SLOT c, k), (CMP_CREW_LUTST_SUB c, sub)]
      (s.bump (CMP_CREW_LUTMISS c)).samplerWake r.eng r.slot
  | _ => s

/-- A pass that sheds or decimates is counted and reported in its layer (R164, R257). -/
def State.reportShed (s : State) (c : Nat) (p : Pass) : State :=
  if p.taps = p.desc.tv ∧ !p.dec then s
  else
    let s := s.bump (CMP_CREW_SHED c)
    let L := p.desc.layer
    if !s.head then s
    else if p.dec then (s.set (CMP_LAYER_LBDEC L) 1).set (CMP_LAYER_TAPS L) 1
    else
      let old := s.get (CMP_LAYER_TAPS L)
      let s := s.set (CMP_LAYER_LBSHED L) 1
      if old = 0 ∨ p.taps < old then s.set (CMP_LAYER_TAPS L) p.taps else s

/-- A scaler request returns (R162, R165, R166, R191, R192). -/
def State.serveScl (s : State) (c : Nat) (r : SmpReq) : State :=
  let e := r.eng
  let t := r.slot
  let x := s.crew c
  match r.kind with
  | .sopen d =>
    let (n, dec) := passTaps d
    let p : Pass := ⟨e, t, r.thr, d, n, dec⟩
    let s := s.setCrew c { x with pass := some p, lines := [], staged := [], lastY := -1 }
    (s.reportShed c p).samplerWake e t
  | .srun y =>
    match x.passOf e t with
    | none => s.samplerWake e t
    | some p =>
      let (n, s) := s.drawNat
      let (row, clamps) := s.runRow c p y.toNat (n % 2 = 1)
      let s := s.setCrew c { x with staged := row, lastY := y.toNat }
      (s.bumpN (CMP_CREW_SCLCLP c) clamps).samplerWake e t
  | .sclose =>
    let s := s.setCrew c (if (x.passOf e t).isSome then { x with pass := none, lines := [], staged := [] } else x)
    s.samplerWake e t
  | .sclh px d m =>
    match x.passOf e t with
    | none => (s.setSlot e t ((s.slot e t).setV3 d m fun _ _ => 0)).samplerWake e t
    | some p =>
      let (n, s) := s.drawNat
      let out (j l : Nat) : Nat × Bool :=
        match x.staged with
        | [] => (Config.freeNat (n * 64 + j * 16 + l) % 65536, false)
        | row => s.hPixel c p row (px.toNat + l) j (n.testBit (j * 16 + l))
      let clamps := ((List.range 48).filter (fun i => (out (i / 16) (i % 16)).2)).length
      let s := s.setSlot e t ((s.slot e t).setV3 d m fun j l => BitVec.ofNat 32 (out j l).1)
      (s.bumpN (CMP_CREW_SCLCLP c) clamps).samplerWake e t
  | _ => s

/-- One sampler of crew `c` completes a request (R168). -/
def State.samplerReturn (s : State) (c : Nat) (lut : Bool) : State :=
  let x := s.crew c
  if lut then
    match x.lutq with
    | [] => s
    | r :: l => (s.setCrew c { x with lutq := l }).serveLut c r
  else
    let s := s.setCrew c x.settle
    match s.nextScl c [] x.sclq with
    | none => s
    | some (r, l) =>
      let s := s.setCrew c { s.crew c with sclq := l }
      let s := s.serveScl c r
      s.setCrew c (s.crew c).settle

/-- SAMPLER_RETURN of crew `c`, from its LUT3 unit or its scaler (R168). -/
def execSamplerReturn (c : Nat) (lut : Bool) (s : State) : Host.Outcome State Fault Refusal :=
  settled (if s.ready && s.crewOn c then s.samplerReturn c lut else s)

/-! ### Lattice commands (R161) -/

/-- A lattice command is refused: SUB 7, LOCK, a 33^3 command with a sub-index, or a conflicting size. -/
def State.lutRefused (s : State) (c slot sub size : Nat) (sizes : Bool) : Bool :=
  sub = 7 || s.bit (CMP_CREW_LUTSLOT_LOCK c slot) || (size = 1 && sub ≠ 0) ||
  (sizes && s.get (CMP_CREW_LUTSLOT_LOADED c slot) ≠ 0 && s.get (CMP_CREW_LUTSLOT_SIZE c slot) ≠ size)

/-- LOADED bit of a sub-index. -/
def State.setLoaded (s : State) (c slot sub : Nat) (on : Bool) : State :=
  let m := s.get (CMP_CREW_LUTSLOT_LOADED c slot)
  s.set (CMP_CREW_LUTSLOT_LOADED c slot)
    (if m.testBit sub = on then m else if on then m + 2 ^ sub else m - 2 ^ sub)

/-- The command word of LUTCMD. -/
def lutWord (op slot sub size : Nat) : Nat := op + 16 * (slot % 4) + 64 * (sub % 8) + 512 * (size % 2)

/-- LUTCMD `op` on crew `c`; a crew unpowered in the role takes no write (R16, R143). -/
def State.lutCommand (s : State) (c op slot sub size : Nat) (f : State → Nat → Nat → Nat → State) : State :=
  if !s.crewOn c then s.answer rUNPWR
  else s.command (CMP_CREW_LUTCMD c) (lutWord op slot sub size) fun s =>
    if s.lutRefused c (slot % 4) (sub % 8) (size % 2) (op ≠ 2) then s.setStat (CMP_CREW_LUTCMD c) stREFUSED
    else f s (slot % 4) (sub % 8) (size % 2)

/-- LUTCMD LOAD: the copy starts; the position reads as not loaded until it completes (R161, R188). A source
that DRAM does not hold fails (log entry 13). -/
def State.lutLoad (s : State) (c slot sub size : Nat) : State :=
  s.lutCommand c 1 slot sub size fun s k u z =>
    if !s.dramUp || decide (s.dramBytes < pageOff (s.rd (CMP_CREW_LUTSRC c)) + latticeBytes (z = 1)) then
      s.setStat (CMP_CREW_LUTCMD c) stFAILED
    else
      let s := (s.setLoaded c k u false).setCrew c { s.crew c with loading := some (k, u, z) }
      s.setStat (CMP_CREW_LUTCMD c) stBUSY

def execLutLoad (c slot sub size : Nat) (s : State) : Host.Outcome State Fault Refusal :=
  settled (if s.running then s.lutLoad c slot sub size else s)

/-- The LOAD of crew `c` completes (R161). -/
def State.lutLoadDone (s : State) (c : Nat) : State :=
  match (s.crew c).loading with
  | none => s
  | some (k, u, z) =>
    let (l, s) := s.dramRead (pageOff (s.rd (CMP_CREW_LUTSRC c))) (latticeBytes (z = 1))
    let s := s.putBytes (latticeBase c k u) l
    let s := (s.set (CMP_CREW_LUTSLOT_SIZE c k) z).setLoaded c k u true
    (s.setCrew c { s.crew c with loading := none }).setStat (CMP_CREW_LUTCMD c) stDONE

def execLutLoadDone (c : Nat) (s : State) : Host.Outcome State Fault Refusal :=
  settled (if s.running && s.crewOn c then s.lutLoadDone c else s)

/-- LUTCMD UNLOAD (R161). -/
def State.lutUnload (s : State) (c slot sub size : Nat) : State :=
  s.lutCommand c 2 slot sub size fun s k u _ => (s.setLoaded c k u false).setStat (CMP_CREW_LUTCMD c) stDONE

def execLutUnload (c slot sub : Nat) (s : State) : Host.Outcome State Fault Refusal :=
  settled (if s.running then s.lutUnload c slot sub 0 else s)

/-- LUTCMD MARK (R161). -/
def State.lutMark (s : State) (c slot sub size : Nat) : State :=
  s.lutCommand c 3 slot sub size fun s k u z =>
    ((s.set (CMP_CREW_LUTSLOT_SIZE c k) z).setLoaded c k u true).setStat (CMP_CREW_LUTCMD c) stDONE

def execLutMark (c slot sub size : Nat) (s : State) : Host.Outcome State Fault Refusal :=
  settled (if s.running then s.lutMark c slot sub size else s)

end Sys2Proof.Machine
end

