-- ==== Sys2Proof/Machine/Fw.lean ====
section
/-! DEFINITION. What tile firmware does with the flumes it consumes (R215, R368, R370). -/

namespace Sys2Proof.Machine

def State.fwSet (s : State) (f : FwSt → FwSt) : State := { s with fw := f s.fw }

/-- The slot of sequence `q` is committed: its CMT, or the section commit (R17, R370). -/
def State.fwCommit (s : State) (q : Nat) : State :=
  s.fwSet fun x => { x with cmts := if x.cmts.contains q then x.cmts else x.cmts ++ [q] }

/-- A completion entry (R368): a success counts the slice as done (R370). -/
def State.fwDone (s : State) (e : FEntry) : State :=
  let q := getBits e.w0 0 16
  let i := getBits e.w0 16 4
  if getBits e.w0 20 1 = 0 then s
  else s.fwSet fun x =>
    let l := match x.dones.find? (fun d => d.1 = q) with | some d => d.2 | none => []
    { x with dones := (x.dones.filter (fun d => d.1 ≠ q)) ++ [(q, if l.contains i then l else l ++ [i])] }

/-- Firmware consumes flume `f` (R215, R368): the commits of a tile, and the completions of the own-tile contexts. -/
def State.fwOwns (s : State) (f : Nat) : Bool :=
  (!s.head && f = 11) || ((!s.head || s.lampSide) && decide (f < 256) && f % 16 = 12)

/-- Firmware takes what has become visible on flume `f`, if it consumes it (R215). -/
def State.fwService (s : State) (f : Nat) : State :=
  if !s.fwOwns f then s
  else
    let l := (s.flume f).vis
    let s := s.setFlume f { s.flume f with vis := [] }
    l.foldl (fun s e => if f = 11 then s.fwCommit (getBits e.w0 0 16) else s.fwDone e) s

/-- Every flume firmware consumes. -/
def State.fwDrain (s : State) : State :=
  (11 :: (List.range 16).map (fun c => 16 * c + 12)).foldl (fun s f => s.fwService f) s

end Sys2Proof.Machine
end

