-- ==== Sys2Proof/Machine/Time.lean ====
section
/-! DEFINITION. Wall time (R27, R28), the slot grid and the grey-scale clock (R50, R51, R57, R549), PPS and
media clocks (R58, R59, R542), and the tick of an idle unit. -/

namespace Sys2Proof.Machine

/-! ### The slot grid (R50, R51, R57) -/

/-- The grid of the four registers. -/
def State.grid (s : State) : GridSet :=
  ⟨s.get TMU_RATE_NUM, s.get TMU_RATE_DEN_DEN, s.get TMU_SLOTS_SLOTS, s.get TMU_GSCLK_CYC⟩

/-- The four registers set to a grid. -/
def State.setGrid (s : State) (g : GridSet) : State :=
  s.setAll [(TMU_RATE_NUM, g.num), (TMU_RATE_DEN_DEN, g.den), (TMU_SLOTS_SLOTS, g.slots), (TMU_GSCLK_CYC, g.cyc)]

/-- A grid that R51 and R57 allow: 23.976-240 Hz, at most 480 slots/s, S 1-8, 200-333 MHz. -/
def GridSet.ok (g : GridSet) : Bool :=
  decide (g.den ≠ 0 ∧ 23976 * g.den ≤ g.num * 1000 ∧ g.num ≤ 240 * g.den ∧ 1 ≤ g.slots ∧ g.slots ≤ 8 ∧
    g.num * g.slots ≤ 480 * g.den ∧ 200000000 * g.den ≤ g.cyc * g.num * g.slots ∧
    g.cyc * g.num * g.slots ≤ 333000000 * g.den)

/-- T(j), truncated to 2^-16 ns, as a wall time (R50). -/
def launchTime (g : GridSet) (j : Nat) : Nat :=
  j * g.den * 10 ^ 9 * 2 ^ 16 / (g.num * g.slots) * 2 ^ 16

/-- The last slot whose launch time is at or before wall time `w` (R50). -/
def slotAt (g : GridSet) (w : Nat) : Nat :=
  ((w / 2 ^ 16 + 1) * (g.num * g.slots) - 1) / (g.den * 10 ^ 9 * 2 ^ 16)

/-- The first slot whose launch time is at or after wall time `w`. -/
def nextSlot (g : GridSet) (w : Nat) : Nat := if w = 0 then 0 else slotAt g (w - 1) + 1

/-- `p` grey-scale cycles as a span of wall time (R57). -/
def cyclesTime (g : GridSet) (p : Nat) : Nat := p * g.den * wSec / (g.num * g.slots * g.cyc)

/-- The scan start S(j) for phase offset `p` (R549). -/
def scanStart (g : GridSet) (j p : Nat) : Nat := launchTime g j + cyclesTime g p

/-- The grey-scale cycle count c at wall time `w` of a slot with scan start `st` (R57). -/
def cycleAt (g : GridSet) (w st : Nat) : Nat := (w - st) * (g.num * g.slots * g.cyc) / (g.den * wSec)

/-- One slot period as wall time. -/
def slotPeriod (g : GridSet) : Nat := g.den * wSec / (g.num * g.slots)

/-- Servo states of TMU_SRV_STAT.STATE (R35). -/
abbrev svFREE : Nat := 0
abbrev svACQUIRE : Nat := 1
abbrev svLOCKED : Nat := 2
abbrev svHOLDOVER : Nat := 3
abbrev svREJECT : Nat := 4

/-- The servo's state. -/
def State.servo (s : State) : Nat := s.get TMU_SRV_STAT_STATE

/-- The slot grid runs in LOCKED, HOLDOVER and REJECT (R35). -/
def State.gridRuns (s : State) : Bool := decide (svLOCKED ≤ s.servo)

/-- The time unit's hidden state updated. -/
def State.tmSet (s : State) (f : TimeSt → TimeSt) : State := { s with tm := f s.tm }

/-- The lead in force, slots (R266). -/
def State.leadN (s : State) : Nat := s.get CMP_PACE_LEAD + s.get CMP_PACE_WALLCMT

/-- Pacing starts with the first slot whose pacing tick lies at or after wall time `w` (R36). -/
def State.paceFrom (s : State) (w : Nat) : State :=
  if s.head then { s with cmp := { s.cmp with next := some (nextSlot s.grid w + s.leadN) } } else s

/-- The slot grid starts in a head: the registers are checked together, and a set that breaks R51 gives way to
the last set that passed (R51). The first slot to launch is the next one. -/
def State.gridStart (s : State) : State :=
  let s := if !s.head then s
    else if s.grid.ok then s.tmSet fun t => { t with goodGrid := s.grid }
    else (s.setGrid s.tm.goodGrid).set TMU_SRV_STAT_GRIDBAD 1
  (s.tmSet fun t => { t with nextJ := nextSlot s.grid s.tm.wall }).paceFrom (s.tm.wall + slotPeriod s.grid)

/-- A grid change not yet in effect is discarded (R36, R47). -/
def State.gridDrop (s : State) : State := s.tmSet fun t => { t with gridPend := none, gridAnn := false }

/-- The slot grid stops: a grid change not yet in effect is discarded, no pacing tick is posted (R36), and scan-out
stops with its lamps dark (R340). -/
def State.gridStop (s : State) : State :=
  let s : State := { s with cmp := { s.cmp with next := none }, ldu := { s.ldu with cur := none, flips := [], on := [] } }
  s.gridDrop.set LDU_STAT_LIT 0

/-! ### Media clocks (R59) -/

/-- Frequency of a TMU_MCLK selection [3:0], Hz; 0 off. -/
def mclkHz (sel : Nat) : Nat :=
  let f := match sel % 8 with | 1 => 44100 | 2 => 48000 | 3 => 96000 | 4 => 192000 | _ => 0
  if 8 ≤ sel % 16 then 256 * f else f

/-- Half periods of frequency `f` since the PTP epoch at wall time `w`. -/
def halfPeriods (f w : Nat) : Nat := w * 2 * f / wSec

/-- A clock of frequency `f` is in its high phase at `w`: rising edges fall at n / f (R59). -/
def clockHigh (f w : Nat) : Bool := decide (0 < f ∧ halfPeriods f w % 2 = 0)

/-- The level of MCLK_OUT`n`: after a change the present high phase completes, the output holds low, and it
resumes at the first edge of the new rate (R59). Held low in FREE and ACQUIRE (R58). -/
def State.mclkOut (s : State) (n : Nat) : Bool :=
  let sel := s.get (TMU_MCLK_FS n) + 8 * s.get (TMU_MCLK_X256 n)
  let c := lget (0, 0) s.tm.mclkChg n
  let f := mclkHz sel
  let f0 := mclkHz c.1
  let w := s.tm.wall
  s.gridRuns &&
  (if clockHigh f0 c.2 && halfPeriods f0 c.2 = halfPeriods f0 w then true
   else
     let free := if clockHigh f0 c.2 then ((halfPeriods f0 c.2 + 1) * wSec + (2 * f0 - 1)) / (2 * f0) else c.2
     decide (free ≤ w) && clockHigh f w && decide ((halfPeriods f free + 1) / 2 * 2 ≤ halfPeriods f w))

/-- TMU_MCLK`n` [3:0] set (R59). -/
def State.setMclk (s : State) (n v : Nat) : State :=
  let old := s.get (TMU_MCLK_FS n) + 8 * s.get (TMU_MCLK_X256 n)
  let s := if old = v % 16 then s
    else s.tmSet fun t => { t with mclkChg := lset t.mclkChg n (old, s.tm.wall) }
  (s.set (TMU_MCLK_FS n) (v % 8)).set (TMU_MCLK_X256 n) (v / 8 % 2)

/-! ### Reading time (R28, R542) -/

/-- A read of TMU_TIME_NS latches the seconds of the same instant (R28). -/
def State.readTime (s : State) : State :=
  let w := s.tm.wall
  ((s.wr TMU_TIME_NS (BitVec.ofNat 32 (wallNs w))).wr TMU_TIME_SL (BitVec.ofNat 32 (wallSec w))).wr
    TMU_TIME_SH (BitVec.ofNat 32 (wallSec w / 2 ^ 32 % 2 ^ 16))

/-- TIME_NS_READ (R28). -/
def execTimeNsRead (s : State) : Host.Outcome State Fault Refusal :=
  settled (if s.running then s.readTime else s)

/-- A read of TMU_PPSIN_NS latches the seconds of the same edge (R542). -/
def State.readPpsIn (s : State) : State := s.wr TMU_PPSIN_SL (BitVec.ofNat 32 s.tm.ppsSec)

/-- PPSIN_NS_READ (R542). -/
def execPpsinNsRead (s : State) : Host.Outcome State Fault Refusal :=
  settled (if s.running then s.readPpsIn else s)

/-! ### PPS (R58, R542) -/

/-- The whole second at or before wall time `w`. -/
def secondStart (w : Nat) : Nat := w / wSec * wSec

/-- PPS_OUT rises at a whole second and stays high for WIDTH ms (R58). -/
def State.ppsPulse (s : State) : State :=
  { s with pins := { s.pins with ppsOut := true
                                 ppsEnd := secondStart s.tm.wall + s.get TMU_PPS_WIDTH * 10 ^ 6 * wNs } }

/-- PPS_OUT_PULSE (R58): enabled, the slot grid's states, and the second's pulse not yet given. -/
def execPpsOutPulse (s : State) : Host.Outcome State Fault Refusal :=
  settled (if s.running && s.bit TMU_PPS_EN && s.gridRuns && decide (s.pins.ppsEnd ≤ secondStart s.tm.wall) &&
      decide (s.tm.wall < secondStart s.tm.wall + s.get TMU_PPS_WIDTH * 10 ^ 6 * wNs) then s.ppsPulse else s)

/-- PPS_IN_EDGE: timestamped unless less than 1 us after the previous accepted edge (R58, R542). -/
def State.ppsEdge (s : State) : State :=
  (s.wr TMU_PPSIN_NS (BitVec.ofNat 32 (wallNs s.tm.wall))).tmSet fun t =>
    { t with ppsLast := s.now + 1, ppsSec := wallSec s.tm.wall }

def execPpsInEdge (s : State) : Host.Outcome State Fault Refusal :=
  settled (if s.running && (s.tm.ppsLast = 0 || decide (s.tm.ppsLast + 999 ≤ s.now)) then s.ppsEdge else s)

/-! ### Idle (log entry 16) -/

/-- One TMU cycle of 1 ns: wall time advances by 1 ns plus the servo's correction, exactly (R27, R34), and a
PPS_OUT pulse whose width has passed ends (R58). -/
def State.tick (s : State) : State :=
  if s.phase = .held then { s with now := s.now + 1 }
  else
    let a := s.tm.acc + s.tm.f
    let w := ((s.tm.wall : Int) + 2 ^ 32 + a / 10 ^ 9) % (wMod : Int)
    let s : State := { s with now := s.now + 1, tm := { s.tm with wall := w.toNat, acc := a % 10 ^ 9 } }
    if s.pins.ppsOut && (!s.gridRuns || decide (s.pins.ppsEnd ≤ s.tm.wall)) then
      { s with pins := { s.pins with ppsOut := false } }
    else s

end Sys2Proof.Machine
end

