-- ==== Sys2Proof/Machine/Servo.lean ====
section
/-! DEFINITION. The servo (R30, R33-R44): samples, states, commands, PTP master selection and the peer path. -/

namespace Sys2Proof.Machine

/-! ### The PI servo (R34) -/

/-- FMAX in 2^-32 ppb (R34). -/
abbrev fMax : Int := 100000 * 2 ^ 32

/-- The slew limit in 2^-32 ppb (R34, R40). -/
def State.slewLimit (s : State) : Int := s.get TMU_SRV_CFG_SLEW * 2000 * 2 ^ 32

/-- The correction in force set, and read in TMU_SRV_FREQ rounded to 1/256 ppb (R34). -/
def State.setFreq (s : State) (f : Int) : State :=
  (s.tmSet fun t => { t with f := f }).wr TMU_SRV_FREQ (BitVec.ofNat 32 (ofInt 32 (roundDiv f (2 ^ 24))))

/-- A sample fed to the servo under limit `lim` (R34). -/
def State.feed (s : State) (e lim : Int) : State :=
  let p := roundDiv ((s.rd TMU_SRV_KP).toNat * e) (2 ^ 24)
  let i := s.tm.i + roundDiv ((s.rd TMU_SRV_KI).toNat * e) (2 ^ 24)
  let u := -(p + i)
  if lim < u.natAbs then
    let s := s.setFreq (if u < 0 then -lim else lim)
    if fMax < u.natAbs then s.set TMU_SRV_STAT_SRVSAT 1 else s
  else (s.tmSet fun t => { t with i := i }).setFreq u

/-- f held at -i (R35). -/
def State.holdFreq (s : State) : State := s.setFreq (-s.tm.i)

/-! ### States (R35) -/

/-- What a servo operation changed is notified: a new state, or a flag that became set (R441). -/
def State.servoNotify (s : State) (old : Word) : State :=
  let v := s.rd TMU_SRV_STAT
  let fl (w : Word) : Word := w &&& 0x87E0#32
  if getBits v 0 3 ≠ getBits old 0 3 ∨ fl v &&& ~~~ fl old ≠ 0 then s.notify nSERVO (v.toNat % 2 ^ 11) else s

/-- An operation on the servo, with its notification. -/
def State.servoOp (s : State) (f : State → State) : State := (f s).servoNotify (s.rd TMU_SRV_STAT)

/-- A pending step is withdrawn (R35, R41). -/
def State.stepDrop (s : State) : State :=
  (s.tmSet fun t => { t with step := none, stepAnn := false }).set TMU_SRV_STAT_STEPPEND 0

/-- The servo enters state `st`. Leaving REJECT ends a slew and withdraws a step; entering HOLDOVER or REJECT
holds f; the slot grid starts or stops with the state (R35, R36). -/
def State.enter (s : State) (st : Nat) : State :=
  let old := s.servo
  let ran := s.gridRuns
  let s := s.set TMU_SRV_STAT_STATE st
  let s := if old = svREJECT ∧ st ≠ svREJECT then (s.set TMU_SRV_STAT_SLEWING 0).stepDrop else s
  let s := if st = svLOCKED then s.tmSet fun t => { t with refCnt := 0 } else s
  let s := if st = svHOLDOVER ∨ st = svREJECT then s.holdFreq else s
  if !ran && s.gridRuns then s.gridStart else if ran && !s.gridRuns then s.gridStop else s

/-- The servo in FREE with f = 0 and i = 0: at every start and on entry to HALT (R35). -/
def State.servoFree (s : State) : State :=
  let s := s.setAll [(TMU_SRV_STAT_HELD, 0), (TMU_SRV_STAT_SLEWING, 0)]
  let s := s.stepDrop
  let s := s.tmSet fun t => { t with i := 0, acqFirst := true, lockCnt := 0, refCnt := 0, skip := 0, slewPeer := false }
  (s.enter svFREE).setFreq 0

/-- The first sample instant of the loop engine, every 10 us, after wall time `w` (R386). -/
def nextInstant (w : Nat) : Nat := (w / (10000 * wNs) + 1) * (10000 * wNs)

/-- Wall time changed by `d` (R35, R41): loop-engine instants follow it as it reads, outputs not yet delivered are
delivered at the step (R386), and the slot being scanned goes on (R41). -/
def State.shiftWall (s : State) (d : Int) : State :=
  let w := (((s.tm.wall : Int) + d) % (wMod : Int)).toNat
  let s := s.tmSet fun t => { t with wall := w }
  { s with
    lpe := { s.lpe with next := nextInstant w, outs := s.lpe.outs.map fun o => (0, o.2) }
    ldu := { s.ldu with cur := s.ldu.cur.map fun c => { c with at0 := ((c.at0 : Int) + d).toNat } } }

/-- A lock count: consecutive samples below LTHR; 16 of them give `f` (R35, R40). -/
def State.countLock (s : State) (small : Bool) (f : State → State) : State :=
  let n := if small then s.tm.lockCnt + 1 else 0
  if 16 ≤ n then f (s.tmSet fun t => { t with lockCnt := 0 }) else s.tmSet fun t => { t with lockCnt := n }

/-- A refused sample (R38); one in REJECT counts too, unless a slew feeds it (R40; log entry 137). -/
def State.refuseSample (s : State) : State :=
  ((s.bump TMU_JREF).set TMU_SRV_STAT_JREF 1).tmSet fun t => { t with refCnt := t.refCnt + 1 }

/-- An offset in 2^-32 ns as it reads in 1/16 ns, rounded to nearest (log entry 17); a value the register
cannot hold is free (log entry 18). -/
def State.offsetWord (s : State) (e : Int) : Word × State :=
  let v := (e + 2 ^ 27) / 2 ^ 28
  if -2 ^ 31 ≤ v ∧ v < 2 ^ 31 then (BitVec.ofNat 32 (ofInt 32 v), s) else s.draw

/-- The sample `e`, 2^-32 ns, is measured: it is the last sample, and the source is alive (R34, R35). -/
def State.measure (s : State) (e : Int) : State :=
  let (v, s) := s.offsetWord e
  (s.wr TMU_SRV_OFS v).tmSet fun t => { t with e := e, lastSample := s.now }

/-- A measured sample in its servo state (R35, R38, R40, R44). -/
def State.useSample (s : State) (e : Int) : State :=
  let big := decide (s.get TMU_SRV_CFG_JTHR * wNs < e.natAbs)
  let small := decide (e.natAbs < s.get TMU_SRV_CFG_LTHR * wNs)
  let s := if s.servo = svFREE then s.enter svACQUIRE else s
  if s.servo = svACQUIRE then
    if s.tm.acqFirst || big then
      (s.tmSet fun t => { t with acqFirst := false, lockCnt := 0 }).shiftWall (-e)
    else (s.feed e fMax).countLock small (fun s => s.enter svLOCKED)
  else if s.bit TMU_SRV_STAT_HELD then s
  else if s.servo = svREJECT then
    if s.bit TMU_SRV_STAT_SLEWING then
      (s.feed e s.slewLimit).countLock small (fun s => s.enter svLOCKED)
    else if big then s.refuseSample else s
  else if s.tm.slewPeer then
    let s := if s.servo = svHOLDOVER then s.enter svLOCKED else s
    (s.feed e s.slewLimit).countLock small (fun s => s.tmSet fun t => { t with slewPeer := false })
  else if big then
    let s := s.refuseSample
    if s.servo = svHOLDOVER ∨ max 1 (s.get TMU_SRV_CFG_JCNT) ≤ s.tm.refCnt then s.enter svREJECT else s
  else
    let s := s.tmSet fun t => { t with refCnt := 0 }
    let s := if s.servo = svHOLDOVER then s.enter svLOCKED else s
    s.feed e fMax

/-- A valid sample: the first ones after a grandmaster change are only measured (R39). -/
def State.sampleIn (s : State) (e : Int) : State :=
  s.servoOp fun s =>
    let s := s.measure e
    if 0 < s.tm.skip then s.tmSet fun t => { t with skip := t.skip - 1 } else s.useSample e

/-- Samples are taken above HALT (R35, R486). -/
def State.samples (s : State) : Bool := s.running && decide (psSTANDBY ≤ s.power)

/-! ### PTP (R30, R33, R39) -/

/-- SRC codes (R60). -/
abbrev srcPTP : Nat := 0
abbrev srcPEER : Nat := 1
abbrev srcTIM : Nat := 2

/-- Path delay: the mean of the last 2^DLYAVG values of d_raw, in 2^-32 ns (R33); of those there are while
fewer have been measured (log entry 17). -/
def meanDelay (l : List Int) : Int := roundDiv (l.sum * 2 ^ 15) (max 1 l.length)

/-- An exchange on the selected port (R33): times in 2^-16 ns. A head fed by its peer only measures its PTP
offset (R43). -/
def State.ptpSample (s : State) (t1 t2 t3 t4 cs cd : Int) : State :=
  let n := 2 ^ min 6 (s.get TMU_PTP_CFG_DLYAVG)
  let l := (((t2 - t1 - cs) + (t4 - t3 - cd)) :: s.tm.dRaw).take n
  let s := s.tmSet fun t => { t with dRaw := l }
  let asym := toInt 32 (s.rd (TMU_TSCOR (s.get TMU_SRV_STAT_PORT))).toNat
  let e := (t2 - t1 - cs) * 2 ^ 16 - meanDelay l - asym * 2 ^ 28
  if s.get TMU_SRV_STAT_SRC = srcPTP then s.sampleIn e
  else
    let (v, s) := s.offsetWord e
    let s := s.wr TMU_PEER_OFS v
    if s.get TMU_PEER_AGREE * wNs < e.natAbs then s.servoOp fun s => s.set TMU_SRV_STAT_PTPDEV 1 else s

/-- SERVO_SAMPLE (R33, R34): a Sync exchange of the selected port of a head. -/
def execServoSample (t1 t2 t3 t4 cs cd : Int) (s : State) : Host.Outcome State Fault Refusal :=
  settled (if s.head && s.samples && s.tm.sel.isSome then s.ptpSample t1 t2 t3 t4 cs cd else s)

/-- Receipt timeout of a master's announces, local ns (R29, R35). -/
def State.announceTimeout (s : State) (m : Master) : Nat :=
  let i : Int := m.logInt
  s.get TMU_PTP_CFG_ARTO * (if 0 ≤ i then 10 ^ 9 * 2 ^ i.toNat else 10 ^ 9 / 2 ^ (-i).toNat)

/-- The better of two masters: IEEE 1588 orders data sets, which the announce gives as a rank; equal ranks by
grandmaster and port (log entry 19). -/
def betterMaster (a b : Master) : Bool :=
  decide (a.rank < b.rank ∨ (a.rank = b.rank ∧ (a.gm < b.gm ∨ (a.gm = b.gm ∧ a.port ≤ b.port))))

/-- The best master of a list. -/
def bestMaster (l : List Master) : Option Master :=
  l.foldl (fun b m => match b with | none => some m | some c => if betterMaster c m then some c else some m) none

/-- A change of the selected grandmaster, or of its port (R30, R39). -/
def State.gmChange (s : State) : State :=
  let s := (s.bump TMU_GMCHG).set TMU_SRV_STAT_GMCHG 1
  s.tmSet fun t => { t with skip := s.get TMU_SRV_CFG_GMSKIP, dRaw := [] }

/-- Best master clock selection over the announces heard within their timeouts (R30). -/
def State.selectMaster (s : State) : State :=
  let l := s.tm.masters.filter fun m => decide (s.now < m.heard + s.announceTimeout m)
  let s := s.tmSet fun t => { t with masters := l }
  match bestMaster l with
  | none => s
  | some m =>
    let changed := match s.tm.sel with | none => false | some c => c.gm ≠ m.gm || c.port ≠ m.port
    let s := (s.tmSet fun t => { t with sel := some m }).set TMU_SRV_STAT_PORT m.port
    if changed then s.gmChange else s

/-- An Announce of grandmaster `gm` on Ethernet port `port` (R30). -/
def State.announce (s : State) (port gm rank : Nat) (logInt : Int) : State :=
  s.servoOp fun s =>
    let m : Master := ⟨port, gm, rank, logInt, s.now⟩
    (s.tmSet fun t => { t with masters := m :: t.masters.filter fun c => c.gm ≠ gm || c.port ≠ port }).selectMaster

/-- PTP_ANNOUNCE_RX (R29, R30): on a port enabled for PTP, within the profile's interval range. -/
def execPtpAnnounceRx (port gm rank : Nat) (logInt : Int) (s : State) : Host.Outcome State Fault Refusal :=
  settled (if s.head && s.samples && decide (port < 4) && (s.get TMU_PTP_CFG_PORTS).testBit port &&
      decide (-3 ≤ logInt ∧ logInt ≤ 1) then s.announce port gm rank logInt else s)

/-- A beacon interval of code `per`, local ns (R45). -/
def beaconNs (per : Nat) : Nat := 125000 * 2 ^ per

/-- The timeout of the source that feeds the servo, local ns (R35). -/
def State.sourceTimeout (s : State) : Nat :=
  if s.get TMU_SRV_STAT_SRC = srcPTP then
    match s.tm.sel with | some m => s.announceTimeout m | none => 0
  else 4 * beaconNs s.tm.peerPer

/-- SERVO_TIMEOUT (R35): in LOCKED, no valid sample for the timeout. -/
def execServoTimeout (s : State) : Host.Outcome State Fault Refusal :=
  settled (if s.samples && s.servo = svLOCKED && decide (s.tm.lastSample + s.sourceTimeout ≤ s.now) then
      s.servoOp (fun s => s.enter svHOLDOVER) else s)

/-! ### The peer path (R42-R44) -/

/-- The servo's source changes under the rules of SLEW, without a step (R44). -/
def State.changeSource (s : State) (src : Nat) : State :=
  (s.set TMU_SRV_STAT_SRC src).tmSet fun t => { t with slewPeer := true, lockCnt := 0, lastSample := s.now }

/-- PEER_TIM_LOST (R44): no peer TIM for 4 beacon intervals. -/
def execPeerTimLost (s : State) : Host.Outcome State Fault Refusal :=
  settled (if s.head && s.samples && s.get TMU_SRV_STAT_SRC = srcPEER &&
      decide (s.tm.lastPeer + 4 * beaconNs s.tm.peerPer ≤ s.now) then
      s.servoOp (fun s => (s.set TMU_SRV_STAT_PEERLOST 1).changeSource srcPTP) else s)

/-- A write of TMU_PEER chooses the source: a head that is not the reference follows its peer (R42). -/
def State.peerWritten (s : State) : State :=
  if !s.head then s
  else if s.bit TMU_PEER_EN && s.get GLB_STRAP_HEADNUM ≠ s.get TMU_PEER_REFHEAD then
    if s.get TMU_SRV_STAT_SRC = srcPEER then s
    else (s.set TMU_SRV_STAT_SRC srcPEER).tmSet fun t => { t with lastPeer := s.now }
  else s.set TMU_SRV_STAT_SRC srcPTP

/-! ### TMU_CMD (R35, R37, R40, R41) -/

/-- TMU_CMD `op`; `ok` is the condition under which it is accepted (R35). -/
def State.tmuCommand (s : State) (op : Nat) (ok : State → Bool) (f : State → State) : State :=
  s.command TMU_CMD op fun s =>
    if ok s then (s.servoOp f).setStat TMU_CMD stDONE else s.setStat TMU_CMD stREFUSED

/-- A slew or a step is in progress. -/
def State.remedy (s : State) : Bool := s.bit TMU_SRV_STAT_SLEWING || s.bit TMU_SRV_STAT_STEPPEND

/-- ACQUIRE: refused in SHOW (R35, R37). -/
def State.tmuAcquire (s : State) : State :=
  s.tmuCommand 1 (fun s => s.power ≠ psSHOW) fun s =>
    let s := s.setAll [(TMU_SRV_STAT_HELD, 0), (TMU_SRV_STAT_SLEWING, 0)]
    (s.stepDrop.tmSet fun t => { t with acqFirst := true, lockCnt := 0, slewPeer := false }).enter svACQUIRE

def execServoAcquire (s : State) : Host.Outcome State Fault Refusal :=
  settled (if s.running then s.tmuAcquire else s)

/-- SLEW: in REJECT with no slew and no step in progress, and a slew limit (R35, R40). -/
def State.tmuSlew (s : State) : State :=
  s.tmuCommand 2 (fun s => s.servo = svREJECT && !s.remedy && s.get TMU_SRV_CFG_SLEW ≠ 0) fun s =>
    (s.set TMU_SRV_STAT_SLEWING 1).tmSet fun t => { t with lockCnt := 0 }

def execServoSlew (s : State) : Host.Outcome State Fault Refusal :=
  settled (if s.running then s.tmuSlew else s)

/-- The first base-frame boundary of the grid at least 20 ms after wall time `w` (R41). -/
def frameAfter (g : GridSet) (w : Nat) : Nat :=
  launchTime g ((nextSlot g (w + 20 * 10 ^ 6 * wNs) + g.slots - 1) / g.slots * g.slots)

/-- STEP: the step of -e, e the last sample, waits for its boundary (R35, R41). -/
def State.tmuStep (s : State) : State :=
  s.tmuCommand 3 (fun s => s.servo = svREJECT && !s.remedy) fun s =>
    (s.tmSet fun t => { t with step := some (-t.e, frameAfter s.grid t.wall), stepAnn := false }).set
      TMU_SRV_STAT_STEPPEND 1

def execServoStep (s : State) : Host.Outcome State Fault Refusal :=
  settled (if s.running then s.tmuStep else s)

/-- HOLD: in LOCKED, HOLDOVER, REJECT (R35). -/
def State.tmuHold (s : State) : State :=
  s.tmuCommand 5 (fun s => s.gridRuns) fun s =>
    ((s.set TMU_SRV_STAT_SLEWING 0).stepDrop.set TMU_SRV_STAT_HELD 1).enter svHOLDOVER

def execServoHold (s : State) : Host.Outcome State Fault Refusal :=
  settled (if s.running then s.tmuHold else s)

/-- RESUME: in HOLDOVER with HELD = 1 (R35). -/
def State.tmuResume (s : State) : State :=
  s.tmuCommand 6 (fun s => s.servo = svHOLDOVER && s.bit TMU_SRV_STAT_HELD) fun s => s.set TMU_SRV_STAT_HELD 0

def execServoResume (s : State) : Host.Outcome State Fault Refusal :=
  settled (if s.running then s.tmuResume else s)

end Sys2Proof.Machine
end

