-- ==== Sys2Proof/Machine/Link.lean ====
section
/-! DEFINITION. Skidline frames and their queues: the header, CRCs and checks (R287-R291), what a unit
originates (R301, R443), the choice of port, credits (R302, R303) and the sending of the next frame (R304,
R306). -/

namespace Sys2Proof.Machine

/-! ### Frame fields (R288, R291) -/

/-- Frame types (R290). -/
abbrev fPIX : Nat := 1
abbrev fCMT : Nat := 2
abbrev fCTL : Nat := 3
abbrev fACK : Nat := 4
abbrev fTIM : Nat := 5
abbrev fHBT : Nat := 6
abbrev fDIG : Nat := 7
abbrev fIMG : Nat := 8
abbrev fDIS : Nat := 9

/-- `n` bytes from position `o`. -/
def slice (l : List Byte) (o n : Nat) : List Byte := (l.drop o).take n

/-- A little-endian number of `n` bytes at position `o`. -/
def numAt (l : List Byte) (o n : Nat) : Nat := leNat (slice l o n)

/-- Bytes `new` put over those from position `o`. -/
def putAt (l : List Byte) (o : Nat) (new : List Byte) : List Byte :=
  l.take o ++ new ++ l.drop (o + new.length)

/-- `n` zero bytes. -/
def zeros (n : Nat) : List Byte := List.replicate n 0#8

/-- Bytes filled with zeros to `n`. -/
def padTo (n : Nat) (l : List Byte) : List Byte := (l ++ zeros (n - l.length)).take n

/-- A type field: `n` bytes at header byte `o` (R291). -/
def Frame.fld (f : Frame) (o n : Nat) : Nat := numAt f.tf (o - 10) n

/-- SLOTSEQ of PIX, CMT, HBT and DIG, and TAG of CTL and ACK (R291). -/
def Frame.w10 (f : Frame) : Nat := f.fld 10 2

/-- A frame from its type fields, given as bytes from header byte 10. -/
def mkFrame (typ dest src : Nat) (bcast lloc : Bool) (tf pay : List Byte) : Frame :=
  ⟨typ, bcast, lloc, dest % 2 ^ 16, src % 2 ^ 16, 0, padTo 20 tf, pay⟩

/-- Header bytes 0-29 (R288). -/
def Frame.head30 (f : Frame) : List Byte :=
  [BitVec.ofNat 8 (f.typ + 16), BitVec.ofNat 8 ((if f.bcast then 1 else 0) + (if f.lloc then 2 else 0))] ++
  natLE 2 f.dest ++ natLE 2 f.src ++ natLE 2 f.pay.length ++ [BitVec.ofNat 8 f.alive, 0#8] ++ padTo 20 f.tf

/-- The 32 header bytes with HCRC (R288, R289). -/
def Frame.header (f : Frame) : List Byte := f.head30 ++ natLE 2 (crc16 f.head30)

/-- The trailer CRC (R289). -/
def Frame.trailer (f : Frame) : Nat := crc32c (f.header ++ f.pay)

/-- Units of a frame that use credit: the header and the data units (R302). -/
def Frame.units (f : Frame) : Nat := 1 + (f.pay.length + 31) / 32

/-- Flow-control class of a type: 0 T, 1 C, 2 B (R290). -/
def frameClass (typ : Nat) : Nat :=
  if typ = fTIM then 0 else if typ = fPIX ∨ typ = fCMT ∨ typ = fIMG then 2 else 1

/-- The header read from its bytes: frame without payload, and LEN (R288). -/
def parseHeader (h : List Byte) : Frame × Nat :=
  (⟨numAt h 0 1 % 16, numAt h 1 1 % 2 = 1, numAt h 1 1 / 2 % 2 = 1, numAt h 2 2, numAt h 4 2, numAt h 8 1,
    slice h 10 20, []⟩, numAt h 6 2)

/-- The HCRC checks (R289). -/
def headerCrcOk (h : List Byte) : Bool := h.length = 32 && crc16 (h.take 30) = numAt h 30 2

/-- Bits of header bytes 10-29 that a type defines (R291). -/
def typeMask (typ : Nat) : List Nat :=
  match typ with
  | 1 => [0xFF, 0xFF, 0xFF, 0x03]
  | 2 => [0xFF, 0xFF, 0x0F]
  | 3 => [0xFF, 0xFF, 0x03, 0x01]
  | 4 => [0xFF, 0xFF, 0x0F, 0x0F, 0xFF, 0xFF, 0xFF, 0xFF]
  | 5 => [0x03, 0xFF, 0xFF]
  | 6 => [0xFF, 0xFF, 0x1F, 0x00, 0xFF, 0xFF, 0xFF, 0xFF]
  | 7 => [0xFF, 0xFF, 0xFF, 0xFF]
  | 8 => List.replicate 16 0xFF
  | 9 => [0x01, 0x3F, 0xFF, 0xFF]
  | _ => []

/-- The largest LEN of a type (R290). -/
def lenLimit (f : Frame) : Nat :=
  match f.typ with
  | 1 => 24576
  | 3 => 1024
  | 5 => if f.fld 10 1 % 4 = 0 then 96 else 32
  | 7 => 8 * f.fld 12 2
  | 8 => 16384
  | 9 => if f.fld 10 1 % 2 = 0 then 0 else 64
  | _ => 0

/-- Bytes whose bits outside the masks are 0. -/
def inMasks : List Nat → List Byte → Bool
  | _, [] => true
  | [], b :: l => b = 0#8 && inMasks [] l
  | m :: ms, b :: l => b.toNat &&& m = b.toNat && inMasks ms l

/-- A header that R290 accepts: VER 1, a type of the table, LEN within its limit, reserved bits 0. -/
def headerOk (h : List Byte) : Bool :=
  let (f, len) := parseHeader h
  numAt h 0 1 / 16 = 1 && decide (1 ≤ f.typ ∧ f.typ ≤ 9) && decide (numAt h 1 1 < 4) && numAt h 9 1 = 0 &&
  decide (len ≤ lenLimit f) && inMasks (typeMask f.typ) f.tf

/-! ### Ports -/

def Port.init : Port :=
  ⟨[], [], [], 0, 0, 0, 0, 0, 0, 0, 0, 0, [], [], [], false, [], 0, 0⟩
def State.port (s : State) (p : Nat) : Port := mget Port.init s.skd.ports p
def State.setPort (s : State) (p : Nat) (x : Port) : State :=
  { s with skd := { s.skd with ports := mput Port.init s.skd.ports p x } }

/-- The Skidline state updated. -/
def State.skdSet (s : State) (f : SkdSt → SkdSt) : State := { s with skd := f s.skd }

/-- Ports of the role (R64). -/
def State.portCount (s : State) : Nat := if s.head then 16 else 4

/-- Tile ports (R64). -/
abbrev pUP : Nat := 0
abbrev pDN : Nat := 1
abbrev pUPT : Nat := 2
abbrev pDNT : Nat := 3

/-- The lanes of Skidline port `p`: enabled lanes of SKD quads assigned to it (R63, R64). -/
def State.portLanes (s : State) (p : Nat) : List Nat :=
  (List.range 32).filter fun l =>
    s.get (LNK_QCFG_MODE (l / 4)) = 1 && s.bit (LNK_LCFG_EN l) && s.get (LNK_LCFG_PORT l) = p &&
    (s.head || l / 4 = p)

/-- LNK_LSTAT.STATE codes (R93). -/
abbrev lOFF : Nat := 0
abbrev lDETECT : Nat := 1
abbrev lTRAIN : Nat := 2
abbrev lCAPX : Nat := 3
abbrev lSTEP : Nat := 4
abbrev lACTIVE : Nat := 5
abbrev lIDLE : Nat := 6
abbrev lEXIT : Nat := 7
abbrev lCAL : Nat := 8
abbrev lLOST : Nat := 9
abbrev lPRBS : Nat := 10
abbrev lFAIL : Nat := 11

/-- The state of a port's lanes; OFF for a port without lanes. -/
def State.portState (s : State) (p : Nat) : Nat :=
  match s.portLanes p with
  | [] => lOFF
  | l :: _ => s.get (LNK_LSTAT_STATE l)

/-- Every lane of a list in state `st`. -/
def State.setLanes (s : State) (ls : List Nat) (st : Nat) : State :=
  ls.foldl (fun s l => s.set (LNK_LSTAT_STATE l) st) s

/-- Every lane of Skidline port `p` in state `st`. -/
def State.setPortState (s : State) (p st : Nat) : State := s.setLanes (s.portLanes p) st

/-- Port `p` is ACTIVE (R284). -/
def State.active (s : State) (p : Nat) : Bool := s.bit (SKD_PORT_STAT_ACTIVE p)

/-! ### Bring-up records of ports -/

def Lnk.init : Lnk :=
  ⟨0, false, false, 0, 0, none, 0, 2, none, false, false, 0, false, false, false, 0, 0, none, none⟩
def State.link (s : State) (p : Nat) : Lnk := mget Lnk.init s.lnk.ports p
def State.setLink (s : State) (p : Nat) (x : Lnk) : State :=
  { s with lnk := { s.lnk with ports := mput Lnk.init s.lnk.ports p x } }

/-- A lane command `op` in progress on lanes `ls` ends with STAT `st` (R93). -/
def State.lcmdEnd (s : State) (ls : List Nat) (op st : Nat) : State :=
  ls.foldl (fun s l => if s.get (LNK_LCMD_OP l) = op && s.busy (LNK_LCMD l) then s.setStat (LNK_LCMD l) st else s) s

/-- A port in electrical idle is asked to exit: its fast exit starts, or the pending entry is given up (R81,
R82). -/
def State.wakePort (s : State) (p : Nat) : State :=
  if s.portState p = lIDLE then
    (s.setPortState p lEXIT).setLink p { s.link p with exitAt := s.now, ei := false }
  else if (s.link p).ei then
    (s.setLink p { s.link p with ei := false }).lcmdEnd (s.portLanes p) 3 stFAILED
  else s

/-! ### Queues (R295, R304, R306) -/

/-- The last discarded frame of a port (R311). -/
def State.disc (s : State) (p typ reason src : Nat) : State :=
  s.setAll [(SKD_PORT_DISC_TYPE p, typ), (SKD_PORT_DISC_REASON p, reason), (SKD_PORT_DISC_SRC p, src)]

/-- REASON codes of SKD_PORT_DISC (R311). -/
abbrev dHCRC : Nat := 1
abbrev dBADHDR : Nat := 2
abbrev dLENERR : Nat := 3
abbrev dTCRC : Nat := 4
abbrev dSTOMP : Nat := 5
abbrev dABORT : Nat := 6
abbrev dTRUNC : Nat := 7
abbrev dMISROUTE : Nat := 8
abbrev dTXDROP : Nat := 9
abbrev dBADUNIT : Nat := 10
abbrev dUNUSED : Nat := 11

/-- A frame dropped at port `p` (R295, R306). -/
def State.txDrop (s : State) (p : Nat) (f : Frame) : State := (s.bump (SKD_TXDROP p)).disc p f.typ dTXDROP f.src

/-- Port `p` takes frames into its queues: it exists, carries frames, and is ACTIVE or in electrical idle
(R82, R295, R306). -/
def State.takesFrames (s : State) (p : Nat) : Bool :=
  decide (p < s.portCount) && s.bit (SKD_PORT_CFG_EN p) &&
  (s.active p || s.portState p = lIDLE || s.portState p = lEXIT)

/-- Units of a forwarded frame are freed at the port they came from when it is sent on or dropped (R302). -/
def State.freeUnits (s : State) (from? : Option Nat) (f : Frame) : State :=
  match from? with
  | none => s
  | some q =>
    let x := s.port q
    match frameClass f.typ with
    | 1 => s.setPort q { x with freeC := (x.freeC + f.units) % 2 ^ 24 }
    | 2 => s.setPort q { x with freeB := (x.freeB + f.units) % 2 ^ 24 }
    | _ => s

/-- A frame queued for port `p` in its class; a port that takes none drops it. A queued frame wakes a port in
electrical idle (R82). -/
def State.queueItem (s : State) (p : Nat) (i : TxItem) : State :=
  if !s.takesFrames p then (if p < 16 then s.txDrop p i.f else s).freeUnits i.fwd i.f
  else
    let x := s.port p
    let x := match frameClass i.f.typ with
      | 0 => { x with tq := x.tq ++ [i] }
      | 1 => { x with cq := x.cq ++ [i] }
      | _ => { x with bq := x.bq ++ [i] }
    (s.setPort p x).wakePort p

/-- A frame that this unit originates on port `p`. -/
def State.send (s : State) (p : Nat) (f : Frame) : State := s.queueItem p ⟨f, none, 0, s.tm.wall, none, false⟩

/-! ### Where frames go (R295, R313, R323-R325; log entry 20) -/

/-- SKD_CH_ROLE codes (R321). -/
abbrev rCHAIN : Nat := 0
abbrev rRINGEND : Nat := 1
abbrev rPEER : Nat := 2
abbrev rPARTNER : Nat := 3

/-- The role of port `p` (R321). -/
def State.role (s : State) (p : Nat) : Nat := getBits (s.rd SKD_CH_ROLE) (2 * p) 2

/-- Port `p` is the twin of port p - 8 (R322). -/
def State.isTwin (s : State) (p : Nat) : Bool := decide (8 ≤ p) && (s.get SKD_CH_TWIN_TWIN).testBit (p - 8)

/-- The head's number (R312). -/
def State.headNum (s : State) : Nat := s.get SKD_HEAD_NUM

/-- The PARTNER port: the one the redundancy settings name while they are on, else the first of that role. -/
def State.partnerPort (s : State) : Option Nat :=
  if s.bit RDN_CFG_EN then some (s.get RDN_CFG_PPORT)
  else (List.range 16).find? (fun p => s.role p = rPARTNER)

/-- The port toward head `h`: the partner's, a composing peer's, the one its frames last came from, else the
peer path of R42. -/
def State.portToHead (s : State) (h : Nat) : Nat :=
  if s.bit RDN_CFG_EN && s.get RDN_CFG_PARTNER = h then s.get RDN_CFG_PPORT
  else match (List.range 4).find? (fun i => s.bit (CMP_PLC_PEER_EN i) && s.get (CMP_PLC_PEER_HEAD i) = h) with
    | some i => s.get (CMP_PLC_PEER_PORT i)
    | none => match s.skd.replyTo.find? (fun r => r.1 = h) with
      | some r => r.2
      | none => s.get TMU_PEER_PORT

/-- The port for a unit of the head's own chain `c` at position `k`, under the path set in use (R323, R324):
the main or twin path from the head up to the last position it reaches, the PARTNER port beyond. -/
def State.chainPort (s : State) (c k : Nat) : Option Nat :=
  match s.get (SKD_CH_STAT_PATH c) with
  | 0 => some c
  | 1 => some (c + 8)
  | 2 => if k ≤ s.get (SKD_CH_STAT_REACHM c) then some c else s.partnerPort
  | _ => if k ≤ s.get (SKD_CH_STAT_REACHT c) then some (c + 8) else s.partnerPort

/-- The port on which a head sends a frame to unit address `a` (R313, R323). -/
def State.portOf (s : State) (a : Nat) : Option Nat :=
  if a / 1024 = s.headNum then s.chainPort (a / 64 % 16) (a % 64) else some (s.portToHead (a / 1024))

/-- The port of a tile toward head address `a`: the one on which it last consumed a frame of that head (R414);
before the first, UP, or the first ACTIVE port if UP is not. -/
def State.headward (s : State) (a : Nat) : Nat :=
  match s.skd.replyTo.find? (fun r => r.1 = a / 1024) with
  | some r => r.2
  | none =>
    match [pUP, pUPT, pDN, pDNT].find? (fun p => s.active p) with
    | some p => p
    | none => pUP

/-- The address of the tile's head (R313). -/
def State.headOf (s : State) : Nat := s.addr / 64 * 64

/-- SRC of what this unit originates: its address, or 0xFFFF of a tile without one (R288). -/
def State.srcAddr (s : State) : Nat :=
  if s.head then s.headNum * 1024 else if s.bit SKD_ADDR_VALID then s.addr else 0xFFFF

/-- A frame toward unit address `a`. -/
def State.sendTo (s : State) (a : Nat) (f : Frame) : State :=
  if s.head then match s.portOf a with | some p => s.send p f | none => s else s.send (s.headward a) f

/-! ### Service messages (R443) -/

/-- Service numbers (R444). -/
abbrev vWALLCMD : Nat := 0x01
abbrev vCALREQ : Nat := 0x02
abbrev vCALGRANT : Nat := 0x03
abbrev vWALLRDY : Nat := 0x04
abbrev vWALLDEC : Nat := 0x05
abbrev vOFFER : Nat := 0x06
abbrev vOFFERREPLY : Nat := 0x07
abbrev vMOVEEND : Nat := 0x08
abbrev vVOTEREQ : Nat := 0x09
abbrev vVERDICT : Nat := 0x0A
abbrev vSWAP : Nat := 0x0B
abbrev vEPOCH : Nat := 0x0C
abbrev vEPREQ : Nat := 0x0D
abbrev vIMGANN : Nat := 0x0E

/-- The body of a message: header of R431, then its content. -/
def msgBody (kind tag target nops flags mstatus : Nat) (rest : List Byte) : List Byte :=
  [1#8, BitVec.ofNat 8 kind] ++ natLE 2 tag ++ natLE 2 target ++ natLE 2 nops ++
  [BitVec.ofNat 8 flags, BitVec.ofNat 8 mstatus] ++ zeros 6 ++ rest

/-- A CTL frame of KIND `kind` (R291). -/
def ctlFrame (dest src : Nat) (bcast : Bool) (tag kind : Nat) (ackreq : Bool) (pay : List Byte) : Frame :=
  mkFrame fCTL dest src bcast false
    (natLE 2 tag ++ [BitVec.ofNat 8 kind, if ackreq then 1#8 else 0#8]) pay

/-- A service message frame, and the state with the next TAG (R443). -/
def State.svcFrame (s : State) (svc dest : Nat) (bcast : Bool) (pl : List Byte) : Frame × State :=
  let t := s.skd.svcTag
  (ctlFrame dest s.srcAddr bcast t 3 false
    (msgBody 3 t dest 1 0 0 ([BitVec.ofNat 8 svc, 0#8] ++ natLE 2 pl.length ++ pl)),
   s.skdSet fun k => { k with svcTag := (t + 1) % 2 ^ 16 })

/-- A service message to unit address `a` (R443). -/
def State.sendSvc (s : State) (svc a : Nat) (pl : List Byte) : State :=
  let (f, s) := s.svcFrame svc a false pl
  s.sendTo a f

/-- A service message by broadcast on chain port `p` (R443, R444). -/
def State.bcastSvc (s : State) (svc p : Nat) (pl : List Byte) : State :=
  let (f, s) := s.svcFrame svc (s.headNum * 1024 + p * 64) true pl
  s.send p f

/-- A wall time in a payload: 4 bytes of nanoseconds and 6 of seconds (R443). -/
def timeBytes (w : Nat) : List Byte := natLE 4 (wallNs w) ++ natLE 6 (wallSec w)

/-- A wall time read from a payload. -/
def timeAt (l : List Byte) (o : Nat) : Nat := wallOf (numAt l (o + 4) 6) (numAt l o 4 % 2 ^ 30)

/-- A time with its fraction of 2^-16 ns: 4, 6 and 2 bytes (R294). -/
def stampBytes (w : Nat) : List Byte := timeBytes w ++ natLE 2 (w / 2 ^ 16)

/-- Such a time read back. -/
def stampAt (l : List Byte) (o : Nat) : Nat := timeAt l o + numAt l (o + 10) 2 * 2 ^ 16

/-! ### Credits (R302) -/

/-- Credit held of class B and C. -/
def Port.credB (x : Port) : Int := x.bufB - (((x.sentB : Int) - x.cumB) % 2 ^ 24)
def Port.credC (x : Port) : Int := x.bufC - (((x.sentC : Int) - x.cumC) % 2 ^ 24)

/-- A TALLY unit at its position updates the sender's credit; any other kind, or a failed CRC, is counted (R286,
R302). -/
def State.tally (s : State) (p : Nat) (u : List Byte) : State :=
  if numAt u 0 1 ≠ 2 ∨ u.length ≠ 32 ∨ crc16 (u.take 30) ≠ numAt u 30 2 then s.bump (SKD_TALLYERR p)
  else
    let x := s.port p
    let x := if numAt u 12 1 % 2 = 1 then { x with sentB := 0, sentC := 0 } else x
    s.setPort p { x with cumB := numAt u 2 3, cumC := numAt u 5 3, bufB := numAt u 8 2, bufC := numAt u 10 2,
                         seq := numAt u 1 1 }

/-- TALLY_RX (R286, R302): the unit at a tally position of an ACTIVE port. -/
def execTallyRx (p : Nat) (u : List Byte) (s : State) : Host.Outcome State Fault Refusal :=
  settled (if decide (p < s.portCount) && s.active p then s.tally p u else s)

/-! ### Sending (R301, R303, R304) -/

/-- The alive counter of a TYPE and DEST on a port, and the port with the next one (R301). -/
def Port.nextAlive (x : Port) (typ dest : Nat) : Nat × Port :=
  let same (a : Nat × Nat × Nat) : Bool := a.1 = typ && a.2.1 = dest
  let n := match x.alive.find? same with | some a => a.2.2 | none => 0
  (n, { x with alive := (typ, dest, (n + 1) % 256) :: x.alive.filter (fun a => !same a) })

/-- At most two TIM frames leave a port within 10 us (R303). -/
def Port.timOk (x : Port) (now : Nat) : Bool :=
  match x.timAt with
  | _ :: b :: _ => decide (b + 10000 ≤ now)
  | _ => true

/-- A class C frame starts with credit for all of it (R303). -/
def Port.startC (x : Port) (f : Frame) : Bool := decide ((f.units : Int) ≤ x.credC)

/-- A class B frame starts with credit for 65 units or for all of it (R303). -/
def Port.startB (x : Port) (f : Frame) : Bool := decide ((min 65 f.units : Int) ≤ x.credB)

/-- The class B frame whose turn it is: an IMG frame of a head waits for every PIX and CMT (R304). -/
def bNext (head : Bool) (l : List TxItem) : Option TxItem :=
  if head then
    match l.find? (fun i => i.f.typ ≠ fIMG) with
    | some i => some i
    | none => l.head?
  else l.head?

/-- The frame a free port starts next: the order T, C, B, each under its rule (R303, R304). A class whose front
frame waits for credit does not hold up the next class. -/
def State.nextTx (s : State) (p : Nat) : Option TxItem :=
  let x := s.port p
  let b := match bNext s.head x.bq with
    | some i => if x.startB i.f then some i else none
    | none => none
  let c := match x.cq with
    | i :: _ => if x.startC i.f then some i else b
    | [] => b
  match x.tq with
  | i :: _ => if x.timOk s.now then some i else c
  | [] => c

/-- The first item equal to `i` removed. -/
def dropItem (i : TxItem) : List TxItem → List TxItem
  | [] => []
  | j :: l => if j = i then l else j :: dropItem i l

/-- A TIM frame as it leaves: the origin time of an own beacon, the correction and hop count of a forwarded one,
the transmit timestamp of a PDLYRSP (R45, R48, R294). -/
def State.timEgress (s : State) (i : TxItem) : Frame :=
  let w := s.tm.wall
  let f := i.f
  match f.fld 10 1 % 4, i.fwd with
  | 0, none => { f with pay := putAt f.pay 0 (timeBytes w) }
  | 0, some _ =>
    let corr := toInt 64 (numAt f.pay 12 8) + ((w - i.at0) / 2 ^ 16 : Nat) +
      (s.get TMU_TIM_LDLY_LDLY * 256 : Nat)
    { f with pay := putAt (putAt f.pay 12 (natLE 8 (ofInt 64 corr))) 20 (natLE 1 (numAt f.pay 20 1 + 1)) }
  | 2, _ => { f with pay := putAt f.pay 12 (stampBytes w) }
  | _, _ => f

/-- An own PDLYREQ leaves: its egress timestamp is kept (R46). -/
def State.noteEgress (s : State) (f : Frame) : State :=
  if f.typ = fTIM ∧ f.fld 10 1 % 4 = 1 then s.tmSet fun t => { t with pdlyT1 := s.tm.wall, pdlyId := f.fld 11 2 + 1 }
  else s

/-- The frame of an OUT entry has left: its payload has left the source (R224). -/
def State.outSent (s : State) (ent : Option Nat) (status : Nat) : State :=
  match ent with
  | none => s
  | some o =>
    { s with eng := { s.eng with
      flight := s.eng.flight.map fun i =>
        if i.e.ord = o ∧ 8 ≤ i.unit then { i with done := 1, status := if status = 0 then i.status else status } else i } }

/-- A slice that a peer composed leaves on a chain port: it is counted for its slot, and its digest is kept (R278,
R410). -/
def State.countForwarded (s : State) (f : Frame) (fin : Nat) : State :=
  if !s.head || f.typ ≠ fPIX || fin ≠ 0 then s
  else { s with cmp := { s.cmp with slots := s.cmp.slots.map fun r =>
    if r.j % 65536 = f.w10 ∧ f.dest / 1024 = s.headNum then
      { r with moved := r.moved.map (fun m => if m.1 = f.dest % 1024 then (m.1, m.2 + 1) else m),
               digs := if s.bit RDN_CFG_EN then r.digs ++ [(f.dest, f.fld 12 1 % 16, crc32c f.pay)] else r.digs }
    else r } }

/-- Item `i` is sent whole on port `p`, with `fills` FILL units inside it (R299, R301, R302, R304). -/
def State.transmit (s : State) (p : Nat) (i : TxItem) (fills : Nat) : State :=
  let x := s.port p
  let x := match frameClass i.f.typ with
    | 0 => { x with tq := dropItem i x.tq, timAt := s.now :: x.timAt.take 1 }
    | 1 => { x with cq := dropItem i x.cq, sentC := (x.sentC + i.f.units) % 2 ^ 24 }
    | _ => { x with bq := dropItem i x.bq, sentB := (x.sentB + i.f.units) % 2 ^ 24 }
  let x := { x with last := s.now }
  let f := if i.f.typ = fTIM then s.timEgress i else i.f
  let (a, x) := if i.fwd.isNone && !f.lloc then x.nextAlive f.typ f.dest else (f.alive, x)
  let f := { f with alive := a }
  let s := s.setPort p x
  let s := (s.bumpN (SKD_FILL p) fills).bump (if i.fwd.isNone then SKD_TXF p else SKD_FWD p)
  let s := s.freeUnits i.fwd f
  let s := if i.fwd.isNone then s.noteEgress f else s.countForwarded f i.fin
  (s.skdSet fun k => { k with out := .frame p f i.fin :: k.out }).outSent i.ent 0

/-- Frames at the front of classes C and B that wait for credit are counted once (R302, R311). -/
def State.creditWaits (s : State) (p : Nat) : State :=
  let x := s.port p
  let mark (i : TxItem) (l : List TxItem) := l.map fun j => if j = i then { j with waited := true } else j
  let wc := match x.cq with | i :: _ => if x.startC i.f then none else some i | [] => none
  let wb := match bNext s.head x.bq with | some i => if x.startB i.f then none else some i | none => none
  let s := s.set (SKD_PORT_STAT_CREDWAIT p) (if wc.isSome || wb.isSome then 1 else 0)
  let s := match wc with
    | some i => if i.waited then s else (s.bump (SKD_CREDWAIT p)).setPort p { x with cq := mark i x.cq }
    | none => s
  match wb with
  | some i =>
    let x := s.port p
    if i.waited then s else (s.bump (SKD_CREDWAIT p)).setPort p { x with bq := mark i x.bq }
  | none => s

/-- FRAME_TX (R301-R304): port `p`, ACTIVE and outside a calibration window, starts the next waiting frame. -/
def State.frameTx (s : State) (p fills : Nat) : State :=
  let s := s.creditWaits p
  match s.nextTx p with
  | none => s
  | some i => (s.transmit p i fills).creditWaits p

def execFrameTx (p fills : Nat) (s : State) : Host.Outcome State Fault Refusal :=
  settled (if decide (p < s.portCount) && s.active p && decide ((s.port p).calTx ≤ s.now) then s.frameTx p fills
    else s)

/-! ### Ports that leave and enter service (R302, R306) -/

/-- Port `p` becomes ACTIVE: credits restart at the next INIT (R302). -/
def State.portUp (s : State) (p rate width : Nat) : State :=
  let s := s.setAll [(SKD_PORT_STAT_ACTIVE p, 1), (SKD_PORT_STAT_LRATE p, rate), (SKD_PORT_STAT_WIDTH p, width)]
  s.setPort p { s.port p with sentB := 0, sentC := 0, cumB := 0, cumC := 0, bufB := 0, bufC := 0, freeB := 0,
                              freeC := 0, last := s.now }

/-- A class B item at a port that left ACTIVE: its OUT entry completes PORTDOWN, or it is dropped (R306). -/
def State.cutItem (s : State) (p : Nat) (i : TxItem) : State :=
  match i.ent with
  | some o => s.outSent (some o) 4
  | none => (s.txDrop p i.f).freeUnits i.fwd i.f

/-- Port `p` leaves ACTIVE other than into electrical idle (R306): queued frames are dropped and counted. -/
def State.portDown (s : State) (p : Nat) : State :=
  let x := s.port p
  let s := s.set (SKD_PORT_STAT_ACTIVE p) 0
  let s := s.setPort p { x with tq := [], cq := [], bq := [] }
  let s := (x.tq ++ x.cq).foldl (fun s i => (s.txDrop p i.f).freeUnits i.fwd i.f) s
  let s := x.bq.foldl (fun s i => s.cutItem p i) s
  s.set (SKD_PORT_STAT_CREDWAIT p) 0

end Sys2Proof.Machine
end

