-- ==== Sys2Proof/Machine/Chain.lean ====
section
/-! DEFINITION. Chains of a head and the place of a tile on one: enumeration (R312-R319), links that leave
service (R320), path sets (R323), the chain rate and what follows from it (R268, R300, R310). -/

namespace Sys2Proof.Machine

/-! ### The chain table (R318, R319) -/

/-- STATE of a chain-table entry (R336). -/
abbrev ctNONE : Nat := 0
abbrev ctPRESENT : Nat := 1
abbrev ctLOST : Nat := 2

/-- Positions of chain `c` that are PRESENT or LOST, in rising order. -/
def State.positions (s : State) (c : Nat) : List Nat :=
  (List.range 64).filter fun k => k ≠ 0 && s.get (SKD_CT_W0_STATE (64 * c + k)) ≠ ctNONE

/-- The last of them, 0 for an empty chain. -/
def State.lastPos (s : State) (c : Nat) : Nat := (s.positions c).foldl max 0

/-- PRESENT tiles of chain `c`. -/
def State.presentOn (s : State) (c : Nat) : List Nat :=
  (s.positions c).filter fun k => s.get (SKD_CT_W0_STATE (64 * c + k)) = ctPRESENT

/-- Byte `q` of LINKS of entry `t`, one for each tile port (R318). -/
def State.linkByte (s : State) (t q : Nat) : Nat := getBits (s.rd (SKD_CT_LINKS t)) (8 * q) 8

/-- The link of tile port `q` was ACTIVE. -/
def State.linkUp (s : State) (t q : Nat) : Bool := (s.linkByte t q).testBit 4

/-- The last position that frames leaving the head on port `p` reach through tile ports `q` of chain `c`
(R323). -/
def State.reach (s : State) (c p q : Nat) : Nat :=
  if !s.active p then 0
  else (List.range (s.lastPos c)).foldl (fun k i => if i = 0 ∨ (k = i ∧ s.linkUp (64 * c + i) q) then i + 1 else k) 0

/-- Every link beyond position `k` is whole, so that the far end reaches each tile there (R323). -/
def State.farWhole (s : State) (c k q : Nat) : Bool :=
  (List.range (s.lastPos c)).all fun i => decide (i ≤ k) || s.linkUp (64 * c + i) q

/-- A path set reaches every position of chain `c` (R323). The last tile's downstream link is ACTIVE on a
ring. -/
def State.pathReaches (s : State) (c set : Nat) : Bool :=
  let n := s.lastPos c
  let ring (q : Nat) : Bool := s.linkUp (64 * c + n) q &&
    (match s.partnerPort with | some p => s.active p | none => false)
  let km := s.reach c c pDN
  let kt := s.reach c (c + 8) pDNT
  let twin := decide (c < 8) && s.isTwin (c + 8)
  match set with
  | 0 => decide (n ≤ km)
  | 1 => twin && decide (n ≤ kt)
  | 2 => decide (n ≤ km) || (ring pDN && s.farWhole c km pDN)
  | _ => twin && (decide (n ≤ kt) || (ring pDNT && s.farWhole c kt pDNT))

/-- Positions a path set reaches. -/
def State.pathCount (s : State) (c set : Nat) : Nat :=
  if s.pathReaches c set then s.lastPos c
  else match set with
    | 0 => s.reach c c pDN
    | 1 => if decide (c < 8) && s.isTwin (c + 8) then s.reach c (c + 8) pDNT else 0
    | 2 => s.reach c c pDN
    | _ => if decide (c < 8) && s.isTwin (c + 8) then s.reach c (c + 8) pDNT else 0

/-- The path set for chain `c`: the first that reaches every position, else the first of those that reach the
most (R323). -/
def State.bestPath (s : State) (c : Nat) : Nat × Bool :=
  match [0, 1, 2, 3].find? (fun k => s.pathReaches c k) with
  | some k => (k, false)
  | none => ([0, 1, 2, 3].foldl (fun b k => if s.pathCount c b < s.pathCount c k then k else b) 0, true)

/-- REACHM, REACHT and PRESENT of chain `c` (R336). -/
def State.reachRefresh (s : State) (c : Nat) : State :=
  s.setAll [(SKD_CH_STAT_PRESENT c, (s.presentOn c).length), (SKD_CH_STAT_REACHM c, s.reach c c pDN),
    (SKD_CH_STAT_REACHT c, s.reach c (c + 8) pDNT)]

/-- The path set of every chain, from the next slot posted (R323). -/
def State.choosePaths (s : State) : State :=
  (List.range 16).foldl (fun s c =>
    if s.role c ≠ rCHAIN || s.isTwin c then s
    else
      let (k, b) := s.bestPath c
      (s.reachRefresh c).setAll [(SKD_CH_STAT_PATH c, k), (SKD_CH_STAT_BREAK c, if b then 1 else 0)]) s

/-! ### Rates (R66, R268, R300, R310) -/

/-- Block payload rate of a lane rate, Mbit/s (R66). -/
def laneMbit (rate : Nat) : Nat := match rate with | 0 => 27125 | 1 => 52654 | _ => 105309

/-- Lanes of a width code. -/
def lanesOf (w : Nat) : Nat := match w with | 0 => 1 | 1 => 2 | _ => 4

/-- Rate of a LINKS byte. -/
def linkMbit (b : Nat) : Nat := laneMbit (b % 4) * lanesOf (b / 4 % 4)

/-- The chain rate of port `p`, Mbit/s: the lowest among the head's link and the upstream links of its tiles; 0
for a port that is not ACTIVE (R300). -/
def State.chainMbit (s : State) (p : Nat) : Nat :=
  if !s.active p then 0
  else
    let c := if s.isTwin p then p - 8 else p
    let q := if s.isTwin p then pUPT else pUP
    (s.positions c).foldl (fun m k =>
      if s.linkUp (64 * c + k) q then min m (linkMbit (s.linkByte (64 * c + k) q)) else m)
      (laneMbit (s.get (SKD_PORT_STAT_LRATE p)) * lanesOf (s.get (SKD_PORT_STAT_WIDTH p)))

/-- Bits of block payload of one PIX frame of `n` payload bytes, times 44 (R310). -/
def pixBits44 (n : Nat) : Nat := (2 + (n + 31) / 32) * 45 * 256

/-- Tile-map fields of entry `t` of the active copy (R239). -/
def State.tmEn (s : State) (t : Nat) : Bool := getBits (s.rd (CMP_TMAP_A t 0)) 0 1 = 1
def State.tmW (s : State) (t : Nat) : Nat := getBits (s.rd (CMP_TMAP_A t 2)) 0 13
def State.tmH (s : State) (t : Nat) : Nat := getBits (s.rd (CMP_TMAP_A t 2)) 16 13

/-- The share of R310 is exceeded on port `p` at `m` Mbit/s: the PIX frames of the enabled tiles of its chain,
16 for each tile, take more than 95 % of a slot period. -/
def State.overCap (s : State) (p m : Nat) : Bool :=
  let g := s.grid
  let bits := ((s.positions p).map fun k =>
    if s.tmEn (64 * p + k) then 16 * pixBits44 (s.tmW (64 * p + k) * s.tmH (64 * p + k) / 16 * 6) else 0).sum
  decide (bits * g.num * g.slots * 100 > 95 * 44 * m * 10 ^ 6 * g.den)

/-- CHRATE, M, MARGIN and OVERCAP after an enumeration or a report (R268, R300, R310, R319). CHRATE is rounded
to nearest and M up (log entry 22). -/
def State.chainRates (s : State) : State :=
  let ports := (List.range 16).filter fun p => s.role p = rCHAIN
  let s := ports.foldl (fun s p =>
    let m := s.chainMbit p
    let s := s.set (SKD_PORT_STAT_CHRATE p) ((m + 50) / 100)
    if !s.isTwin p && decide (0 < m) && s.overCap p m then s.set (SKD_PORT_STAT_OVERCAP p) 1 else s) s
  let rates := (ports.map s.chainMbit).filter (fun m => decide (0 < m))
  let h : Nat := (ports.map s.lastPos).foldl max 0
  let slow : Nat := match rates with | [] => 0 | r :: l => l.foldl min r
  let m := 300 + 25 * h + (if slow = 0 then 0 else (2 * 201600 * 100 + slow - 1) / slow)
  let s := s.set CMP_PACE_MMIN_M m
  if s.get CMP_PACE_MARGIN * 100 < m then s.set CMP_PACE_MARGIN ((m + 99) / 100) else s

/-! ### DISCOVER and REPORT (R314-R318) -/

/-- A DISCOVER (R290, R291, R314). -/
def discoverFrame (src pos id : Nat) : Frame :=
  mkFrame fDIS 0 src false true ([0#8, BitVec.ofNat 8 (pos % 64)] ++ natLE 2 id) []

/-- The head sends a DISCOVER with a new ENUMID on the ports of `l` that are of role CHAIN; a twin carries its
main chain's number (R314, R322). -/
def State.enumerate (s : State) (l : List Nat) : State :=
  match l.filter (fun p => s.role p = rCHAIN) with
  | [] => s
  | q =>
    let id := (s.get SKD_ENUM_ID_ID + 1) % 2 ^ 16
    let s := s.set SKD_ENUM_ID_ID id
    q.foldl (fun s p =>
      s.send p (discoverFrame (s.headNum * 1024 + (if s.isTwin p then p - 8 else p) * 64) 0 id)) s

/-- A tile's DISCOVER on its downstream port `p`, if it has an address from the matching upstream port (R315,
R322). -/
def State.passDiscover (s : State) (p : Nat) : State :=
  match s.skd.disc.find? (fun d => d.1 = p - 1) with
  | some d => if s.bit SKD_ADDR_VALID then s.send p (discoverFrame s.addr (d.2.1 + 1) d.2.2) else s
  | none => s

/-- The LINKS bytes of a tile (R318). -/
def State.linkBytes (s : State) : List Byte :=
  (List.range 4).map fun p => BitVec.ofNat 8 (s.get (SKD_PORT_STAT_LRATE p) + 4 * s.get (SKD_PORT_STAT_WIDTH p) +
    (if s.active p then 16 else 0))

/-- The REPORT of a tile (R315, R318): `lost` (position over), `moved`, `new` and `viaUpt` as its FLAGS, `pos` the POS received. -/
def State.sendReport (s : State) (dest pos id : Nat) (lost moved new viaUpt : Bool) : State :=
  let b (c : Bool) (n : Nat) : Nat := if c then n else 0
  let flags := b lost 1 + b moved 2 + b new 4 + b (!s.lampSide) 8 + b (s.bit LCR_STAT_CALMIS) 16 +
    b (s.bit SKD_TILE_STAT_TWINMIS) 32 + b viaUpt 64
  let src := if lost then 0xFFFF else s.addr
  let lbsn := (s.rd (LCR_LBSN 0)).toNat + 2 ^ 32 * (s.rd (LCR_LBSN 1)).toNat
  let pay := padTo 64 (natLE 8 Config.unitSN.toNat ++ natLE 8 (if s.lampSide then lbsn else 0) ++
    natLE 4 (s.rd GLB_FWVER).toNat ++ natLE 2 src ++ natLE 1 pos ++ natLE 1 flags ++ s.linkBytes ++
    natLE 1 (s.get LCR_STAT_SETINUSE))
  s.send (match s.skd.replyTo.find? (fun r => r.1 = dest / 1024) with | some r => r.2 | none => if viaUpt then pUPT else pUP)
    (mkFrame fDIS dest src false false ([1#8, BitVec.ofNat 8 (pos % 64)] ++ natLE 2 id) pay)

/-! ### Requests of a head to its tiles (R275, R326, R432) -/

/-- One operation of a request (R432). -/
def opHeader (opc count addr mask : Nat) : List Byte :=
  [BitVec.ofNat 8 opc, 0#8] ++ natLE 2 count ++ natLE 6 addr ++ zeros 2 ++ natLE 4 mask

/-- A CTL request of the head's own to unit `a`; its TAG (R326). -/
def State.ownRequest (s : State) (a nops : Nat) (ops : List Byte) : Nat × State :=
  let t := s.skd.ctlTag
  let s := s.skdSet fun k => { k with ctlTag := (t + 1) % 2 ^ 16 }
  (t, s.sendTo a (ctlFrame a s.srcAddr false t 0 false (msgBody 0 t a nops 0 0 ops)))

def State.ctlSet (s : State) (f : CtlSt → CtlSt) : State := { s with ctl := f s.ctl }

/-- A request of the head's own awaits its response for CTLTO ms (R326). -/
def State.awaitOwn (s : State) (tag a : Nat) (maps : Bool) : State :=
  s.ctlSet fun c => { c with relays := c.relays ++ [⟨tag, a, s.now + s.get SKD_CH_CFG_CTLTO * 1000000, maps, none⟩] }

/-- HOLDMAX written to LDU_HOLD of a tile (R275, R319). -/
def State.sendHoldMax (s : State) (a : Nat) : State :=
  let (t, s) := s.ownRequest a 1 (opHeader 2 1 LDU_HOLD 0 ++ natLE 4 (s.get CMP_PACE_HOLDMAX))
  s.awaitOwn t a false

/-- An image announcement for the distribution in progress (R334, R444). -/
def State.imgAnnounce (s : State) : List Byte :=
  natLE 4 (s.rd SKD_IMG_ID).toNat ++ natLE 4 (s.rd SKD_IMG_LEN).toNat ++
  natLE 4 (((s.rd SKD_IMG_LEN).toNat + 16383) / 16384) ++ zeros 4

/-- A chain-table entry changed: its STATE is notified (R319, R441). -/
def State.noteEntry (s : State) (t : Nat) : State :=
  s.notify nCHAIN (t + 2 ^ 16 * s.get (SKD_CT_W0_STATE t))

/-- The slot sequence at this instant (R50). -/
def State.slotSeq (s : State) : Nat := slotAt s.grid s.tm.wall % 2 ^ 16

/-- A REPORT arrives on port `p` of a head (R316, R318, R319). -/
def State.report (s : State) (p : Nat) (f : Frame) : State :=
  let flags := numAt f.pay 23 1
  let a := numAt f.pay 20 2
  if flags % 2 = 1 then s.set (SKD_CH_STAT_OVERLONG (if s.isTwin p then p - 8 else p)) 1
  else
    let t := a % 1024
    let old := (List.range 8).map fun w => s.rd (SKD_CT_W0 t + 4 * w)
    let isNew := flags / 2 % 4 ≠ 0
    let via := (if flags.testBit 6 then 1 else 0) + (if s.role p = rPARTNER then 2 else 0) +
      (if flags.testBit 3 then 4 else 0) + (if flags.testBit 4 then 8 else 0) +
      (if numAt f.pay 16 4 ≠ (s.rd GLB_FWVER).toNat then 16 else 0)
    let st := s.get (SKD_CT_W0_STATE t)
    let s := s.setAll [(SKD_CT_W0_STATE t, ctPRESENT), (SKD_CT_W0_FLAGS t, via), (SKD_CT_W0_ENUMID t, f.fld 12 2)]
    let put (s : State) (a n : Nat) := s.wr a (BitVec.ofNat 32 n)
    let s := put (put (put (put s (SKD_CT_SNL t) (numAt f.pay 0 4)) (SKD_CT_SNH t) (numAt f.pay 4 4))
      (SKD_CT_LBSNL t) (numAt f.pay 8 4)) (SKD_CT_LBSNH t) (numAt f.pay 12 4)
    let s := put (put s (SKD_CT_FWVER t) (numAt f.pay 16 4)) (SKD_CT_LINKS t) (numAt f.pay 24 4)
    let s := if isNew then (s.bump SKD_CH_SWAPS).set (SKD_CT_W7_SWAPS t) (s.get (SKD_CT_W7_SWAPS t) + 1) else s
    let s := if isNew || st ≠ ctPRESENT then s.set (SKD_CT_W7_SINCE t) s.slotSeq else s
    let s := (s.reachRefresh (t / 64)).chainRates
    let s := if isNew then s.sendHoldMax a else s
    let s := if 1 ≤ s.get SKD_IMG_STAT_STATE ∧ s.get SKD_IMG_STAT_STATE ≤ 3 then s.sendSvc vIMGANN a s.imgAnnounce
      else s
    if (List.range 8).map (fun w => s.rd (SKD_CT_W0 t + 4 * w)) = old then s else s.noteEntry t

/-! ### Links that leave service (R320) -/

/-- Positions of chain `c` beyond `k` that are marked LOST when the link of tile port `q` breaks there: all on
the main path, those reached by the twin on the twin path (log entry 21). -/
def State.loseBeyond (s : State) (c k q : Nat) : State :=
  let s := (s.positions c).foldl (fun s i =>
    let t := 64 * c + i
    if i ≤ k ∨ s.get (SKD_CT_W0_STATE t) ≠ ctPRESENT ∨ (q = pDNT ∧ s.get (SKD_CT_W0_FLAGS t) % 2 = 0) then s
    else ((s.set (SKD_CT_W0_STATE t) ctLOST).set (SKD_CT_W7_SINCE t) s.slotSeq).noteEntry t) s
  s.reachRefresh c

/-- A LINK record of the tile at address `a`: its port `q` left ACTIVE (R320). -/
def State.linkLost (s : State) (a q : Nat) : State :=
  let t := a % 1024
  let b := s.linkByte t q
  let s := s.wr (SKD_CT_LINKS t) (putBits (s.rd (SKD_CT_LINKS t)) (8 * q) 8 (b % 16))
  s.loseBeyond (t / 64) (t % 64) q

/-- What the loss of an ACTIVE port means to the chains: a tile tells its head of a downstream port, a head marks
the whole chain (R320). -/
def State.portLost (s : State) (p : Nat) : State :=
  if s.head then
    if s.role p ≠ rCHAIN then s
    else if s.isTwin p then s.loseBeyond (p - 8) 0 pDNT else s.loseBeyond p 0 pDN
  else if p = pDN ∨ p = pDNT then s.notify nLINK p else s

/-- What a port that becomes ACTIVE sends (R314, R315). -/
def State.portFound (s : State) (p : Nat) : State :=
  if s.head then (s.enumerate [p]).chainRates
  else if p = pDN ∨ p = pDNT then s.passDiscover p else s

/-! ### Commands (R312, R314) -/

/-- SKD_ENUM: the ports it names (R336). -/
def State.skdEnumCmd (s : State) (port : Nat) (all : Bool) : State :=
  s.command SKD_ENUM (1 + 16 * (port % 16) + (if all then 256 else 0)) fun s =>
    let l := (if all then List.range 16 else [port % 16]).filter fun p => s.role p = rCHAIN
    if !s.head || l.isEmpty then s.setStat SKD_ENUM stREFUSED
    else ((s.enumerate l).skdSet fun k => { k with enumPend := some (s.now, l) }).setStat SKD_ENUM stBUSY

/-- ENUM (R314). -/
def execSkdEnum (port : Nat) (all : Bool) (s : State) : Host.Outcome State Fault Refusal :=
  settled (if s.running then s.skdEnumCmd port all else s)

/-- Every REPORT of the pass from chain `c` has arrived: positions 1 to the last have reported it, and the last
has no tile below (log entry 23). -/
def State.reported (s : State) (c : Nat) : Bool :=
  let n := s.lastPos c
  !s.active c || (decide (1 ≤ n) && (List.range n).all (fun i =>
    s.get (SKD_CT_W0_STATE (64 * c + i + 1)) = ctPRESENT && s.get (SKD_CT_W0_ENUMID (64 * c + i + 1)) = s.get SKD_ENUM_ID_ID)
    && !s.linkUp (64 * c + n) pDN)

/-- ENUM_DONE (R314). -/
def execEnumDone (s : State) : Host.Outcome State Fault Refusal :=
  settled <| match s.skd.enumPend with
    | some (t, l) =>
      if l.all (fun p => s.reported (if s.isTwin p then p - 8 else p)) || decide (t + 10000000 ≤ s.now) then
        (s.skdSet fun k => { k with enumPend := none }).setStat SKD_ENUM stDONE
      else s
    | none => s

/-- The head's address follows its number (R313). -/
def State.setHeadNum (s : State) (n : Nat) : State :=
  s.setAll [(SKD_HEAD_NUM, n), (SKD_ADDR_ADDR, n * 1024), (SKD_ADDR_VALID, 1)]

/-- SKD_HEAD written: in head role, in HALT and READY (R3, R312). -/
def State.headNumWrite (s : State) (v : Word) : State :=
  if !s.head then s.answer rSTATE
  else if s.power ≠ psHALT && s.power ≠ psREADY then s.answer rSTATE
  else
    let n := getBits v 0 6
    let s0 := s.answer rOK
    if n = s.headNum then s0 else (s0.setHeadNum n).enumerate (List.range 16)

/-- HEAD_NUM_WRITE (R312). -/
def execHeadNumWrite (v : Word) (s : State) : Host.Outcome State Fault Refusal :=
  settled (if s.running then s.headNumWrite v else s)

end Sys2Proof.Machine
end

