-- ==== Sys2Proof/Machine/Kerf.lean ====
section
/-! DEFINITION. Kerf: issue (R145-R148, R200, R201), and the effect of every instruction (R179-R202). Each
row of the table names an engine and a slot: it is that slot issuing an instruction of that row. Where the
engine does not issue that slot now, or its word is of another row, the row does not occur and the state
stands (log entry 14). -/

namespace Sys2Proof.Machine

/-! ### Issue -/

/-- What an instruction does at its issue. -/
inductive KRes where
  | next (s : State)                              -- completed; the program counter advances by 8 (R173)
  | jump (s : State) (pc : Nat)                   -- completed; the program counter is set (R198, R199)
  | fault (cause : Nat)                           -- stopped before any effect (R149)
  | wait (s : State) (st : SlotSt) (b : Blocked)  -- blocked (R148)
  | ended (s : State)                             -- the thread has ended (R202)

/-- Bytes of the code region of engine `e` (R154). -/
def State.codeBytes (s : State) (e : Nat) : Nat := s.get (ENG_CFG_CODESZ e) * 1024

/-- The 64-bit word at local-store offset `pc` of engine `e` (R173). -/
def State.kword (s : State) (e pc : Nat) : Nat :=
  (s.word (lsBase e + pc)).toNat + 2 ^ 32 * (s.word (lsBase e + pc + 4)).toNat

/-- Vector registers a pending sampler result of slot (e, t) will write (R146). -/
def State.pendingRegs (s : State) (e t : Nat) : List Nat :=
  let x := s.crew (e / 8)
  let own (r : SmpReq) : Bool := r.eng = e && r.slot = t
  ((x.lutq ++ x.sclq).filter own).flatMap fun r =>
    match r.kind with
    | .lut _ _ _ d .. => [d, d + 1, d + 2]
    | .sclh _ d _ => [d, d + 1, d + 2]
    | _ => []

/-- The next instruction of slot (e, t) is held for an operand (OPWAIT, R146). -/
def State.held (s : State) (e t : Nat) : Bool :=
  match s.pendingRegs e t with
  | [] => false
  | l => (kdecode (s.kword e (s.slot e t).pc)).vregs.any (fun r => l.contains r)

/-- Slot (e, t) can issue (R145-R148, R201). A killed thread ends at its next issue (R207). -/
def State.canIssue (s : State) (e t : Nat) : Bool :=
  let x := s.slot e t
  x.st = .ready && x.yld = [] && (x.killed || !s.held e t)

/-- The slot engine `e` issues from: highest priority, then round robin from the slot that issued last
(R145). -/
def State.pick (s : State) (e : Nat) : Option Nat :=
  let last := lget 7 (s.crew (e / 8)).lastIssue (e % 8)
  (((List.range 8).map (fun k => (last + 1 + k) % 8)).filter (s.canIssue e)).foldl (fun b t =>
    match b with
    | none => some t
    | some u => if (s.thread (s.slot e u).thr).prio < (s.thread (s.slot e t).thr).prio then some t else some u)
    none

/-- Engine `e` issues: composing power, ungated, not stopped (R145, R150, R170, R486). -/
def State.engIssues (s : State) (e : Nat) : Bool :=
  s.ready && s.engOn e && !s.bit (ENG_STAT_STOPPED e) && !s.stopping e

/-- Slot `t` of engine `e` has issued or left READY: no thread that yielded waits for it (R201). -/
def State.unyield (s : State) (e t : Nat) : State :=
  (List.range 8).foldl (fun s u =>
    let x := s.slot e u
    if x.yld = [] then s else s.setSlot e u { x with yld := x.yld.filter (fun v => v ≠ t) }) s

/-- The issue of slot (e, t) is counted and recorded (R145, R148, R171). -/
def State.issued (s : State) (e t : Nat) : State :=
  let x := s.crew (e / 8)
  ((s.setCrew (e / 8) { x with lastIssue := lset x.lastIssue (e % 8) t }).bump (ENG_ISSUED e)).unyield e t

/-- The outcome of the instruction `w` of slot (e, t), issued in state `s`. -/
def State.kFinish (s : State) (e t w : Nat) : KRes → State
  | .next r => r.setSlot e t { r.slot e t with pc := (s.slot e t).pc + 8 }
  | .jump r pc => r.setSlot e t { r.slot e t with pc := pc }
  | .fault c => s.threadFault e t c w
  | .wait r st b => r.setSlot e t { r.slot e t with st := st, blk := some b }
  | .ended r => r

/-- Slot (e, t) issues its next instruction, if it is one of the row: a fetch past the code region faults
with 0x5 and no word (R200), an illegal encoding with 0x1 whatever the guard (R178). A killed thread ends in
place of any instruction (R207). -/
def State.issueOf (s : State) (e t : Nat) (row : KIns → Bool) (eff : State → Nat → Nat → KIns → KRes) : State :=
  let pc := (s.slot e t).pc
  let w := s.kword e pc
  let i := kdecode w
  if (s.slot e t).killed then s
  else if s.codeBytes e < pc + 8 then (s.issued e t).threadFault e t 5 0
  else if !kLegal i then (s.issued e t).threadFault e t 1 w
  else if row i then (s.issued e t).kFinish e t w (eff (s.issued e t) e t i)
  else s

/-- The row at slot (e, t) of a running engine. -/
def State.kerf (s : State) (e t : Nat) (row : KIns → Bool) (eff : State → Nat → Nat → KIns → KRes) : State :=
  if s.engIssues e && s.pick e = some t then s.issueOf e t row eff else s

/-- The row is an opcode, in its vector or scalar form. -/
def opRow (v n : Nat) (i : KIns) : Bool := i.op = v || i.op = n

/-! ### Arithmetic (R174, R176, R179-R183) -/

/-- Results of `f` written to the enabled lanes of vD, with whether one saturated. -/
def Slot.vecWrite (x : Slot) (m : Half) (d : Nat) (f : Nat → SatWord) : Slot × Bool :=
  (lanesOn m).foldl (fun y l => (y.1.setV d l (f l).1, y.2 || (f l).2)) (x, false)

/-- The slot after an arithmetic instruction; saturation sets SAT and is counted once (R169). -/
def State.arithDone (s : State) (e t : Nat) (r : Slot × Bool) : KRes :=
  if r.2 then .next ((s.setSlot e t { r.1 with sat := true }).bump (ENG_SATCNT e))
  else .next (s.setSlot e t r.1)

/-- An arithmetic form: per enabled lane for a vector opcode, once for a scalar one whose mask is not zero
(R174). The operands of `f` are A, B per BS, C and the old D, all read at issue (R176). -/
def State.arith (s : State) (e t : Nat) (i : KIns) (f : Word → Word → Word → Word → SatWord) : KRes :=
  let x := s.slot e t
  let m := i.mask x
  if i.op < 0x20 then
    s.arithDone e t (x.vecWrite m i.d fun l => f (x.vreg i.a l) (i.vecB x l) (x.vreg i.c l) (x.vreg i.d l))
  else if m = 0 then .next s
  else
    let r := f (x.sreg i.a) (i.scaB x) (x.sreg i.c) (x.sreg i.d)
    s.arithDone e t (x.setS i.d r.1, r.2)

/-- Bits of `m` taken from `v`, the others from `old`. -/
def maskBits (m v old : Half) : Half := (v &&& m) ||| (old &&& ~~~ m)

/-- ADD (R179). -/
def State.kAdd (s : State) (e t : Nat) (i : KIns) : KRes :=
  let x := s.slot e t
  let m := i.mask x
  if isPred i.fn then
    .next (s.setSlot e t (x.setP i.d (maskBits m (predForm i.fn i.x2 (x.preg i.a) (x.preg i.b)) (x.preg i.d))))
  else if i.fn < 8 then s.arith e t i fun a b _ _ => noSat (addForm i.fn a b)
  else if i.op < 0x20 then
    let v := (List.range 16).foldl
      (fun n l => if cmpForm i.fn (x.vreg i.a l) (i.vecB x l) then n + 2 ^ l else n) 0
    .next (s.setSlot e t (x.setP i.d (maskBits m (BitVec.ofNat 16 v) (x.preg i.d))))
  else if m = 0 then .next s
  else .next (s.setSlot e t (x.setP i.d (if cmpForm i.fn (x.sreg i.a) (i.scaB x) then 0xFFFF else 0)))

def execKAdd (e t : Nat) (s : State) : Host.Outcome State Fault Refusal :=
  settled (s.kerf e t (opRow 0x10 0x20) State.kAdd)

/-- ADDS (R180). -/
def State.kAdds (s : State) (e t : Nat) (i : KIns) : KRes := s.arith e t i fun a b _ _ => addsForm i.fn a b

def execKAdds (e t : Nat) (s : State) : Host.Outcome State Fault Refusal :=
  settled (s.kerf e t (opRow 0x11 0x21) State.kAdds)

/-- MUL: C is the literal shift count (R181). -/
def State.kMul (s : State) (e t : Nat) (i : KIns) : KRes := s.arith e t i fun a b _ _ => mulForm i.fn i.c a b

def execKMul (e t : Nat) (s : State) : Host.Outcome State Fault Refusal :=
  settled (s.kerf e t (opRow 0x12 0x22) State.kMul)

/-- MAC: D is the accumulator (R181). -/
def State.kMac (s : State) (e t : Nat) (i : KIns) : KRes := s.arith e t i fun a b _ d => macForm i.fn i.c a b d

def execKMac (e t : Nat) (s : State) : Host.Outcome State Fault Refusal :=
  settled (s.kerf e t (opRow 0x13 0x23) State.kMac)

/-- MIN (R182). -/
def State.kMin (s : State) (e t : Nat) (i : KIns) : KRes := s.arith e t i fun a b _ _ => noSat (minForm i.fn a b)

def execKMin (e t : Nat) (s : State) : Host.Outcome State Fault Refusal :=
  settled (s.kerf e t (opRow 0x14 0x24) State.kMin)

/-- MAX (R182). -/
def State.kMax (s : State) (e t : Nat) (i : KIns) : KRes := s.arith e t i fun a b _ _ => noSat (maxForm i.fn a b)

def execKMax (e t : Nat) (s : State) : Host.Outcome State Fault Refusal :=
  settled (s.kerf e t (opRow 0x15 0x25) State.kMax)

/-- CLMP (R182). -/
def State.kClmp (s : State) (e t : Nat) (i : KIns) : KRes :=
  s.arith e t i fun a b c _ => noSat (clmpForm i.fn a b c)

def execKClmp (e t : Nat) (s : State) : Host.Outcome State Fault Refusal :=
  settled (s.kerf e t (opRow 0x16 0x26) State.kClmp)

/-- SHL (R182). -/
def State.kShl (s : State) (e t : Nat) (i : KIns) : KRes := s.arith e t i fun a b _ _ => shlForm i.fn a b

def execKShl (e t : Nat) (s : State) : Host.Outcome State Fault Refusal :=
  settled (s.kerf e t (opRow 0x17 0x27) State.kShl)

/-- SHR (R182). -/
def State.kShr (s : State) (e t : Nat) (i : KIns) : KRes := s.arith e t i fun a b _ _ => noSat (shrForm i.fn a b)

def execKShr (e t : Nat) (s : State) : Host.Outcome State Fault Refusal :=
  settled (s.kerf e t (opRow 0x18 0x28) State.kShr)

/-- The lowest PACE among the crews whose VALID is 1, and the lowest-numbered of them (R152). -/
def State.slowest (s : State) : Option (Nat × Nat) :=
  ((List.range 8).filter (fun c => s.bit (CMP_CREW_PACE_VALID c))).foldl (fun b c =>
    match b with
    | none => some (s.get (CMP_CREW_PACE_PACE c), c)
    | some (p, d) => if s.get (CMP_CREW_PACE_PACE c) < p then some (s.get (CMP_CREW_PACE_PACE c), c) else some (p, d))
    none

/-- GLB_PACE.PACE (R152, R172). -/
def State.glbPace (s : State) : Nat := match s.slowest with | some (p, _) => p | none => 0

/-- The value CVT.SYS reads (R183). -/
def State.sysValue (s : State) (e t k : Nat) : Nat :=
  let n := (s.slot e t).thr
  match k with
  | 0 => n
  | 1 => e
  | 2 => t
  | 3 => (s.thread n).ctx
  | 4 => (s.thread n).nctx
  | 5 => if (s.slot e t).sat then 1 else 0
  | _ => s.glbPace

/-- CVT (R183). -/
def State.kCvt (s : State) (e t : Nat) (i : KIns) : KRes :=
  let x := s.slot e t
  let m := i.mask x
  match i.fn with
  | 5 => s.arithDone e t (x.vecWrite m i.d fun _ => noSat (x.sreg i.a))
  | 6 => if m = 0 then .next s else .next (s.setSlot e t (x.setS i.d (x.vreg i.a (i.imm % 16))))
  | 7 => s.arithDone e t (x.vecWrite m i.d fun l => noSat (x.sreg i.a + BitVec.ofNat 32 l * i.immW))
  | 8 => s.arith e t i fun _ _ _ _ => noSat i.immW
  | 10 => s.arith e t i fun _ _ _ _ => noSat (BitVec.ofNat 32 (s.sysValue e t i.imm))
  | _ => s.arith e t i fun a b _ _ => cvtForm i.fn i.imm a b

def execKCvt (e t : Nat) (s : State) : Host.Outcome State Fault Refusal :=
  settled (s.kerf e t (opRow 0x19 0x29) State.kCvt)

/-- BLND (R193). -/
def State.kBlnd (s : State) (e t : Nat) (i : KIns) : KRes :=
  let x := s.slot e t
  s.arithDone e t (x.vecWrite (i.mask x) i.d fun l => blndForm i.fn (x.vreg i.a l) (i.vecB x l) (x.vreg i.c l))

def execKBlnd (e t : Nat) (s : State) : Host.Outcome State Fault Refusal :=
  settled (s.kerf e t (fun i => i.op = 0x58) State.kBlnd)

/-! ### Local store (R153-R155, R184, R185) -/

/-- Engine whose store thread address `a` of engine `e` names, and the offset in it (R153). -/
def lsTarget (e a : Nat) : Nat × Nat :=
  (if a / 2 ^ 21 % 2 = 1 then e / 8 * 8 + a / 2 ^ 18 % 8 else e, a % 2 ^ 18)

/-- Control address of thread address `a` (R128, R153). -/
def lsAddr (e a : Nat) : Nat := lsBase (lsTarget e a).1 + (lsTarget e a).2

/-- The cause of the fault an access to `a` by a thread of engine `e` takes, in the order of R185. -/
def State.lsFault (s : State) (e a : Nat) (store : Bool) : Option Nat :=
  let k := (lsTarget e a).1
  if 2 ^ 22 ≤ a ∨ (a / 2 ^ 21 % 2 = 0 ∧ a / 2 ^ 18 % 8 ≠ 0) then some 2
  else if a % 4 ≠ 0 then some 3
  else if store ∧ (lsTarget e a).2 < s.codeBytes k then some 4
  else if s.bit (ENG_STAT_GATED k) then some 7
  else none

/-- The lanes of LD or ST with their addresses, computed in 32 bits; a scalar form has lane 0 alone
(R174, R184). -/
def KIns.lsLanes (i : KIns) (x : Slot) : List (Nat × Nat) :=
  let m := i.mask x
  match i.fn with
  | 0 => if m = 0 then [] else [(0, (x.sreg i.a + i.immW).toNat)]
  | 1 => (lanesOn m).map fun l => (l, (x.sreg i.a + i.immW + BitVec.ofNat 32 (4 * l)).toNat)
  | _ => (lanesOn m).map fun l => (l, (x.vreg i.a l + i.immW).toNat)

/-- Passes of a vector access beyond the first: lanes on one bank of one store, lanes on one word counting
once (R155). -/
def extraPasses (addrs : List Nat) : Nat :=
  let words := (addrs.map (· / 4)).eraseDups
  (words.map (fun w => (words.filter (fun v => v / 65536 = w / 65536 && v % 16 = w % 16)).length)).foldl max 0 - 1

/-- LD (R184, R185). -/
def State.kLd (s : State) (e t : Nat) (i : KIns) : KRes :=
  let x := s.slot e t
  let la := i.lsLanes x
  match la.findSome? (fun p => s.lsFault e p.2 false) with
  | some c => .fault c
  | none =>
    let x := la.foldl (fun y p =>
      if i.fn = 0 then y.setS i.d (s.word (lsAddr e p.2)) else y.setV i.d p.1 (s.word (lsAddr e p.2))) x
    .next ((s.setSlot e t x).bumpN (ENG_LSCONF e) (extraPasses (la.map fun p => lsAddr e p.2)))

def execKLd (e t : Nat) (s : State) : Host.Outcome State Fault Refusal :=
  settled (s.kerf e t (fun i => i.op = 0x30) State.kLd)

/-- ST: lanes in ascending order, so the higher lane's value stays where two name one word (R184, R185). -/
def State.kSt (s : State) (e t : Nat) (i : KIns) : KRes :=
  let x := s.slot e t
  let la := i.lsLanes x
  match la.findSome? (fun p => s.lsFault e p.2 true) with
  | some c => .fault c
  | none =>
    let s := la.foldl (fun s p =>
      s.putWord (lsAddr e p.2) (if i.fn = 0 then x.sreg i.d else x.vreg i.d p.1)) s
    .next (s.bumpN (ENG_LSCONF e) (extraPasses (la.map fun p => lsAddr e p.2)))

def execKSt (e t : Nat) (s : State) : Host.Outcome State Fault Refusal :=
  settled (s.kerf e t (fun i => i.op = 0x31) State.kSt)

/-! ### Flumes (R186, R187, R196) -/

/-- Context `c` is bound to the thread of slot (e, t) and not FREE (R186, R232). -/
def State.ctxBound (s : State) (e t c : Nat) : Bool :=
  let n := s.thread (s.slot e t).thr
  decide (n.ctx ≤ c ∧ c < n.ctx + n.nctx) && s.get (CTX_STATE c) ≠ cFREE

/-- A thread's PULL finds an entry: one is visible and threads consume the flume (R215). -/
def State.pullOk (s : State) (f : Nat) : Bool :=
  !hwConsumer f && !s.fwConsumer f && !(s.flume f).vis.isEmpty

/-- Four scalar registers from sD on. -/
def Slot.setS4 (x : Slot) (d : Nat) (e : FEntry) : Slot :=
  (((x.setS d e.w0).setS (d + 1) e.w1).setS (d + 2) e.w2).setS (d + 3) e.w3

/-- A SLICE entry of an intake flume whose slot is closed: CLOSEDSEQ of the selection record is VALID and at or after
the entry's slot (R369, R370). A correction program discards it. -/
def State.dupSlice (s : State) (f : Nat) (x : FEntry) : Bool :=
  let w := (s.word (lsBase 0 + 0x3FFD4)).toNat
  s.corrCtx (f / 16) && getBits x.w3 28 4 = 4 && w.testBit 16 && decide ((w % 65536 + 65536 - getBits x.w2 0 16) % 65536 < 32768)

/-- PULL of the oldest visible entry of `f` into sD-s(D+3) of slot (e, t) (R186); the context records who
last pulled from its intake (R229), and a SLICE entry of a closed slot is counted (R370; log entry 139). -/
def State.pullInto (s : State) (e t f d : Nat) : State :=
  match s.takeVis f with
  | none => s
  | some (x, s) =>
    let s := s.setSlot e t ((s.slot e t).setS4 d x)
    if f % 16 = 0 then
      let s := s.set (CTX_LASTTHR (f / 16)) (s.slot e t).thr
      if s.dupSlice f x then s.bump LCR_CNT_DUPDISC else s
    else s

/-- Entry pushed by the thread of slot (e, t) to `f` (R186). -/
def State.pushFrom (s : State) (e t f : Nat) (w0 w1 w2 w3 : Word) : State :=
  (s.pushVis f (.mk4 w0 w1 w2 w3 (s.slot e t).thr e)).fwService f

/-- Predicate `r` of slot (e, t) written with an outcome. -/
def State.setOutcome (s : State) (e t r : Nat) (ok : Bool) : State :=
  s.setSlot e t ((s.slot e t).setP r (if ok then 0xFFFF else 0))

/-- PULL (R186). -/
def State.kPull (s : State) (e t : Nat) (i : KIns) : KRes :=
  let x := s.slot e t
  let c := (x.sreg i.a).toNat
  let f := c * 16 + i.imm
  if i.mask x = 0 then .next s
  else if !s.ctxBound e t c then .fault 6
  else if s.pullOk f then
    let s := s.pullInto e t f i.d
    .next (if i.x1 = 1 then s.setOutcome e t i.b true else s)
  else if i.x1 = 1 then .next (s.setOutcome e t i.b false)
  else .wait s .flumewait (.pull f i.d)

def execKPull (e t : Nat) (s : State) : Host.Outcome State Fault Refusal :=
  settled (s.kerf e t (fun i => i.op = 0x40) State.kPull)

/-- PUSH (R186, R187). -/
def State.kPush (s : State) (e t : Nat) (i : KIns) : KRes :=
  let x := s.slot e t
  let c := (x.sreg i.a).toNat
  let f := c * 16 + i.imm
  let w (k : Nat) := x.sreg (i.d + k)
  if i.mask x = 0 then .next s
  else if !s.ctxBound e t c then .fault 6
  else if !s.flumeFull f then
    let s := s.pushFrom e t f (w 0) (w 1) (w 2) (w 3)
    .next (if i.x1 = 1 then s.setOutcome e t i.b true else s)
  else if i.x1 = 1 then .next (s.setOutcome e t i.b false)
  else .wait s .flumewait (.push f (w 0) (w 1) (w 2) (w 3))

def execKPush (e t : Nat) (s : State) : Host.Outcome State Fault Refusal :=
  settled (s.kerf e t (fun i => i.op = 0x41) State.kPush)

/-- A RELO entry reaches the flume manager: held under its tag, or refused (R196, R226). -/
def State.reloFrom (s : State) (e t f : Nat) (w0 w1 w2 w3 tag : Word) (pred : Option Nat) : State :=
  let ok := s.reloOk tag
  let s := if ok then s.relo f (.mk4 w0 w1 w2 w3 (s.slot e t).thr e) tag else s.reloRefused tag
  match pred with
  | some r => s.setOutcome e t r ok
  | none => s

/-- RELO: the thread waits only while the flume has no free place (R196). -/
def State.kRelo (s : State) (e t : Nat) (i : KIns) : KRes :=
  let x := s.slot e t
  let c := (x.sreg i.a).toNat
  let f := c * 16 + i.imm
  let w (k : Nat) := x.sreg (i.d + k)
  let pred := if i.x1 = 1 then some i.c else none
  if i.mask x = 0 then .next s
  else if !s.ctxBound e t c then .fault 6
  else if s.flumeFull f then .wait s .flumewait (.relo f (w 0) (w 1) (w 2) (w 3) (x.sreg i.b) pred)
  else .next (s.reloFrom e t f (w 0) (w 1) (w 2) (w 3) (x.sreg i.b) pred)

def execKRelo (e t : Nat) (s : State) : Host.Outcome State Fault Refusal :=
  settled (s.kerf e t (fun i => i.op = 0x62) State.kRelo)

/-! ### Samplers (R147, R188-R192) -/

/-- A sampler instruction of slot (e, t) sends its request; a third one waits (R147), as does one that holds
its thread (R162, R166). -/
def State.sample (s : State) (e t : Nat) (k : SmpKind) : KRes :=
  if 2 ≤ s.smpOut e t then .wait s .smpwait (.third k)
  else
    let held := s.holdsThread e t k
    let s := s.enqueue e t k
    let s := s.setCrew (e / 8) (s.crew (e / 8)).settle
    if held then .wait s .smpwait .sampler else .next s

/-- LUT3: an input bound on an enabled lane sets SAT (R159, R188, R203). With no lane enabled no request is
sent (R174). -/
def State.kLut3 (s : State) (e t : Nat) (i : KIns) : KRes :=
  let x := s.slot e t
  let m := i.mask x
  let n := if i.x1 = 1 then (x.sreg i.b).toNat else i.imm
  let row (r : Nat) : List Word := (List.range 16).map (x.vreg r)
  if m = 0 then .next s
  else
    let s := if lutClips x i.a m then (s.setSlot e t { x with sat := true }).bump (ENG_SATCNT e) else s
    s.sample e t (.lut (row i.a) (row (i.a + 1)) (row (i.a + 2)) i.d m (nbits n 0 2) (nbits n 2 3)
      (nbits n 5 1 = 1))

def execKLut3 (e t : Nat) (s : State) : Host.Outcome State Fault Refusal :=
  settled (s.kerf e t (fun i => i.op = 0x50) State.kLut3)

/-- SCLV.OPEN: the descriptor is read at issue; an address fault is that of its first word that faults, and a
descriptor outside R162 or R190 faults with 0x1. -/
def State.kSclvOpen (s : State) (e t : Nat) (i : KIns) : KRes :=
  let x := s.slot e t
  let a (k : Nat) : Nat := (x.sreg i.a + i.immW + BitVec.ofNat 32 (4 * k)).toNat
  if i.mask x = 0 then .next s
  else match (List.range 8).findSome? (fun k => s.lsFault e (a k) false) with
    | some c => .fault c
    | none =>
      match passDesc (fun k => (s.word (lsAddr e (a k))).toNat) with
      | none => .fault 1
      | some d => s.sample e t (.sopen d)

def execKSclvOpen (e t : Nat) (s : State) : Host.Outcome State Fault Refusal :=
  settled (s.kerf e t (fun i => i.op = 0x51 && i.fn = 0) State.kSclvOpen)

/-- SCLV.RUN of output line sA (R189). -/
def State.kSclvRun (s : State) (e t : Nat) (i : KIns) : KRes :=
  let x := s.slot e t
  if i.mask x = 0 then .next s else s.sample e t (.srun (x.sreg i.a))

def execKSclvRun (e t : Nat) (s : State) : Host.Outcome State Fault Refusal :=
  settled (s.kerf e t (fun i => i.op = 0x51 && i.fn = 1) State.kSclvRun)

/-- SCLV.CLOSE (R189). -/
def State.kSclvClose (s : State) (e t : Nat) (i : KIns) : KRes :=
  if i.mask (s.slot e t) = 0 then .next s else s.sample e t .sclose

def execKSclvClose (e t : Nat) (s : State) : Host.Outcome State Fault Refusal :=
  settled (s.kerf e t (fun i => i.op = 0x51 && i.fn = 2) State.kSclvClose)

/-- SCLH of output pixels sA to sA + 15 (R191). -/
def State.kSclh (s : State) (e t : Nat) (i : KIns) : KRes :=
  let x := s.slot e t
  if i.mask x = 0 then .next s else s.sample e t (.sclh (x.sreg i.a) i.d (i.mask x))

def execKSclh (e t : Nat) (s : State) : Host.Outcome State Fault Refusal :=
  settled (s.kerf e t (fun i => i.op = 0x52) State.kSclh)

/-! ### Events (R194, R195) -/

/-- The release condition of WAITF; a mask of 0 releases at once (R194). -/
def waitRelease (all : Bool) (flags mask : Word) : Bool :=
  mask = 0 || (if all then flags &&& mask = mask else flags &&& mask ≠ 0)

/-- WAITF of slot (e, t) releases: sD takes the flags of the mask that were set, and they are cleared when
asked (R194). -/
def State.waitDone (s : State) (e t : Nat) (mask : Word) (clr : Bool) (d : Nat) : State :=
  let n := (s.slot e t).thr
  let x := s.thread n
  let got := x.flags &&& mask
  let s := s.setSlot e t ((s.slot e t).setS d got)
  s.setThread n { x with waiting := false, flags := if clr then x.flags &&& ~~~ got else x.flags }

/-- WAITF (R194). -/
def State.kWaitf (s : State) (e t : Nat) (i : KIns) : KRes :=
  let x := s.slot e t
  let n := s.thread x.thr
  let mask := x.sreg i.a
  let all : Bool := i.fn = 1
  let rel := waitRelease all n.flags mask
  if i.mask x = 0 then .next s
  else if rel || i.x2 = 1 then .next (s.waitDone e t mask (rel && i.x1 = 1) i.d)
  else .wait (s.setThread x.thr { n with waiting := true, waitall := all, mask := mask }) .evwait
    (.waitf mask all (i.x1 = 1) i.d)

def execKWaitf (e t : Nat) (s : State) : Host.Outcome State Fault Refusal :=
  settled (s.kerf e t (fun i => i.op = 0x60) State.kWaitf)

/-- SIGF: flags sB set in thread sA (R195, R208). -/
def State.kSigf (s : State) (e t : Nat) (i : KIns) : KRes :=
  let x := s.slot e t
  if i.mask x = 0 then .next s else .next (s.signal (x.sreg i.a).toNat (x.sreg i.b))

def execKSigf (e t : Nat) (s : State) : Host.Outcome State Fault Refusal :=
  settled (s.kerf e t (fun i => i.op = 0x61) State.kSigf)

/-! ### Control (R198-R202) -/

/-- Byte address `a` is a branch target in the code region of engine `e` (R200). -/
def State.inCode (s : State) (e : Nat) (a : Int) : Bool :=
  decide (0 ≤ a ∧ a % 8 = 0 ∧ a < s.codeBytes e)

/-- BR (R198, R200): a target outside the code region faults before SAT is cleared (R149). -/
def State.kBr (s : State) (e t : Nat) (i : KIns) : KRes :=
  let x := s.slot e t
  let m := i.mask x
  let taken := match i.fn with
    | 0 => decide (m ≠ 0)
    | 1 => decide (m = 0xFFFF#16)
    | 2 => x.sat
    | _ => !x.sat
  let target : Int := x.pc + i.simm * 8
  let s1 := if i.x1 = 1 then s.setSlot e t { x with sat := false } else s
  if !taken then .next s1
  else if s.inCode e target then .jump s1 target.toNat
  else .fault 5

def execKBr (e t : Nat) (s : State) : Host.Outcome State Fault Refusal :=
  settled (s.kerf e t (fun i => i.op = 0x70) State.kBr)

/-- JMP (R199, R200). -/
def State.kJmp (s : State) (e t : Nat) (i : KIns) : KRes :=
  let x := s.slot e t
  let target := (x.sreg i.a + i.immW).toNat
  if i.mask x = 0 then .next s
  else if !s.inCode e target then .fault 5
  else .jump (if i.x1 = 1 then s.setSlot e t (x.setS i.d (BitVec.ofNat 32 (x.pc + 8))) else s) target

def execKJmp (e t : Nat) (s : State) : Host.Outcome State Fault Refusal :=
  settled (s.kerf e t (fun i => i.op = 0x71) State.kJmp)

/-- YLD: every other READY thread of the engine of equal or higher priority issues first (R201). -/
def State.kYld (s : State) (e t : Nat) (i : KIns) : KRes :=
  let x := s.slot e t
  let prio (u : Nat) := (s.thread (s.slot e u).thr).prio
  if i.mask x = 0 then .next s
  else
    let l := (List.range 8).filter fun u =>
      u ≠ t && (s.slot e u).st = .ready && !s.held e u && decide (prio t ≤ prio u)
    .next (s.setSlot e t { x with yld := l })

def execKYld (e t : Nat) (s : State) : Host.Outcome State Fault Refusal :=
  settled (s.kerf e t (fun i => i.op = 0x7E) State.kYld)

/-- The thread of slot (e, t) ends, with its trace entry (R202, R233). -/
def State.haltSlot (s : State) (e t : Nat) : State :=
  let x := s.slot e t
  (s.trace 0x03 0 x.thr e t x.pc).endSlot e t

/-- HALT (R202). -/
def State.kHalt (s : State) (e t : Nat) (i : KIns) : KRes :=
  if i.mask (s.slot e t) = 0 then .next s else .ended (s.haltSlot e t)

/-- HALT, and the end of a killed thread at its next issue (R202, R207). -/
def State.haltRow (s : State) (e t : Nat) : State :=
  if s.engIssues e && s.pick e = some t then
    if (s.slot e t).killed then (s.issued e t).haltSlot e t
    else s.issueOf e t (fun i => i.op = 0x7F) State.kHalt
  else s

def execKHalt (e t : Nat) (s : State) : Host.Outcome State Fault Refusal := settled (s.haltRow e t)

/-! ### Any instruction (R150, STEP) -/

/-- The effect of a legal instruction, by its opcode (R177). -/
def State.kAny (s : State) (e t : Nat) (i : KIns) : KRes :=
  match i.op % 256 with
  | 0x10 => s.kAdd e t i
  | 0x20 => s.kAdd e t i
  | 0x11 => s.kAdds e t i
  | 0x21 => s.kAdds e t i
  | 0x12 => s.kMul e t i
  | 0x22 => s.kMul e t i
  | 0x13 => s.kMac e t i
  | 0x23 => s.kMac e t i
  | 0x14 => s.kMin e t i
  | 0x24 => s.kMin e t i
  | 0x15 => s.kMax e t i
  | 0x25 => s.kMax e t i
  | 0x16 => s.kClmp e t i
  | 0x26 => s.kClmp e t i
  | 0x17 => s.kShl e t i
  | 0x27 => s.kShl e t i
  | 0x18 => s.kShr e t i
  | 0x28 => s.kShr e t i
  | 0x19 => s.kCvt e t i
  | 0x29 => s.kCvt e t i
  | 0x30 => s.kLd e t i
  | 0x31 => s.kSt e t i
  | 0x40 => s.kPull e t i
  | 0x41 => s.kPush e t i
  | 0x50 => s.kLut3 e t i
  | 0x51 => if i.fn = 0 then s.kSclvOpen e t i else if i.fn = 1 then s.kSclvRun e t i else s.kSclvClose e t i
  | 0x52 => s.kSclh e t i
  | 0x58 => s.kBlnd e t i
  | 0x60 => s.kWaitf e t i
  | 0x61 => s.kSigf e t i
  | 0x62 => s.kRelo e t i
  | 0x70 => s.kBr e t i
  | 0x71 => s.kJmp e t i
  | 0x7E => s.kYld e t i
  | _ => s.kHalt e t i

/-- Slot (e, t) issues one instruction, whatever it is. -/
def State.issueAny (s : State) (e t : Nat) : State :=
  if (s.slot e t).killed then (s.issued e t).haltSlot e t
  else s.issueOf e t (fun _ => true) State.kAny

/-! ### Releases (R148, R194) -/

/-- The flume instruction that blocks slot (e, t) can complete (R148). -/
def State.flumeReady (s : State) (e t : Nat) : Bool :=
  match (s.slot e t).blk with
  | some (.pull f _) => s.pullOk f
  | some (.push f _ _ _ _) => !s.flumeFull f
  | some (.relo f _ _ _ _ _ _) => !s.flumeFull f
  | _ => false

/-- The blocked flume instruction completes and its thread is READY at the next one (R148). -/
def State.flumeRelease (s : State) (e t : Nat) : State :=
  let x := s.slot e t
  let rel (s : State) := s.setSlot e t (s.slot e t).released
  match x.blk with
  | some (.pull f d) => rel ((s.pullInto e t f d).trace 0x11 3 x.thr e t f)
  | some (.push f w0 w1 w2 w3) => rel ((s.pushFrom e t f w0 w1 w2 w3).trace 0x11 3 x.thr e t f)
  | some (.relo f w0 w1 w2 w3 tag p) => rel ((s.reloFrom e t f w0 w1 w2 w3 tag p).trace 0x11 3 x.thr e t f)
  | _ => s

/-- FLUMEWAIT_RELEASE of slot (e, t) (R148). -/
def execFlumewaitRelease (e t : Nat) (s : State) : Host.Outcome State Fault Refusal :=
  settled (if s.ready && (s.slot e t).st = .flumewait && s.flumeReady e t then s.flumeRelease e t else s)

/-- The WAITF that blocks slot (e, t) can complete (R194). -/
def State.eventReady (s : State) (e t : Nat) : Bool :=
  match (s.slot e t).blk with
  | some (.waitf m all _ _) => waitRelease all (s.thread (s.slot e t).thr).flags m
  | _ => false

/-- The blocked WAITF completes (R148, R194). -/
def State.eventRelease (s : State) (e t : Nat) : State :=
  let x := s.slot e t
  match x.blk with
  | some (.waitf m _ clr d) =>
    let s := s.trace 0x12 3 x.thr e t ((s.thread x.thr).flags &&& m).toNat
    let s := s.waitDone e t m clr d
    s.setSlot e t (s.slot e t).released
  | _ => s

/-- EVWAIT_RELEASE of slot (e, t) (R194). -/
def execEvwaitRelease (e t : Nat) (s : State) : Host.Outcome State Fault Refusal :=
  settled (if s.ready && (s.slot e t).st = .evwait && s.eventReady e t then s.eventRelease e t else s)

end Sys2Proof.Machine
end

