-- ==== Sys2Proof/Machine/Engines.lean ====
section
/-! DEFINITION. Engine commands (R150, R170), pace (R152), and the layer-fetch units (R163, R219-R223,
R254). -/

namespace Sys2Proof.Machine

/-! ### ENG_CMD (R150) -/

/-- ENG_CMD `op` of slot `t` on engine `e`; the page of an engine unpowered in the role takes no write
(R16, R143). -/
def State.engCommand (s : State) (e op t : Nat) (f : State → State) : State :=
  if !decide (e < 64) || !s.crewOn (e / 8) then s.answer rUNPWR
  else s.command (ENG_CMD e) (op + 16 * (t % 8)) f

/-- A refused engine command. -/
def State.engRefuse (s : State) (e : Nat) : State := s.setStat (ENG_CMD e) stREFUSED

/-- STOP: no further instruction issues; STAT reads DONE when everything in flight has completed. An engine
already stopped has nothing in flight (R150). -/
def State.engStop (s : State) (e : Nat) : State :=
  s.engCommand e 1 0 fun s =>
    s.setStat (ENG_CMD e) (if s.bit (ENG_STAT_STOPPED e) then stDONE else stBUSY)

def execStopEngine (e : Nat) (s : State) : Host.Outcome State Fault Refusal :=
  settled (if s.running then s.engStop e else s)

/-- Requests of engine `e` in its crew's queues. -/
def State.engRequests (s : State) (e : Nat) : Nat :=
  (((s.crew (e / 8)).lutq ++ (s.crew (e / 8)).sclq).filter (fun r => r.eng = e)).length

/-- A resident slot stops, keeping its state as PRIOR (R150). -/
def Slot.stop (x : Slot) : Slot :=
  if x.st = .free ∨ x.st = .stopped then x else { x with st := .stopped, prior := x.st, yld := [] }

/-- Everything in flight has completed: every thread of the engine is STOPPED (R150). -/
def State.engStopped (s : State) (e : Nat) : State :=
  let s := (List.range 8).foldl (fun s t => s.setSlot e t (s.slot e t).stop) s
  (s.set (ENG_STAT_STOPPED e) 1).setStat (ENG_CMD e) stDONE

/-- ENGINE_STOP_DRAINED (R150). -/
def execEngineStopDrained (e : Nat) (s : State) : Host.Outcome State Fault Refusal :=
  settled (if s.running && s.stopping e && s.engRequests e = 0 then s.engStopped e else s)

/-- A stopped slot returns to the state it would now hold: a kill that waited takes effect, and a wakeup that
arrived meanwhile completes the blocked instruction (R150, R207). -/
def State.resumeSlot (s : State) (e t : Nat) : State :=
  let x := s.slot e t
  if x.st ≠ .stopped then s
  else if x.killed then
    if x.prior = .fault then s.endSlot e t
    else s.setSlot e t { x with st := .ready, prior := .free, blk := none }
  else
    let s := s.setSlot e t { x with st := x.prior, prior := .free }
    if x.prior = .flumewait ∧ s.flumeReady e t then s.flumeRelease e t
    else if x.prior = .evwait ∧ s.eventReady e t then s.eventRelease e t
    else s

/-- RESUME: refused when the engine is not stopped (R150). -/
def State.engResume (s : State) (e : Nat) : State :=
  s.engCommand e 2 0 fun s =>
    if !s.bit (ENG_STAT_STOPPED e) then s.engRefuse e
    else
      let s := s.set (ENG_STAT_STOPPED e) 0
      let s := (List.range 8).foldl (fun s t => s.resumeSlot e t) s
      s.setStat (ENG_CMD e) stDONE

def execResumeEngine (e : Nat) (s : State) : Host.Outcome State Fault Refusal :=
  settled (if s.running then s.engResume e else s)

/-- One instruction of slot `t` of a stopped engine: the slot stays STOPPED and PRIOR reads the state the
thread now holds (R150). -/
def State.stepSlot (s : State) (e t : Nat) : State :=
  let x := s.slot e t
  let s := (s.setSlot e t { x with st := .ready, prior := .free, yld := [] }).issueAny e t
  let y := s.slot e t
  if y.st = .free then s else s.setSlot e t { y with st := .stopped, prior := y.st }

/-- STEP: refused unless the engine is stopped and the slot's PRIOR is READY (R150). An instruction that an
operand holds leaves PRIOR at OPWAIT, so STEP is refused then. -/
def State.engStep (s : State) (e t : Nat) : State :=
  s.engCommand e 3 t fun s =>
    let t := t % 8
    let x := s.slot e t
    if !s.bit (ENG_STAT_STOPPED e) || x.st ≠ .stopped || x.prior ≠ .ready || (!x.killed && s.held e t) then
      s.engRefuse e
    else (s.stepSlot e t).setStat (ENG_CMD e) stDONE

def execStepEngine (e t : Nat) (s : State) : Host.Outcome State Fault Refusal :=
  settled (if s.running then s.engStep e t else s)

/-- CLEAR: frees a slot in FAULT (R149, R150). -/
def State.engClear (s : State) (e t : Nat) : State :=
  s.engCommand e 4 t fun s =>
    if (s.slot e (t % 8)).st ≠ .fault then s.engRefuse e
    else (s.endSlot e (t % 8)).setStat (ENG_CMD e) stDONE

def execClearSlot (e t : Nat) (s : State) : Host.Outcome State Fault Refusal :=
  settled (if s.running then s.engClear e t else s)

/-! ### Gating (R152, R170) -/

/-- Every engine of the crew is gated: its samplers are powered down (R170). -/
def State.crewGated (s : State) (c : Nat) : Bool :=
  (List.range 8).all (fun k => s.bit (ENG_STAT_GATED (8 * c + k)))

/-- GLB_PACE from the crews (R152, R172). -/
def State.paceRefresh (s : State) : State :=
  match s.slowest with
  | some (p, c) => s.setAll [(GLB_PACE_PACE, p), (GLB_PACE_CREW, c), (GLB_PACE_VALID, 1)]
  | none => s.setAll [(GLB_PACE_PACE, 0), (GLB_PACE_CREW, 0), (GLB_PACE_VALID, 0)]

/-- Engine `e` loses power; a crew then fully gated has no valid pace (R152, R170). -/
def State.gateEngine (s : State) (e : Nat) : State :=
  let s := s.set (ENG_STAT_GATED e) 1
  if s.crewGated (e / 8) then (s.set (CMP_CREW_PACE_VALID (e / 8)) 0).paceRefresh else s

/-- The loaded code written into the code region of engine `e` (R230, R252, R368). -/
def State.takeCode (s : State) (e : Nat) : State :=
  s.eng.code.foldl (fun s p => s.putBytes (lsBase e + p.base) p.bytes) s

/-- Engine `e` powers up with every slot FREE and takes its code (R170, R252, R467). The first pace window of
a crew that was fully gated follows within a period (R152). -/
def State.ungateEngine (s : State) (e : Nat) : State :=
  let c := e / 8
  let s := if s.crewGated c then s.setCrew c { s.crew c with paceWin := s.now } else s
  (s.set (ENG_STAT_GATED e) 0).takeCode e

/-- GATE: refused unless every slot is FREE (R170). -/
def State.engGate (s : State) (e : Nat) : State :=
  s.engCommand e 5 0 fun s =>
    if s.resident e ≠ [] then s.engRefuse e else (s.gateEngine e).setStat (ENG_CMD e) stDONE

def execEngGate (e : Nat) (s : State) : Host.Outcome State Fault Refusal :=
  settled (if s.running then s.engGate e else s)

/-- UNGATE (R170). Below READY the engines stay gated (R486, R547): the command then leaves the engine to the
next entry to READY. -/
def State.engUngate (s : State) (e : Nat) : State :=
  s.engCommand e 6 0 fun s =>
    let s := if s.bit (ENG_STAT_GATED e) && s.ready then s.ungateEngine e else s
    s.setStat (ENG_CMD e) stDONE

def execEngUngate (e : Nat) (s : State) : Host.Outcome State Fault Refusal :=
  settled (if s.running then s.engUngate e else s)

/-- Period of the pace windows, ns (R152). -/
abbrev pacePeriod : Nat := 1000000

/-- The ring count of a window becomes crew `c`'s PACE (R152). -/
def State.paceWindow (s : State) (c count : Nat) : State :=
  let s := (s.set (CMP_CREW_PACE_PACE c) count).set (CMP_CREW_PACE_VALID c) 1
  let x := s.crew c
  (s.setCrew c { x with paceWin := s.now + pacePeriod }).paceRefresh

/-- PACE_WINDOW of crew `c`, with the rate the ring measured (R152). -/
def execPaceWindow (c count : Nat) (s : State) : Host.Outcome State Fault Refusal :=
  settled (if s.running && s.crewOn c && !s.crewGated c && decide (count < 2 ^ 16) &&
      decide ((s.crew c).paceWin ≤ s.now) then s.paceWindow c count else s)

/-! ### Hardware consumers (R218-R223) -/

/-- Entry field access. -/
def FEntry.bits (x : FEntry) (w lo n : Nat) : Nat :=
  getBits (if w = 0 then x.w0 else if w = 1 then x.w1 else if w = 2 then x.w2 else x.w3) lo n

/-- SIGEN and ACKEN of a FETCH or OUT entry (R222). -/
def FEntry.sigen (x : FEntry) : Bool := x.bits 3 5 1 = 1
def FEntry.acken (x : FEntry) : Bool := x.bits 3 6 1 = 1

/-- ACK places of flume `g` reserved by entries in progress (R218). -/
def State.reserved (s : State) (g : Nat) : Nat :=
  (s.eng.flight.filter (fun i => i.e.acken && i.f / 16 * 16 + 10 = g)).length

/-- A place for the ACK of an entry of flume `f` can be reserved (R218). -/
def State.ackFree (s : State) (f : Nat) (x : FEntry) : Bool :=
  let g := f / 16 * 16 + 10
  !x.acken || decide (s.flumeLen g + s.reserved g < 2 ^ s.get (CTX_DEPTH (f / 16) 10))

/-- Among the flumes that `serves`, the one whose head entry became visible first and can start (R219). -/
def State.nextEntry (s : State) (serves : Nat → Bool) : Option (Nat × FEntry) :=
  s.eng.flumes.foldl (fun b p =>
    match p.2.vis with
    | [] => b
    | x :: _ =>
      if !serves p.1 || !s.ackFree p.1 x then b
      else match b with
        | none => some (p.1, x)
        | some (g, y) => if x.ord < y.ord then some (p.1, x) else some (g, y)) none

/-- An entry with the wrong TYPE, a reserved bit or a field outside its range is discarded (R221). -/
def State.badEntry (s : State) (f : Nat) : State :=
  ((s.bump FLM_BADDESC).set (CTX_ERR (f / 16)) 1).trace0 0x0B 1 f

/-- An entry completes: its ACK is pushed and its flag set in the pushing thread (R213, R222). -/
def State.completeEntry (s : State) (i : InFlight) : State :=
  let x := i.e
  let s := if x.acken then
    s.pushVis (i.f / 16 * 16 + 10)
      (.mk4 x.w0 (BitVec.ofNat 32 (i.status + 16 * (i.f % 16))) x.w2 (BitVec.ofNat 32 (5 * 2 ^ 28)) 0x3FF 0)
    else s
  if x.sigen then s.signal x.thr (BitVec.ofNat 32 (2 ^ x.bits 3 0 5)) else s

/-! ### The fill path (R163) -/

/-- Bits per sample of a DEPTH code (R98). -/
def depthBits (d : Nat) : Nat := match d with | 0 => 8 | 1 => 10 | 2 => 12 | _ => 16

/-- A sample as 10 bits (R163). -/
def to10 (depth x : Nat) : Nat :=
  match depth with
  | 0 => x * 4 ||| x / 64
  | 1 => x
  | 2 => min 1023 ((x + 2) / 4)
  | _ => min 1023 ((x + 32) / 64)

/-- Sample `n` of a byte string of `bits`-bit samples, most significant bit first, as SMPTE ST 2110-20 packs
a pgroup (log entry 15). -/
def sampleAt (bits : Nat) (l : List Byte) (n : Nat) : Nat :=
  (List.range bits).foldl (fun v k =>
    let p := n * bits + k
    2 * v + (if (lget 0#8 l (p / 8)).toNat.testBit (7 - p % 8) then 1 else 0)) 0

/-- pgroup bytes and pixels of a sampling and depth (R98). -/
def pgroup (samp depth : Nat) : Nat × Nat :=
  if samp = 0 then (match depth with | 0 => (4, 2) | 1 => (5, 2) | 2 => (6, 2) | _ => (8, 2))
  else match depth with | 0 => (3, 1) | 1 => (15, 4) | 2 => (9, 2) | _ => (6, 1)

/-- Whole pixels in `n` bytes: a partial pgroup is discarded (R254). -/
def wholePixels (samp depth n : Nat) : Nat := n / (pgroup samp depth).1 * (pgroup samp depth).2

/-- The three components of pixel `x` of a line of `n` pixels (R163). Within a pgroup the samples are Cb, Y,
Cr, Y for 4:2:2, Cb, Y, Cr for YCbCr 4:4:4 and R, G, B for RGB (log entry 15). -/
def linePixel (samp depth n : Nat) (l : List Byte) (x : Nat) : Nat × Nat × Nat :=
  let b := depthBits depth
  let g (k : Nat) := to10 depth (sampleAt b l k)
  if samp = 0 then
    let y := g (4 * (x / 2) + 1 + 2 * (x % 2))
    let cb (p : Nat) := g (4 * p)
    let cr (p : Nat) := g (4 * p + 2)
    let p := x / 2
    if x % 2 = 0 ∨ n ≤ x + 1 then (y, cb p, cr p)
    else (y, (cb p + cb (p + 1) + 1) / 2, (cr p + cr (p + 1) + 1) / 2)
  else if samp = 1 then (g (3 * x + 1), g (3 * x), g (3 * x + 2))
  else (g (3 * x), g (3 * x + 1), g (3 * x + 2))

/-- An LB32 word (R163). -/
def lb32Word (q : Nat × Nat × Nat) : Word := BitVec.ofNat 32 (q.1 + 2 ^ 10 * q.2.1 + 2 ^ 20 * q.2.2)

/-- The lowest place of the line buffer that holds no line. -/
def freePlace (lines : List (Nat × Nat)) (a : Nat) : Option Nat :=
  (List.range a).find? (fun p => lines.all (fun l => l.2 ≠ p))

/-- Lines that some later output line of the pass can still read: those from the lowest that the output line
after the last one run reads (R223). -/
def stillRead (p : Pass) (h : Nat) (lastY : Int) (k : Nat) : Bool :=
  match (passLines p h (lastY + 1).toNat) with
  | [] => true
  | x :: l => decide (l.foldl min x ≤ k)

/-- Input line `k` of the open pass enters the line buffer from its bytes; `none` while the buffer holds A
lines that a later output line can still read (R163, R223). -/
def State.fillLine (s : State) (c : Nat) (p : Pass) (k : Nat) (l : List Byte) : Option State :=
  let x := s.crew c
  let h := s.layerHeight p.desc.layer
  let kept := x.lines.filter (fun q => q.1 ≠ k)
  let keep := if kept.length < availLines p.desc.width then kept
    else kept.filter (fun q => stillRead p h x.lastY q.1)
  match freePlace keep (availLines p.desc.width) with
  | none => none
  | some q =>
    let n := min p.desc.width (wholePixels p.desc.samp p.desc.depth l.length)
    let px := (List.range n).map (linePixel p.desc.samp p.desc.depth n l)
    let s := s.putBytes (lineBase c + q * p.desc.width * 4) (px.flatMap (fun v => wordBytes (lb32Word v)))
    some (s.setCrew c { x with lines := keep ++ [(k, q)] })

/-! ### Layer fetch (R222, R223) -/

/-- FETCH fields. -/
def FEntry.fLen (x : FEntry) : Nat := x.bits 1 0 10 * 64
def FEntry.fStride (x : FEntry) : Nat := if x.bits 1 10 10 = 0 then x.fLen else x.bits 1 10 10 * 64
def FEntry.fLines (x : FEntry) : Nat := x.bits 1 20 12 + 1
def FEntry.fDest (x : FEntry) : Nat := x.bits 3 7 1
def FEntry.fSrc (x : FEntry) : Nat := x.w0.toNat * 64

/-- A lawful FETCH entry (R221, R222). -/
def FEntry.fetchOk (x : FEntry) : Bool :=
  x.bits 3 28 4 = 2 && x.bits 3 8 20 = 0 && x.bits 1 0 10 ≠ 0 &&
  (if x.fDest = 0 then x.bits 2 22 10 = 0 && x.bits 2 0 2 = 0 else x.bits 2 29 3 = 0)

/-- The lines of a FETCH lie in DRAM. -/
def State.fetchSrcOk (s : State) (x : FEntry) : Bool :=
  s.dramUp && decide (x.fSrc + (x.fLines - 1) * x.fStride + x.fLen ≤ s.dramBytes)

/-- The local-store range of a FETCH with DEST = 0 lies in the space, in one store, ungated (R153, R223). -/
def State.fetchDstOk (s : State) (x : FEntry) : Bool :=
  let a := x.bits 2 0 22
  let k := (lsTarget x.eng a).1
  decide (a / 2 ^ 21 % 2 = 1 ∨ a / 2 ^ 18 % 8 = 0) && decide ((lsTarget x.eng a).2 + x.fLines * x.fLen ≤ 2 ^ 18) &&
  !s.bit (ENG_STAT_GATED k)

/-- PASSID of an entry names the open pass or a queued one of crew `c` (R223). -/
def State.passKnown (s : State) (c id : Nat) : Bool :=
  let x := s.crew c
  (match x.pass with | some p => p.desc.passid = id | none => false) ||
  x.sclq.any (fun r => match r.kind with | .sopen d => d.passid = id | _ => false)

/-- Line `i` of the entry in flight, read from DRAM (R223). -/
def State.readLine (s : State) (x : FEntry) (i : Nat) : List Byte × State :=
  s.dramRead (x.fSrc + i * x.fStride) x.fLen

/-- Lines of a DEST = 0 fetch, read and stored contiguously (R223). -/
def State.fetchStore (s : State) (x : FEntry) : State :=
  (List.range x.fLines).foldl (fun s i =>
    let (l, s) := s.readLine x i
    s.putBytes (lsAddr x.eng (x.bits 2 0 22) + i * x.fLen) l) s

/-- Lines of a DEST = 1 fetch moved while the open pass takes them: the number moved, and the state (R223). -/
def State.fetchFill (s : State) (c : Nat) (x : FEntry) (moved : Nat) : Nat → Nat × State
  | 0 => (moved, s)
  | n + 1 =>
    if x.fLines ≤ moved then (moved, s)
    else match (s.crew c).pass with
      | none => (moved, s)
      | some p =>
        if p.desc.passid ≠ x.bits 2 0 16 then (moved, s)
        else
          let (l, s1) := s.readLine x moved
          match s1.fillLine c p (x.bits 2 16 13 + moved) l with
          | none => (moved, s)
          | some s2 => s2.fetchFill c x (moved + 1) n

/-- The taken entry joins the entries in progress. -/
def State.addFlight (s : State) (i : InFlight) : State :=
  { s with eng := { s.eng with flight := s.eng.flight ++ [i] } }

/-- The fetch unit of crew `c` takes entry `x` of flume `f`; `unc` says that some read of it was uncorrectable
(R141, R219, R221, R223). -/
def State.takeFetch (s : State) (c f : Nat) (x : FEntry) (unc : Bool) : State :=
  let s := match s.takeVis f with | some (_, s) => s | none => s
  if !x.fetchOk then s.badEntry f
  else if !s.fetchSrcOk x || (x.fDest = 0 && !s.fetchDstOk x) then s.addFlight ⟨c, f, x, x.fLines, 2⟩
  else
    let st := if unc then 3 else 0
    let s := if unc then s.uncorrectable x.fSrc else s
    if x.fDest = 0 then (s.fetchStore x).addFlight ⟨c, f, x, x.fLines, st⟩
    else if !s.passKnown c (x.bits 2 0 16) then s.addFlight ⟨c, f, x, x.fLines, 1⟩
    else
      let (n, s) := s.fetchFill c x 0 x.fLines
      s.addFlight ⟨c, f, x, n, st⟩

/-- The fetch flumes of crew `c` (R219). -/
def State.fetchServes (s : State) (c f : Nat) : Bool :=
  decide (1 ≤ f % 16 ∧ f % 16 ≤ 8) && s.get (CTX_CREW (f / 16)) = c && s.get (CTX_STATE (f / 16)) ≠ cFREE

/-- FETCH_TAKE of crew `c` (R219, R223). -/
def State.fetchTake (s : State) (c : Nat) (unc : Bool) : State :=
  match s.nextEntry (s.fetchServes c) with
  | none => s
  | some (f, x) => s.takeFetch c f x unc

def execFetchTake (c : Nat) (unc : Bool) (s : State) : Host.Outcome State Fault Refusal :=
  settled (if s.ready && s.crewOn c then s.fetchTake c unc else s)

/-- The remaining lines of an entry in progress move if they can; NOPASS where its pass has closed
meanwhile (R223). -/
def State.fetchMore (s : State) (i : InFlight) : InFlight × State :=
  if i.e.fLines ≤ i.done then (i, s)
  else if !s.passKnown i.unit (i.e.bits 2 0 16) then ({ i with done := i.e.fLines, status := 1 }, s)
  else
    let (n, s) := s.fetchFill i.unit i.e i.done i.e.fLines
    ({ i with done := n }, s)

/-- The oldest entry of crew `c` in progress whose lines have all moved; the others before it stay (R219,
R223). -/
def State.fetchFinish (s : State) (c : Nat) : List InFlight → List InFlight → State
  | seen, [] => { s with eng := { s.eng with flight := seen } }
  | seen, i :: l =>
    if i.unit ≠ c then s.fetchFinish c (seen ++ [i]) l
    else
      let (j, s) := s.fetchMore i
      if i.e.fLines ≤ j.done then
        ({ s with eng := { s.eng with flight := seen ++ l } }).completeEntry j
      else s.fetchFinish c (seen ++ [j]) l

/-- FETCH_DONE of crew `c`: an entry completes, with its ACK and flag (R213, R223). -/
def execFetchDone (c : Nat) (s : State) : Host.Outcome State Fault Refusal :=
  settled (if s.ready && s.crewOn c then s.fetchFinish c [] s.eng.flight else s)

end Sys2Proof.Machine
end

