-- ==== Sys2Proof/Machine/Comp.lean ====
section
/-! DEFINITION. Composition control: the records and their two copies (R237-R243), the sources of layers (R246),
programs (R250-R253, R256) and the commands of CMP_CMD. -/

namespace Sys2Proof.Machine

/-- The composition state updated. -/
def State.cmpSet (s : State) (f : CmpSt → CmpSt) : State := { s with cmp := f s.cmp }

/-! ### Records (R237-R239): the active copy, or the shadow copy -/

/-- Bits of word `w` of canvas record `c`. -/
def State.canvas (s : State) (act : Bool) (c w lo n : Nat) : Nat :=
  getBits (s.rd (if act then CMP_CANVAS_A c w else CMP_CANVAS c w)) lo n

/-- Bits of word `w` of layer record `l`. -/
def State.layer (s : State) (act : Bool) (l w lo n : Nat) : Nat :=
  getBits (s.rd (if act then CMP_LAYREC_A l w else CMP_LAYREC l w)) lo n

/-- Bits of word `w` of tile-map entry `t`. -/
def State.tile (s : State) (act : Bool) (t w lo n : Nat) : Nat :=
  getBits (s.rd (if act then CMP_TMAP_A t w else CMP_TMAP t w)) lo n

def State.canvasOn (s : State) (act : Bool) (c : Nat) : Bool := s.canvas act c 0 0 1 = 1
def State.layerOn (s : State) (act : Bool) (l : Nat) : Bool := s.layer act l 0 0 1 = 1
def State.tileOn (s : State) (act : Bool) (t : Nat) : Bool := s.tile act t 0 0 1 = 1
/-- The canvas of a tile entry. -/
def State.tileCanvas (s : State) (act : Bool) (t : Nat) : Nat := s.tile act t 0 1 2
/-- SRCK and SRC of a layer; a still layer has 64 numbers, a flow 16. -/
def State.layerSrc (s : State) (act : Bool) (l : Nat) : Nat × Nat := (s.layer act l 0 1 1, s.layer act l 0 2 6)
/-- GROUP of a layer. -/
def State.layerGroup (s : State) (act : Bool) (l : Nat) : Nat := s.layer act l 0 8 5

/-- The layers of the unit, and the enabled ones of a copy. -/
abbrev layerCount : Nat := 64
def State.layersOn (s : State) (act : Bool) : List Nat := (List.range layerCount).filter (s.layerOn act)

/-- Scale steps DX and DY of a layer, Q16.16, truncated; none where a destination has no size (R238). -/
def State.layerSteps (s : State) (act : Bool) (l : Nat) : Option (Nat × Nat) :=
  let pw := s.layer act l 2 0 16
  let ph := s.layer act l 2 16 16
  if pw = 0 ∨ ph = 0 then none
  else some (s.layer act l 4 0 16 * 65536 / pw, s.layer act l 4 16 16 * 65536 / ph)

/-! ### Sources (R98, R102, R105, R246) -/

/-- A flow or still layer is open. -/
def State.srcOpen (s : State) (q : Nat × Nat) : Bool :=
  if q.1 = 0 then decide (q.2 < 16) && s.get (ETH_FLOW_STAT_STATE q.2) = 1 else s.bit (ETH_STILL_CFG_EN q.2)

/-- Width, height and format word of a source. -/
def State.srcSize (s : State) (q : Nat × Nat) : Nat × Nat :=
  if q.1 = 0 then (s.get (ETH_FLOW_SIZE_W q.2), s.get (ETH_FLOW_SIZE_H q.2))
  else (s.get (ETH_STILL_SIZE_W q.2), s.get (ETH_STILL_SIZE_H q.2))
def State.srcFmt (s : State) (q : Nat × Nat) : Word :=
  (if q.1 = 0 then s.rd (ETH_FLOW_FMT q.2) else s.rd (ETH_STILL_FMT q.2)) &&& 0x1FF#32

/-- Bytes of a line of a format, and the stride: rounded up to 64 (R101). -/
def lineBytes (fmt : Word) (w : Nat) : Nat :=
  let g := pgroup (getBits fmt 0 2) (getBits fmt 2 2)
  w / g.2 * g.1
def strideOf (fmt : Word) (w : Nat) : Nat := (lineBytes fmt w + 63) / 64 * 64

/-- DRAM offset ÷ 64 of a source's buffer. -/
def State.srcBuf (s : State) (q : Nat × Nat) (b : Nat) : Nat :=
  pageOff (s.rd (if q.1 = 0 then ETH_FLOW_BUF q.2 b else ETH_STILL_BUF q.2 b)) / 64

/-! ### Lattices named (R188, R243) -/

/-- The lattice name `n` is loaded in crew `c`. -/
def State.latticeIn (s : State) (c n : Nat) : Bool := s.latticeReady c (n % 4) (n / 4 % 8) (n / 32 % 2 = 1)

/-- Crews whose samplers are powered (R170). -/
def State.poweredCrews (s : State) : List Nat := (List.range 8).filter (fun c => s.crewOn c && !s.crewGated c)

/-- The first powered crew in which some lattice of `l` is not loaded. -/
def State.missingLut (s : State) (l : List Nat) : Option Nat :=
  s.poweredCrews.find? (fun c => l.any (fun n => !s.latticeIn c n))

/-- Lattices that the enabled canvas and layer records of a copy name (R242, R243). -/
def State.recordLuts (s : State) (act : Bool) : List Nat :=
  ((List.range 4).filter (fun c => s.canvasOn act c && s.canvas act c 0 22 1 = 1)).map (fun c => s.canvas act c 0 16 6) ++
  (s.layersOn act).map (fun l => s.layer act l 5 16 6)

/-- LOCK of every lattice slot: a loaded program, or an active or armed record, names a lattice in it (R161,
R243). -/
def State.lockRefresh (s : State) : State :=
  let names := (s.cmp.progs.flatMap (fun p => p.2.luts)) ++ s.recordLuts true ++
    (if s.bit CMP_STAT_ARMPEND then s.recordLuts false else [])
  (List.range 8).foldl (fun s c => (List.range 4).foldl (fun s k =>
    s.set (CMP_CREW_LUTSLOT_LOCK c k) (if names.any (fun n => n % 4 = k) then 1 else 0)) s) s

/-! ### CMP_CMD -/

/-- REASON codes of CMP_RES. -/
abbrev qBUSY : Nat := 1
abbrev qBADIMG : Nat := 2
abbrev qCODE_FULL : Nat := 3
abbrev qLB_SHORT : Nat := 4
abbrev qNOSTORE : Nat := 5
abbrev qARMPEND : Nat := 6
abbrev qLATE : Nat := 7
abbrev qBADGEOM : Nat := 8
abbrev qBADBIND : Nat := 9
abbrev qNOPROG : Nat := 10
abbrev qNOLUT : Nat := 11

/-- A refusal with its reason and what CMP_RES.DETAIL names. -/
def State.cmpRefuse (s : State) (r : Nat × Nat) : State :=
  ((s.set CMP_RES_REASON r.1).set CMP_RES_DETAIL r.2).setStat CMP_CMD stREFUSED

def State.prog (s : State) (p : Nat) : Option Prog := (s.cmp.progs.find? (fun x => x.1 = p)).map Prod.snd

/-! ### Programs (R250-R253, R256) -/

/-- Words of an image. -/
def imgWord (l : List Byte) (o : Nat) : Nat := numAt l o 4

/-- The declaration of layer `k` (R250): MAXW, TV, TH, DYMAX. -/
def imgDecl (l : List Byte) (k : Nat) : Nat × Nat × Nat × Nat :=
  let w := BitVec.ofNat 32 (imgWord l (0x40 + 8 * k))
  (getBits w 0 14, getBits w 14 4 + 1, getBits w 18 4 + 1, imgWord l (0x44 + 8 * k))

/-- Header and declaration table as a program at code base 0. -/
def imgProg (l : List Byte) : Prog where
  base := 0
  len := imgWord l 8
  entry := imgWord l 0x0C
  threads := numAt l 0x10 1
  prio := numAt l 0x11 1 % 32
  mon := numAt l 6 2 % 2 = 1
  lsneed := imgWord l 0x14
  luts := (slice l 0x20 (numAt l 0x18 1)).map (fun b => b.toNat % 64)
  decl := (List.range 16).map (imgDecl l)
  crc := imgWord l 0x30

/-- The image is well formed: MAGIC, FORMAT, alignment, sizes and CRC (R250, R251). -/
def imgOk (l : List Byte) : Bool :=
  let p := imgProg l
  imgWord l 0 = 0x4652454B && numAt l 4 2 = 1 && p.len % 8 = 0 && p.entry % 8 = 0 && decide (p.entry < p.len) &&
  decide (1 ≤ p.threads ∧ p.threads ≤ 8) && decide (numAt l 0x18 1 ≤ 16) && l.length = 0xC0 + p.len &&
  crc32c (putAt l 0x30 (zeros 4)) = p.crc

/-- The free part of the code region that starts at or after `at0`, up to the next loaded code or `lim`. -/
def freePart (parts : List CodePart) (lim at0 : Nat) : Nat :=
  (parts.filter (fun p => decide (at0 ≤ p.base))).foldl (fun m p => min m p.base) lim - at0

/-- Where `n` bytes of code go: the lowest free part that starts at a multiple of 8 and holds them (R252). -/
def codePlace (parts : List CodePart) (lim n : Nat) : Option Nat :=
  let starts := 0 :: parts.map (fun p => (p.base + p.bytes.length + 7) / 8 * 8)
  (starts.filter (fun a => parts.all (fun p => decide (a < p.base ∨ p.base + p.bytes.length ≤ a)) &&
    decide (a + n ≤ lim ∧ n ≤ freePart parts lim a))).foldl
    (fun b a => match b with | none => some a | some c => if a < c then some a else some c) none

/-- The first declared layer whose taps do not fit the line buffer (R256). -/
def shortLayer (d : List (Nat × Nat × Nat × Nat)) : Option Nat :=
  (List.range d.length).find? fun k =>
    let (w, tv, _, dy) := lget (0, 1, 1, 0) d k
    decide (0 < w) && decide (min 64 (131072 / w) < (tv * max dy 65536 + 65535) / 65536 + 1)

/-- The parameters of R251's table for image bytes `l`: the reason and detail of a refusal, or the place. -/
def State.loadCheck (s : State) (p : Nat) (l : List Byte) : Except (Nat × Nat) Nat :=
  let g := imgProg l
  if (s.prog p).isSome then .error (qBUSY, 0)
  else if !imgOk l then .error (qBADIMG, 0)
  else match codePlace s.eng.code (s.codeBytes 0) g.len with
    | none => .error (qCODE_FULL, 0)
    | some a =>
      match shortLayer g.decl with
      | some k => .error (qLB_SHORT, k)
      | none =>
        if 262144 - s.get CMP_CFG_CODEKB * 1024 < g.threads * g.lsneed then .error (qNOSTORE, 0)
        else match s.missingLut g.luts with
          | some c => .error (qNOLUT, c)
          | none => .ok a

/-- LOAD of program `p` (R251): the copy starts, or the refusal is counted. An image that DRAM does not hold is
no image (log entry 13). -/
def State.cmpLoad (s : State) (p : Nat) : State :=
  s.command CMP_CMD (1 + 16 * (p % 32)) fun s =>
    let off := (s.rd CMP_ARG0).toNat * 4096
    let bad (r : Nat × Nat) : State := (s.cmpRefuse r).bump CMP_LOADREF
    if !s.dramUp || decide (s.dramBytes < off + 0xC0) then
      if (s.prog (p % 32)).isSome then bad (qBUSY, 0) else bad (qBADIMG, 0)
    else
      let h := s.bytes (dramBase + off) 0xC0
      let n := imgWord h 8
      let l := if s.dramBytes < off + 0xC0 + n ∨ 131072 < n then h else s.bytes (dramBase + off) (0xC0 + n)
      match s.loadCheck (p % 32) l with
      | .error r => bad r
      | .ok a =>
        (s.cmpSet fun k => { k with loading := some (p % 32, { imgProg l with base := a }, l.drop 0xC0) }).setStat
          CMP_CMD stBUSY

/-- LOAD (R251). -/
def execProgLoad (prog : Nat) (s : State) : Host.Outcome State Fault Refusal :=
  settled (if s.running && s.head then s.cmpLoad prog else s)

/-- CMP_PROG of index `i` (R252). -/
def State.showProg (s : State) (i : Nat) (p : Option Prog) : State :=
  match p with
  | none => (s.wr (CMP_PROG0 i) 0).wr (CMP_PROG1 i) 0
  | some g => s.setAll [(CMP_PROG0_LOADED i, 1), (CMP_PROG0_MON i, if g.mon then 1 else 0),
      (CMP_PROG0_THREADS i, g.threads), (CMP_PROG0_PRIO i, g.prio), (CMP_PROG1_BASE i, g.base / 8),
      (CMP_PROG1_LEN i, g.len / 8)]

/-- The code of a LOAD is in every engine that is not gated, and the index reads LOADED (R252). -/
def State.progLoaded (s : State) (i : Nat) (g : Prog) (code : List Byte) : State :=
  let part : CodePart := ⟨i, g.base, code⟩
  let s : State := { s with eng := { s.eng with code := s.eng.code ++ [part] } }
  let s := ((List.range 64).filter s.engOn).foldl (fun s e => s.putBytes (lsBase e + g.base) code) s
  let s := s.cmpSet fun k => { k with loading := none, progs := minsert i g (merase i k.progs) }
  ((s.showProg i (some g)).lockRefresh).setStat CMP_CMD stDONE

/-- PROGRAM_LOAD_DONE (R252). -/
def execProgramLoadDone (s : State) : Host.Outcome State Fault Refusal :=
  settled <| match s.cmp.loading with
    | some (i, g, code) => if s.running && s.head then s.progLoaded i g code else s
    | none => s

/-- An enabled canvas record, active or armed, names program `p`, or it is the program of a running monitor
(R253). -/
def State.progUsed (s : State) (p : Nat) : Bool :=
  let names (act : Bool) := (List.range 4).any (fun c => s.canvasOn act c && s.canvas act c 0 8 8 = p)
  names true || (s.bit CMP_STAT_ARMPEND && names false) ||
  (s.get ETH_MON_STAT_STATE ≠ 0 && s.get CMP_CFG_MONPROG = p)

/-- UNLOAD of program `p` (R253). -/
def State.cmpUnload (s : State) (p : Nat) : State :=
  s.command CMP_CMD (2 + 16 * (p % 32)) fun s =>
    let i := p % 32
    if s.progUsed i then s.cmpRefuse (qBUSY, 0)
    else
      let s : State := { s with eng := { s.eng with code := s.eng.code.filter (fun c => c.prog ≠ i) } }
      let s := s.cmpSet fun k => { k with progs := merase i k.progs }
      ((s.showProg i none).lockRefresh).setStat CMP_CMD stDONE

/-- UNLOAD (R253). -/
def execProgUnload (prog : Nat) (s : State) : Host.Outcome State Fault Refusal :=
  settled (if s.running && s.head then s.cmpUnload prog else s)

/-! ### ARM and DISARM (R238, R239, R242, R249, R256) -/

/-- The enabled layer that breaks R238. -/
def State.badLayer (s : State) : Option Nat :=
  (s.layersOn false).find? fun l => match s.layerSteps false l with
    | some (dx, dy) => decide (16 * 65536 < dx ∨ 16 * 65536 < dy)
    | none => true

/-- The enabled tile entry that breaks R239. -/
def State.badTile (s : State) : Option Nat :=
  (List.range 1024).find? fun t => s.tileOn false t &&
    (let w := s.tile false t 2 0 13
     let h := s.tile false t 2 16 13
     (t % 64 = 0 && t ≠ 0) || w % 32 ≠ 0 || h % 16 ≠ 0 || decide (w < 32 ∨ 4096 < w ∨ h < 16 ∨ 4096 < h ∨ 65536 < w * h))

/-- An enabled layer whose source is also that of an enabled layer of another group (R249). -/
def State.badBind (s : State) : Option Nat :=
  (s.layersOn false).find? fun l => (s.layersOn false).any fun m =>
    s.layerSrc false l = s.layerSrc false m && s.layerGroup false l ≠ s.layerGroup false m

/-- An enabled canvas whose program is not loaded or is a monitor program. -/
def State.badProg (s : State) : Option Nat :=
  (List.range 4).find? fun c => s.canvasOn false c &&
    (match s.prog (s.canvas false c 0 8 8) with | some g => g.mon | none => true)

/-- An enabled layer of an enabled canvas whose source is wider than its program declares (R256). -/
def State.shortSource (s : State) : Option Nat :=
  (s.layersOn false).find? fun l => s.canvasOn false (l / 16) &&
    (match s.prog (s.canvas false (l / 16) 0 8 8) with
     | some g => decide ((lget (0, 1, 1, 0) g.decl (l % 16)).1 < (s.srcSize (s.layerSrc false l)).1)
     | none => false)

/-- Why an ARM for `next` is refused (R242), with its detail, in the order of the table. -/
def State.armCheck (s : State) (next : Bool) : Option (Nat × Nat) :=
  let d := (getBits (s.rd CMP_ARG0) 0 16 + 65536 - s.get CMP_LASTSEQ_SEQ) % 65536
  if s.bit CMP_STAT_ARMPEND then some (qARMPEND, 0)
  else if !next && decide (d = 0 ∨ 32767 < d) then some (qLATE, 0)
  else match s.badLayer, s.badTile, s.badBind, s.badProg, s.missingLut (s.recordLuts false), s.shortSource with
    | some l, _, _, _, _, _ => some (qBADGEOM, l)
    | none, some t, _, _, _, _ => some (qBADGEOM, t / 4)
    | none, none, some l, _, _, _ => some (qBADBIND, l)
    | none, none, none, some c, _, _ => some (qNOPROG, c)
    | none, none, none, none, some c, _ => some (qNOLUT, c)
    | none, none, none, none, none, some l => some (qLB_SHORT, l)
    | none, none, none, none, none, none => none

/-- ARM (R242). -/
def State.cmpArm (s : State) (next : Bool) : State :=
  s.command CMP_CMD (3 + if next then 512 else 0) fun s =>
    match s.armCheck next with
    | some r =>
      let s := s.cmpRefuse r
      if r.1 = qLATE then s.bump CMP_ARMLATE else s
    | none =>
      let s := s.setAll [(CMP_STAT_ARMPEND, 1), (CMP_STAT_ARMNEXT, if next then 1 else 0),
        (CMP_STAT_ATSEQ, if next then 0 else getBits (s.rd CMP_ARG0) 0 16)]
      s.lockRefresh.setStat CMP_CMD stDONE

/-- ARM_SET (R242). -/
def execArmSet (next : Bool) (s : State) : Host.Outcome State Fault Refusal :=
  settled (if s.running && s.head then s.cmpArm next else s)

/-- DISARM (R242). -/
def State.cmpDisarm (s : State) : State :=
  s.command CMP_CMD 4 fun s =>
    ((s.wr CMP_STAT 0).lockRefresh).setStat CMP_CMD stDONE

def execDisarm (s : State) : Host.Outcome State Fault Refusal :=
  settled (if s.running && s.head then s.cmpDisarm else s)

/-! ### The copy (R242) -/

/-- Words copied from one register to another. -/
def State.copyWords (s : State) (n : Nat) (src dst : Nat → Nat) : State :=
  (List.range n).foldl (fun s k => s.wr (dst k) (s.rd (src k))) s

/-- CRC-32C of the active record of canvas `c` and of its 16 layer records (R277). -/
def State.canvasDigest (s : State) (c : Nat) : Nat :=
  crc32c (((List.range 4).flatMap fun w => wordBytes (s.rd (CMP_CANVAS_A c w))) ++
    (List.range 16).flatMap fun l => (List.range 8).flatMap fun w => wordBytes (s.rd (CMP_LAYREC_A (16 * c + l) w)))

/-- What follows from active records that have changed: scale steps (R238), members of groups (R246), digests
(R277), buffers of layers bound to another source (R247), and locks (R243). -/
def State.recordsChanged (s : State) : State :=
  let s := (List.range layerCount).foldl (fun s l =>
    let (dx, dy) := (s.layerSteps true l).getD (0, 0)
    (s.wr (CMP_LAYER_DX l) (BitVec.ofNat 32 dx)).wr (CMP_LAYER_DY l) (BitVec.ofNat 32 dy)) s
  let s := (List.range 32).foldl (fun s g =>
    s.set (CMP_GROUP_STAT_MEMBERS g) ((s.layersOn true).filter (fun l => s.layerGroup true l = g)).length) s
  let s := (List.range 4).foldl (fun s c => s.wr (CMP_PLC_DIG c) (BitVec.ofNat 32 (s.canvasDigest c))) s
  let kept := s.cmp.sel.filter (fun x => s.layerOn true x.1 && s.layerSrc true x.1 = (x.2.1, x.2.2.1))
  let s := s.cmpSet fun k => { k with sel := kept }
  s.lockRefresh

/-- The whole shadow set is copied into the active copy at slot sequence `q` (R242). -/
def State.applyArmed (s : State) (q : Nat) : State :=
  let s := (List.range 4).foldl (fun s c => s.copyWords 4 (CMP_CANVAS c) (CMP_CANVAS_A c)) s
  let s := (List.range layerCount).foldl (fun s l => s.copyWords 8 (CMP_LAYREC l) (CMP_LAYREC_A l)) s
  let s := (List.range 1024).foldl (fun s t => s.copyWords 4 (CMP_TMAP t) (CMP_TMAP_A t)) s
  ((s.wr CMP_STAT 0).set CMP_LASTSEQ_SET (q % 65536)).recordsChanged

/-- An armed set is due at slot sequence `q`: NEXT, its own slot, or a slot after one that was skipped (R242,
R269). -/
def State.armDue (s : State) (q : Nat) : Bool :=
  s.bit CMP_STAT_ARMPEND && (s.bit CMP_STAT_ARMNEXT ||
    decide ((q + 65536 - s.get CMP_STAT_ATSEQ) % 65536 < 32768))

end Sys2Proof.Machine
end

