-- ==== Sys2Proof/Machine/Place.lean ====
section
/-! DEFINITION. Placement (R261-R265, R278-R282): which tiles the allocator composes, their crews, contexts and order
groups, and the threads that serve them. -/

namespace Sys2Proof.Machine

/-! ### Tiles of the section and shadow tiles (R405-R407) -/

/-- Redundancy states (R415). -/
abbrev rdOFF : Nat := 0
abbrev rdSTART : Nat := 1
abbrev rdSOLO : Nat := 2
abbrev rdACTIVE : Nat := 3
abbrev rdSYNC : Nat := 4
abbrev rdSTANDBY : Nat := 5
abbrev rdFAULTY : Nat := 6
abbrev rdSWAP : Nat := 7

def State.rdnState (s : State) : Nat := s.get RDN_STAT_STATE

/-- Entry `t` is that of a shadow tile: its port is a RINGEND port with a ring recorded (R406). -/
def State.shadowTile (s : State) (t : Nat) : Bool :=
  s.bit RDN_CFG_EN && t % 64 ≠ 0 && s.role (t / 64) = rRINGEND && s.bit (SKD_RING_VALID (t / 64))

/-- Chain `c` of this head is a ring: redundancy is on and the last tile's downstream link is up (R406; log entry
32). -/
def State.ownRing (s : State) (c : Nat) : Bool :=
  s.bit RDN_CFG_EN && s.role c = rCHAIN && decide (0 < s.lastPos c) && s.linkUp (64 * c + s.lastPos c) pDN

/-- A tile of a protected ring. -/
def State.protectedTile (s : State) (t : Nat) : Bool :=
  s.shadowTile t || (t % 64 ≠ 0 && s.ownRing (t / 64))

/-- The slices of entry `t` go to the digest unit and not to a port (R407). -/
def State.digestOnly (s : State) (t : Nat) : Bool :=
  s.protectedTile t && !s.rdn.feeds && s.rdnState ≠ rdOFF && s.rdnState ≠ rdSTART

/-- The allocator composes entry `t`: enabled on an enabled canvas, and, on a RINGEND port, a shadow tile outside
OFF, START and FAULTY (R261, R406, R416). The head's own tile needs a lamp side (R17). -/
def State.wanted (s : State) (t : Nat) : Bool :=
  s.tileOn true t && s.canvasOn true (s.tileCanvas true t) &&
  (t ≠ 0 || s.lampSide) &&
  (s.role (t / 64) ≠ rRINGEND ||
    (s.shadowTile t && s.rdnState ≠ rdOFF && s.rdnState ≠ rdSTART && s.rdnState ≠ rdFAULTY))

/-- Unit address of the tile of entry `t`. -/
def State.tileAddr (s : State) (t : Nat) : Nat :=
  if s.shadowTile t then s.get (SKD_RING_FAR (t / 64)) * 64 + t % 64 else s.headNum * 1024 + t

/-! ### Tile placement registers (R283) -/

abbrev tNONE : Nat := 0
abbrev tLOCAL : Nat := 1
abbrev tMOVED : Nat := 2
abbrev tUNPLACED : Nat := 3

def State.tileState (s : State) (t : Nat) : Nat := s.get (CMP_PLC_TILE_W0_STATE t)
def State.tileCtx (s : State) (t : Nat) : Nat := s.get (CMP_PLC_TILE_W0_CTX0 t)

/-- Placement state of entry `t`, with the slot of its last change; an entry that becomes UNPLACED is counted and
notified (R282). -/
def State.setTile (s : State) (t st : Nat) : State :=
  if s.tileState t = st then s
  else
    let s := (s.set (CMP_PLC_TILE_W0_STATE t) st).setAll [(CMP_PLC_TILE_W2_SINCE t, s.slotSeq), (CMP_PLC_TILE_W2_HELD t, 0)]
    if st = tUNPLACED then (s.bump CMP_PLC_CNT_UNPL).notify nUNPLACED t else s

/-- Pixels of the overlap of [a, a + n) and [b, b + m). -/
def overlap (a n b m : Nat) : Nat := min (a + n) (b + m) - max a b

/-- L_t (R262). -/
def State.tileLoad (s : State) (t : Nat) : Nat :=
  let g (w lo n : Nat) := s.tile true t w lo n
  let c := s.tileCanvas true t
  g 2 0 13 * g 2 16 13 + ((List.range 16).map fun k =>
    let l := 16 * c + k
    if s.bit (CMP_LAYER_VIS l) then
      overlap (g 1 0 16) (g 2 0 13) (s.layer true l 1 0 16) (s.layer true l 2 0 16) *
      overlap (g 1 16 16) (g 2 16 13) (s.layer true l 1 16 16) (s.layer true l 2 16 16)
    else 0).sum

/-- L_t of every wanted tile, as it reads back (R262). -/
def State.loadsRefresh (s : State) : State :=
  (List.range 1024).foldl (fun s t =>
    s.wr (CMP_PLC_TILE_W1 t) (BitVec.ofNat 32 (if s.wanted t then s.tileLoad t else 0))) s

/-! ### Crews (R263) -/

/-- Engine `e` is vacated. -/
def State.vacated (s : State) (e : Nat) : Bool := (s.rd (CMP_PLC_VAC (e / 32))).toNat.testBit (e % 32)

/-- Engines of crew `c` that compose: powered, not gated, not vacated. -/
def State.crewEngines (s : State) (c : Nat) : List Nat :=
  ((List.range 8).map (fun k => 8 * c + k)).filter (fun e => s.engOn e && !s.vacated e)

/-- The crew of lowest accumulated load that has an engine, the lowest number on a tie (R263). -/
def State.lightCrew (s : State) : Option Nat :=
  ((List.range 8).filter (fun c => s.crewEngines c ≠ [])).foldl (fun b c => match b with
    | none => some c
    | some d => if lget 0 s.cmp.loads c < lget 0 s.cmp.loads d then some c else some d) none

/-- Tiles and accumulated load of crew `c` changed (R263, R283). -/
def State.crewLoad (s : State) (c tiles load : Nat) : State :=
  let s := s.cmpSet fun k => { k with loads := lset k.loads c load }
  s.setAll [(CMP_PLC_CREWLD_TILES c, tiles), (CMP_PLC_CREWLD_LOAD c, load / 4096)]

/-! ### Contexts of a tile (R228, R231, R282) -/

/-- Who uses context `c`: a tile entry, 1024 + guest, 2048 the monitor, 2049 a vote. -/
def State.ctxUser (s : State) (c : Nat) : Option Nat := (s.cmp.own.find? (fun x => x.1 = c)).map Prod.snd

/-- The lowest order group that is not open (log entry 33). -/
def State.freeGroup (s : State) : Option Nat := (List.range 4096).find? (fun g => (s.group g).isNone)

/-- Contexts given up at once: nothing has entered their flumes. -/
def State.dropCtxs (s : State) (l : List Nat) : State :=
  l.foldl (fun s c => ((s.ctxFree c).ctxDone c).cmpSet fun k => { k with own := merase c k.own }) s

/-- 16 contexts for one user on crew `c`, in one allocation after another; the first refusal frees those taken
(R231, R282). -/
def State.takeCtxs (s : State) (user addr crew : Nat) (mon : Bool) : Nat → List Nat → Option (List Nat) × State
  | 0, l => (some l.reverse, s)
  | n + 1, l =>
    match s.ctxAlloc addr l.length crew (if mon then 1 else 0) 0 with
    | ((some c, _), s) =>
      (s.cmpSet fun k => { k with own := minsert c user (merase c k.own) }).takeCtxs user addr crew mon n (c :: l)
    | ((none, _), s) => (none, s.dropCtxs l)

/-- Sequence of slice 0 of slot `j` (R228). -/
def seqOf (j : Nat) : Nat := j * 16 % 65536

/-- The slot that will be posted next. -/
def State.nextPost (s : State) : Nat := s.cmp.next.getD (nextSlot s.grid s.tm.wall)

/-- Group `g` opened for the contexts of `l`, for slot `j` on (R225, R228). -/
def State.openFor (s : State) (l : List Nat) (g j : Nat) : State :=
  let s := s.groupOpen g (seqOf j) (16 * (s.leadN + 1))
  l.foldl (fun s c => s.set (CTX_GROUP c) g) s

/-- Contexts for user `user` on crew `c`, with an order group from slot `j` on. -/
def State.placeUser (s : State) (user addr crew j : Nat) (mon : Bool) : Option Nat × State :=
  match s.freeGroup with
  | none => (none, s)
  | some g =>
    match s.takeCtxs user addr crew mon 16 [] with
    | (some (c :: l), s) => (some c, s.openFor (c :: l) g j)
    | (_, s) => (none, s)

/-- Entry `t` placed on crew `c` (R263, R282): its load is added, and it is LOCAL from now on. -/
def State.placeTile (s : State) (t c : Nat) : Bool × State :=
  match s.placeUser t (s.tileAddr t) c s.nextPost false with
  | (none, s) => (false, s)
  | (some x, s) =>
    let s := s.crewLoad c (s.get (CMP_PLC_CREWLD_TILES c) + 1) (lget 0 s.cmp.loads c + s.tileLoad t)
    (true, (s.setAll [(CMP_PLC_TILE_W0_CREW t, c), (CMP_PLC_TILE_W0_CTX0 t, x), (CMP_PLC_TILE_W0_HOSTHEAD t, 0)]).setTile t tLOCAL)

/-- The 16 contexts of a user drain (R232), and its group closes (R227). -/
def State.freeUser (s : State) (user : Nat) : State :=
  let l := (s.cmp.own.filter (fun x => x.2 = user)).map Prod.fst
  let s := match l with | c :: _ => s.closeGroup (s.get (CTX_GROUP c)) | [] => s
  l.foldl (fun s c => (s.ctxFree c).cmpSet fun k => { k with own := merase c k.own }) s

/-- Entry `t` leaves placement (R263). -/
def State.unplaceTile (s : State) (t : Nat) : State :=
  let c := s.get (CMP_PLC_TILE_W0_CREW t)
  let s := if s.tileState t = tLOCAL ∨ s.tileState t = tMOVED then
      s.crewLoad c (s.get (CMP_PLC_CREWLD_TILES c) - 1) (lget 0 s.cmp.loads c - (s.rd (CMP_PLC_TILE_W1 t)).toNat)
    else s
  let s := s.cmpSet fun k => { k with moved := k.moved.filter (fun m => m.tile ≠ t) }
  (s.freeUser t).setTile t tNONE

/-! ### Threads (R264) -/

/-- Contexts of crew `c` by program: those of LOCAL tiles, of guests and, for the monitor program, of the monitor,
in rising order. -/
def State.crewCtxs (s : State) (c p : Nat) : List Nat :=
  (s.cmp.own.filter (fun x => decide (x.2 ≤ 2048) && s.get (CTX_CREW x.1) = c && s.get (CTX_PROG x.1) = p &&
    (decide (1024 ≤ x.2) || s.tileState x.2 = tLOCAL))).map Prod.fst

/-- A rising list cut into its runs of consecutive numbers: first number and length. -/
def runs : List Nat → List (Nat × Nat)
  | [] => []
  | a :: l => match runs l with
    | (b, n) :: r => if b = a + 1 then (a, n + 1) :: r else (a, 1) :: (b, n) :: r
    | [] => [(a, 1)]

/-- `l` divided into `m` ranges as evenly as possible, the first ones larger; a range with a gap is cut there, since
a thread is bound to consecutive contexts (R264; log entry 34). -/
def divide (l : List Nat) (m : Nat) : List (Nat × Nat) :=
  let k := l.length / max 1 m
  let r := l.length % max 1 m
  (List.range (max 1 m)).flatMap fun i => runs (slice' l (i * k + min i r) (k + if i < r then 1 else 0))
where
  slice' (l : List Nat) (o n : Nat) : List Nat := (l.drop o).take n

/-- Thread numbers that are free. -/
def State.freeThreads (s : State) : Nat := threadCount - s.eng.nextNew + s.eng.freed.length

/-- Monitor threads run below every wall thread: at priority 0 (R108; log entry 35). -/
def Prog.runPrio (g : Prog) : Nat := if g.mon then 0 else g.prio

/-- The ranges of program `p` on crew `c`: THREADS for each engine, as many as numbers are free (R264). -/
def State.ranges (s : State) (c p : Nat) (g : Prog) (free : Nat) : List (Nat × Nat) :=
  let m := min free ((s.crewEngines c).length * g.threads)
  if m = 0 then [] else (divide (s.crewCtxs c p) m).filter (fun r => 0 < r.2)

/-- A thread of program `p` on crew `c` bound to `n` contexts from `x` (R252, R264). -/
def State.spawnBound (s : State) (c p x n : Nat) (g : Prog) : State :=
  match s.spawn (g.base + g.entry) g.runPrio (2 ^ c) x n 0 (BitVec.ofNat 32 g.base) true with
  | ((some t, _), s) => s.cmpSet fun k => { k with thr := k.thr ++ [(t, c, p, x, n)] }
  | ((none, _), s) => s

/-- Composition threads of crew `c` that a condition names are killed and forgotten (R207). -/
def State.dropThreads (s : State) (bad : Nat × Nat × Nat × Nat × Nat → Bool) : State :=
  let l := s.cmp.thr.filter bad
  let s := s.cmpSet fun k => { k with thr := k.thr.filter (fun x => !bad x) }
  l.foldl (fun s x => if (s.thread x.1).comp then s.killThread x.1 else s) s

/-- The threads of crew `c` and program `p` are those of R264; if their ranges have changed they are replaced. -/
def State.threadsFor (s : State) (c p : Nat) (g : Prog) : State :=
  let mine (x : Nat × Nat × Nat × Nat × Nat) : Bool := x.2.1 = c && x.2.2.1 = p
  let have_ := (s.cmp.thr.filter mine).map (fun x => (x.2.2.2.1, x.2.2.2.2))
  let want := s.ranges c p g (s.freeThreads + have_.length)
  if want = have_ then s
  else
    let s := s.dropThreads mine
    (want.take (max s.freeThreads 0)).foldl (fun s r => s.spawnBound c p r.1 r.2 g) s

/-- The threads of crew `c` (R264). -/
def State.crewThreads (s : State) (c : Nat) : State :=
  let s := s.dropThreads (fun x => x.2.1 = c && (s.prog x.2.2.1).isNone)
  s.cmp.progs.foldl (fun s p => s.threadsFor c p.1 p.2) s

/-- The threads of every crew. -/
def State.allThreads (s : State) : State := (List.range 8).foldl (fun s c => s.crewThreads c) s

/-- PROG and CANVAS of the contexts of tile entry `t` (R229). -/
def State.markCtxs (s : State) (user canvas : Nat) : State :=
  let p := s.canvas true canvas 0 8 8
  (s.cmp.own.filter (fun x => x.2 = user)).foldl (fun s x =>
    (s.set (CTX_PROG x.1) p).set (CTX_CANVAS x.1) canvas) s

/-! ### Placement of the section (R230, R261, R263) -/

/-- Tile entries whose place the allocator decides, in rising order. -/
def State.wantedTiles (s : State) : List Nat := (List.range 1024).filter s.wanted

/-- Crews for a list of tiles, in its order, from given loads (R263). -/
def State.assign (s : State) (loads : List Nat) : List Nat → List (Nat × Nat)
  | [] => []
  | t :: l =>
    match ({ s with cmp := { s.cmp with loads := loads } } : State).lightCrew with
    | none => s.assign loads l
    | some c => (t, c) :: s.assign (lset loads c (lget 0 loads c + s.tileLoad t)) l

/-- An unplaced tile (R282), until its peers have been asked. -/
def State.tileRefused (s : State) (t : Nat) : State := s.setTile t tUNPLACED

/-- Every wanted tile is placed anew: crews in rising order of entry, contexts crew by crew (R263). -/
def State.placeAll (s : State) : State :=
  let s := (List.range 8).foldl (fun s c => s.crewLoad c 0 0) s
  let s := s.loadsRefresh
  let l := s.assign s.cmp.loads s.wantedTiles
  let s := (List.range 8).foldl (fun s c =>
    (l.filter (fun x => x.2 = c)).foldl (fun s x =>
      let (ok, s) := s.placeTile x.1 c
      if ok then s.markCtxs x.1 (s.tileCanvas true x.1) else s.tileRefused x.1) s) s
  let s := (s.wantedTiles.filter (fun t => !l.any (fun x => x.1 = t))).foldl (fun s t => s.tileRefused t) s
  s.allThreads

/-- A tile enabled later, or one tried again: the crew of lowest load at that moment (R263, R282). -/
def State.placeLater (s : State) (t : Nat) : State :=
  match s.lightCrew with
  | none => s.tileRefused t
  | some c =>
    let (ok, s) := s.placeTile t c
    if ok then s.markCtxs t (s.tileCanvas true t) else s.tileRefused t

/-- Unplaced tiles are tried again (R282). -/
def State.retryUnplaced (s : State) : State :=
  let l := s.wantedTiles.filter (fun t => s.tileState t = tUNPLACED)
  l.foldl (fun s t => s.placeLater t) { s with cmp := { s.cmp with retry := 0 } }

/-- An applied set has changed the wanted tiles (R261, R263): disabled tiles leave once the last slot that composes
them is complete, new ones are placed, unplaced ones are tried again, and threads follow the programs. -/
def State.placeChanged (s : State) : State :=
  let s := s.loadsRefresh
  let gone := (List.range 1024).filter (fun t => s.tileState t ≠ tNONE && !s.wanted t)
  let s := gone.foldl (fun s t => s.unplaceTile t) s
  let s := (s.wantedTiles.filter (fun t => s.tileState t = tLOCAL)).foldl (fun s t => s.markCtxs t (s.tileCanvas true t)) s
  let s := (s.wantedTiles.filter (fun t => s.tileState t = tNONE)).foldl (fun s t => s.placeLater t) s
  s.retryUnplaced.allThreads

/-- Correction contexts 0-15 of the head's own tile, before any other context (R230). -/
def State.correctionCtxs (s : State) : State :=
  if !s.head || !s.lampSide then s
  else (List.range 16).foldl (fun s i => (s.ctxAlloc (s.headNum * 1024) i 0 0 0).2) s

/-- Every composition thread is killed, every context drains and every order group closes (R547). -/
def State.releaseAll (s : State) : State :=
  let s := s.dropThreads (fun _ => true)
  let s := (List.range s.ctxCount).foldl (fun s c =>
    if s.get (CTX_STATE c) = cBOUND ∨ s.get (CTX_STATE c) = cACTIVE then s.ctxFree c else s) s
  let s := (s.eng.groups.map Prod.fst).foldl (fun s g => s.closeGroup g) s
  let s := (List.range 1024).foldl (fun s t => s.setTile t tNONE) s
  let s := (List.range 8).foldl (fun s c => s.crewLoad c 0 0) s
  let s := (List.range 16).foldl (fun s g => s.wr (CMP_PLC_GUEST_W0 g) 0) s
  s.cmpSet fun k => { k with own := [], moved := [], guests := [], ended := [], offer := none, declined := [], hi := 0 }

end Sys2Proof.Machine
end

