-- ==== Sys2Proof/Machine/Src.lean ====
section
/-! DEFINITION. The buffers of flows and still layers (R102, R105, R246-R248), their use by slots, and the times of a
slot (R266, R268, R272). -/

namespace Sys2Proof.Machine

/-! ### Flow and still-layer records -/

def FlowSt.init : FlowSt := ⟨0, 0, [], [], [], none, [], [], false⟩
def StillSt.init : StillSt := ⟨0, false, []⟩
def State.ethSet (s : State) (f : EthSt → EthSt) : State := { s with eth := f s.eth }
def State.flow (s : State) (f : Nat) : FlowSt := mget FlowSt.init s.eth.flows f
def State.setFlow (s : State) (f : Nat) (x : FlowSt) : State :=
  s.ethSet fun e => { e with flows := mput FlowSt.init e.flows f x }
def State.still (s : State) (k : Nat) : StillSt := mget StillSt.init s.eth.stills k
def State.setStill (s : State) (k : Nat) (x : StillSt) : State :=
  s.ethSet fun e => { e with stills := mput StillSt.init e.stills k x }

/-- Buffers of a flow. -/
def State.nbuf (s : State) (f : Nat) : Nat := 3 + s.get (ETH_FLOW_CFG_NBUF f)

/-! ### Use by slots (R99, R102, R413; log entry 26) -/

/-- Composition of the slot is not complete, or redundancy holds its buffers until L(q) + T or for a vote (R102,
R413). -/
def State.runHolds (s : State) (r : SlotRun) : Bool :=
  r.done.isNone ||
  (s.bit RDN_CFG_EN && (decide (s.tm.wall < launchTime s.grid (r.j + 1)) ||
    (match s.rdn.vote with | some v => v.seq = r.j % 65536 | none => false)))

/-- Some such slot selected buffer `b` of source `q`. -/
def State.bufHeld (s : State) (q : Nat × Nat) (b : Nat) : Bool :=
  s.cmp.slots.any (fun r => s.runHolds r && r.bufs.any (fun x => x = (q.1, q.2, b)))

/-- Buffer `b` of flow `f` is in use. -/
def State.flowInUse (s : State) (f b : Nat) : Bool :=
  ((s.flow f).used && s.get (ETH_FLOW_STAT_INUSE f) = b) || s.bufHeld (0, f) b

/-- Buffer `b` of still layer `k` is in use. -/
def State.stillInUse (s : State) (k b : Nat) : Bool :=
  ((s.still k).used && (s.still k).cur = b) || s.bufHeld (1, k) b

/-- The ready buffer of a still layer. -/
def State.stillReady (s : State) (k : Nat) : Option (Nat × Nat × Nat) :=
  if s.bit (ETH_STILL_STAT_READYOK k) then (s.still k).fence.head? else none

/-- The ready buffer of a flow with its RTP timestamp and fence time. -/
def State.flowReady (s : State) (f : Nat) : Option (Nat × Nat × Nat) :=
  if s.bit (ETH_FLOW_STAT_READYOK f) then
    (s.flow f).fence.find? (fun x => x.1 = s.get (ETH_FLOW_STAT_READY f))
  else none

/-- INUSE, FREE and FREEOK of a still layer (R105). -/
def State.stillRefresh (s : State) (k : Nat) : State :=
  let ready (b : Nat) : Bool := match s.stillReady k with | some x => x.1 = b | none => false
  let free := (List.range 2).find? (fun b => !s.stillInUse k b && !ready b)
  s.setAll [(ETH_STILL_STAT_INUSE k, (s.still k).cur), (ETH_STILL_STAT_FREE k, free.getD 0),
    (ETH_STILL_STAT_FREEOK k, if free.isSome then 1 else 0)]

/-- Every enabled still layer brought up to date. -/
def State.stillsRefresh (s : State) : State :=
  ((List.range 64).filter (fun k => s.bit (ETH_STILL_CFG_EN k))).foldl (fun s k => s.stillRefresh k) s

/-- Bytes of one frame store of a source (R101). -/
def State.storeBytes (s : State) (q : Nat × Nat) : Nat :=
  strideOf (s.srcFmt q) (s.srcSize q).1 * (s.srcSize q).2

/-- A format and size that R98 lists. -/
def formatOk (fmt : Word) (w h : Nat) : Bool :=
  getBits fmt 0 2 ≠ 3 && getBits fmt 6 2 ≠ 3 && decide (16 ≤ w ∧ w ≤ 8192 ∧ 16 ≤ h ∧ h ≤ 4352) &&
  (getBits fmt 0 2 ≠ 0 || w % 2 = 0)

/-- Enabling still layer `k` places its two buffers (R105); false when they cannot be placed. -/
def State.stillEnable (s : State) (k : Nat) : Bool × State :=
  let n := s.storeBytes (1, k)
  match s.allocWide n (.still k 0) with
  | none => (false, s)
  | some (a, s1) =>
    match s1.allocWide n (.still k 1) with
    | none => (false, s)
    | some (b, s2) =>
      let s3 := (s2.wr (ETH_STILL_BUF k 0) (dramPage a)).wr (ETH_STILL_BUF k 1) (dramPage b)
      (true, (((s3.set (ETH_STILL_CFG_EN k) 1).set (ETH_STILL_STAT_READYOK k) 0).setStill k StillSt.init).stillRefresh k)

/-- Buffer `b` of still layer `k` becomes ready with its token, and signals the fence (R106). -/
def State.stillFenced (s : State) (k b token : Nat) : State :=
  let x := s.still k
  let s := s.setStill k { x with fence := (b, token, s.tm.wall) :: x.fence.filter (fun f => f.1 ≠ b) }
  ((s.set (ETH_STILL_STAT_READYOK k) 1).set (ETH_STILL_STAT_TOKEN k) token).stillRefresh k

/-! ### Times of a slot -/

/-- The pacing tick P(j) (R266). -/
def State.paceTick (s : State) (j : Nat) : Nat := launchTime s.grid (j - s.leadN)

/-- The commit deadline D(j) (R268). -/
def State.deadline (s : State) (j : Nat) : Nat := launchTime s.grid j - s.get CMP_PACE_MARGIN * 1000 * wNs

/-- R(j), when READY is due (R272). -/
def State.readyDue (s : State) (j : Nat) : Nat := launchTime s.grid (j - 1) - s.get CMP_PACE_MARGIN * 1000 * wNs

/-- The slot number nearest `ref` whose sequence is `q`. -/
def nearSlot (ref q : Nat) : Nat :=
  let d := (q + 65536 - ref % 65536) % 65536
  if d < 32768 then ref + d else ref + d - 65536

/-! ### Readiness of members (R246, R248) -/

/-- 90 kHz count at wall time `w`. -/
def count90 (w : Nat) : Nat := w * 90000 / wSec

/-- The count nearest that of the fence time that agrees with RTP timestamp `ts` mod 2^32 (R248). -/
def mediaCount (ts fence : Nat) : Int :=
  let n : Nat := count90 fence
  let d : Nat := (ts + 2 ^ 32 - n % 2 ^ 32) % 2 ^ 32
  if d < 2 ^ 31 then ((n + d : Nat) : Int) else ((n + d : Nat) : Int) - 2 ^ 32

/-- A member whose source's ready buffer has fence time `fence` is ready for slot `j` at wall time `w`. -/
def State.fenceOk (s : State) (g : Nat) (isFlow : Bool) (ts fence j w : Nat) : Bool :=
  decide (fence < w) &&
  (!isFlow || !s.bit (CMP_GROUP_CFG_MODE g) ||
    decide (mediaCount ts fence * wSec + (s.get (CMP_GROUP_CFG_LAT g) * 1000 * wNs * 90000 : Nat) ≤
      (launchTime s.grid j * 90000 : Nat)))

/-- Member layer `l` is ready at wall time `w` for slot `j`: the buffer it would select. -/
def State.memberReady (s : State) (l j w : Nat) : Option Nat :=
  let q := s.layerSrc true l
  if !s.srcOpen q then none
  else match (if q.1 = 0 then s.flowReady q.2 else s.stillReady q.2) with
    | some (b, ts, f) => if s.fenceOk (s.layerGroup true l) (q.1 = 0) ts f j w then some b else none
    | none => none

end Sys2Proof.Machine
end

