-- ==== Sys2Proof/Machine/Rdn.lean ====
section
/-! DEFINITION. Redundancy (R405-R427): states and their transitions, takeover and swap at a pacing tick, and the items
of epochs. -/

namespace Sys2Proof.Machine

def State.rdnSet (s : State) (f : RdnSt → RdnSt) : State := { s with rdn := f s.rdn }

/-! ### Transitions (R415, R416) -/

/-- The state `st` is entered: traced and notified; SOLO and ACTIVE feed, SWAP goes on as before (R415, R416). SOLO
entered from ACTIVE is the partner lost of R548. -/
def State.rdnEnter (s : State) (st : Nat) : State :=
  let old := s.rdnState
  if old = st then s
  else
    let s := s.set RDN_STAT_STATE st
    let s := s.rdnSet fun r => { r with
      feeds := if st = rdSOLO ∨ st = rdACTIVE then true else if st = rdSWAP then r.feeds else false
      lost := st = rdSOLO && old = rdACTIVE }
    (s.trace0 0x30 0 (old * 16 + st)).notify nRDNSTATE (old * 16 + st)

/-- Base frame of slot `j`, and the one at wall time `w`. -/
def State.frameOf (s : State) (j : Nat) : Nat := j / max 1 (s.get TMU_SLOTS_SLOTS)
def State.frameNow (s : State) : Nat := s.frameOf (slotAt s.grid s.tm.wall)
/-- Wall time of the boundary at which base frame `b` starts. -/
def State.frameTime (s : State) (b : Nat) : Nat := launchTime s.grid (b * max 1 (s.get TMU_SLOTS_SLOTS))

/-- A full epoch is requested with the next messages (R416). -/
def State.askFull (s : State) : State := s.rdnSet fun r => { r with asked := some 0 }

/-- A vote in progress ends with its result; its recompute is given up (R421). -/
def State.voteEnd (s : State) (result : Nat) : State :=
  match s.rdn.vote with
  | none => s
  | some v =>
    let s := match v.thr with | some t => (if (s.thread t).comp then s.killThread t else s) | none => s
    ((s.freeUser 2049).set RDN_VOTE_RESULT result).rdnSet fun r => { r with vote := none }

/-- The state FAULTY, in which no shadow tile is composed (R415, R416). -/
def State.rdnFaulty (s : State) : State := (s.rdnEnter rdFAULTY).placeChanged

/-- OFF: everything in progress ends (R416). -/
def State.rdnOff (s : State) : State :=
  let s := (s.voteEnd 6).rdnEnter rdOFF
  let s := (s.wr RDN_SWAPSEQ 0).skdSet fun k => { k with ringOn := [] }
  s.rdnSet fun r => { RdnSt.reset with items := r.items, sentBf := r.sentBf }

/-- START, from OFF with EN = 1 in READY or SHOW (R416). -/
def State.rdnStart (s : State) : State :=
  if s.head && s.ready && s.bit RDN_CFG_EN && s.rdnState = rdOFF then
    (s.rdnEnter rdSTART).rdnSet fun r => { r with since := s.frameNow, bf := s.frameNow, heard := [] }
  else s

/-- EN or the power state has changed (R416). -/
def State.rdnPower (s : State) : State :=
  if s.ready && s.bit RDN_CFG_EN then s.rdnStart else if s.rdnState = rdOFF then s else s.rdnOff

/-! ### Swaps (R419, R424) -/

/-- The swap slot of an agreement at wall time `w`: the first with SLOTIDX 0 whose pacing tick lies at least 1 ms
later (R416). -/
def State.swapSlot (s : State) (w : Nat) : Nat :=
  let n := max 1 (s.get TMU_SLOTS_SLOTS)
  (nextSlot s.grid (w + 10 ^ 6 * wNs) + s.leadN + n - 1) / n * n

/-- A swap in agreement, as RDN_SWAPSEQ reads it. -/
def State.setSwap (s : State) (x : Option Swap) : State :=
  let s := match x with
    | some w => s.setAll [(RDN_SWAPSEQ_SLOT, w.slot % 65536), (RDN_SWAPSEQ_PENDING, 1)]
    | none => s.wr RDN_SWAPSEQ 0
  s.rdnSet fun r => { r with swap := x }

/-- The swap is cancelled: the state before it, and a DRILL reads FAILED (R419). -/
def State.swapCancel (s : State) : State :=
  match s.rdn.swap with
  | none => s
  | some w =>
    let s := if s.rdnState = rdSWAP then s.rdnEnter w.prev else s
    let s := s.setSwap none
    if s.stat RDN_CMD = stBUSY && s.get RDN_CMD_OP = 1 then s.setStat RDN_CMD stFAILED else s

/-- RINGEND ports with a ring recorded. -/
def State.ringEnds (s : State) : List Nat := (List.range 16).filter (fun p => s.role p = rRINGEND && s.bit (SKD_RING_VALID p))

/-- Steps 1-3 of R417: shadow contexts feed the RINGEND ports and TIM starts there; the new state is `st`. -/
def State.startFeeding (s : State) (st : Nat) : State :=
  let s := s.skdSet fun k => { k with ringOn := s.ringEnds }
  (s.rdnEnter st).bump RDN_TAKEOVERS

/-- Entries of the RINGEND ports removed from both copies of the map. -/
def State.clearShadow (s : State) : State :=
  s.ringEnds.foldl (fun s p => (List.range 64).foldl (fun s k => (List.range 4).foldl (fun s w =>
    (s.wr (CMP_TMAP_A (64 * p + k) w) 0).wr (CMP_TMAP (64 * p + k) w) 0) s) s) s

/-- The takeover at a pacing tick (R417, R418). -/
def State.takeOver (s : State) : State :=
  let fromSync := s.rdnState = rdSYNC
  let behind := (s.get RDN_EPSTAT_ANN + 65536 - s.get RDN_EPOCH_NUM) % 65536
  let stale := s.rdn.parts.isSome || decide (1 ≤ behind ∧ behind < 32768)
  let s := s.voteEnd 6
  let s := (s.setSwap none).startFeeding rdSOLO
  let s := s.set RDN_EPOCH_ACTID (s.headNum * 1024 + (s.get RDN_EPOCH_ACTID + 1) % 1024)
  let s := if fromSync then
      s.clearShadow.setAll [(RDN_STAT_STALE, 1), (RDN_STAT_NOEPOCH, 1), (RDN_STAT_STALEEP, 0)]
    else if stale then s.setAll [(RDN_STAT_STALE, 1), (RDN_STAT_NOEPOCH, 0), (RDN_STAT_STALEEP, s.get RDN_EPOCH_NUM)]
    else s
  s.rdnSet fun r => { r with take := false, parts := none, inst := [], asked := none }

/-- What the yielding head becomes: FAULTY after its own SELFBAD, else STANDBY (R416). -/
def State.yieldTo (s : State) (bad : Bool) : State := if bad then s.rdnFaulty else s.rdnEnter rdSTANDBY

/-- The swap at its slot (R416, R419, R424): one side takes, the other yields; a drill with a duration swaps back. -/
def State.swapNow (s : State) (w : Swap) : State :=
  let s := s.rdnEnter rdSWAP
  let s := if w.taking then s.startFeeding (if w.cause = 3 then rdSOLO else rdACTIVE)
    else (s.skdSet fun k => { k with ringOn := [] }).yieldTo (w.cause = 3)
  let s := s.bump RDN_SWAPS
  let more := w.cause = 1 ∧ w.dur ≠ 0
  let s := s.setSwap (if more then
      some { w with slot := w.slot + w.dur * max 1 (s.get TMU_SLOTS_SLOTS), taking := !w.taking, dur := 0, prev := s.rdnState }
    else none)
  if !more && s.stat RDN_CMD = stBUSY && s.get RDN_CMD_OP = 1 then s.setStat RDN_CMD stDONE else s

/-! ### Epochs (R408, R425, R426) -/

/-- The canvases that enabled protected tiles name (R408). -/
def State.sharedCanvases (s : State) : List Nat :=
  let t := (List.range 1024).filter (fun t => s.protectedTile t && s.tileOn true t)
  (List.range 4).filter (fun c => t.any (fun x => s.tileCanvas true x = c))

/-- The ports of this head whose rings are protected. -/
def State.rings (s : State) : List Nat := s.ringEnds ++ (List.range 16).filter s.ownRing

/-- Words of registers as bytes. -/
def State.wordsOf (s : State) (n : Nat) (a : Nat → Nat) : List Byte := (List.range n).flatMap (fun k => wordBytes (s.rd (a k)))

/-- The still item of layer `k` (R425). -/
def State.stillItem (s : State) (k : Nat) : Item :=
  ⟨6, k, wordBytes (s.rd (ETH_STILL_FMT k)) ++ wordBytes (s.rd (ETH_STILL_SIZE k)) ++
    natLE 4 (s.get (ETH_STILL_STAT_TOKEN k)) ++
    s.bytes (dramBase + s.srcBuf (1, k) (s.still k).cur) (s.storeBytes (1, k))⟩

/-- Every item of the state a feeding head copies (R425). The port of the partner is known on a RINGEND port only;
elsewhere the ring map's value is free (log entry 38). -/
def State.epochItems (s : State) : List Item :=
  let pos (t : Nat) : Nat := t % 64 + 4096 * (t / 64)
  let cs := s.sharedCanvases
  let ls := cs.flatMap (fun c => (List.range 16).map (fun l => 16 * c + l))
  let on := ls.filter (s.layerOn true)
  let ts := (List.range 1024).filter (fun t => s.protectedTile t && s.get (SKD_CT_W0_STATE t) ≠ ctNONE)
  let tm := (List.range 1024).filter (fun t => s.protectedTile t && (s.tileOn true t || s.rdn.items.any (fun i => i.kind = 3 && i.idx = pos t)))
  let gs := (List.range 32).filter (fun g => on.any (fun l => s.layerGroup true l = g))
  let ks := (List.range 64).filter (fun k => on.any (fun l => s.layerSrc true l = (1, k)) && s.bit (ETH_STILL_CFG_EN k))
  cs.map (fun c => ⟨1, c, s.wordsOf 4 (CMP_CANVAS_A c)⟩) ++
  ls.map (fun l => ⟨2, l, s.wordsOf 8 (CMP_LAYREC_A l)⟩) ++
  tm.map (fun t => ⟨3, pos t, s.wordsOf 4 (CMP_TMAP_A t)⟩) ++
  gs.map (fun g => ⟨4, g, wordBytes (s.rd (CMP_GROUP_CFG g))⟩) ++
  [⟨5, 0, wordBytes (s.rd CMP_PACE)⟩] ++
  ks.map s.stillItem ++
  ts.map (fun t => ⟨7, pos t, s.wordsOf 8 (fun w => SKD_CT_W0 t + 4 * w)⟩) ++
  s.rings.map (fun p => ⟨8, p, if s.role p = rRINGEND then natLE 4 (s.get (SKD_RING_FAR p) % 16) else
    Config.freeByte p :: zeros 3⟩)

/-- Items that differ from those last sent. -/
def State.changedItems (s : State) : List Item := s.epochItems.filter (fun i => !s.rdn.items.contains i)

/-- This head's port for the ring that the partner calls `x`: the RINGEND port that has it recorded, else the one the
ring map names (R321, R425). -/
def State.ringOf (s : State) (items : List Item) (x : Nat) : Option Nat :=
  match s.ringEnds.find? (fun p => s.get (SKD_RING_FAR p) = s.get RDN_CFG_PARTNER * 16 + x) with
  | some p => some p
  | none => (items.find? (fun i => i.kind = 8 && i.idx = x)).map (fun i => numAt i.data 0 4 % 16)

/-- Words written to registers from bytes. -/
def State.putWords (s : State) (l : List Byte) (n : Nat) (a : Nat → Nat) : State :=
  (List.range n).foldl (fun s k => s.wr (a k) (BitVec.ofNat 32 (numAt l (4 * k) 4))) s

/-- A still picture installed: into the free buffer, which its fence makes ready (R425, R426). -/
def State.installStill (s : State) (k : Nat) (l : List Byte) : State :=
  let s := s.putWords l 1 (fun _ => ETH_STILL_FMT k)
  let s := s.putWords (l.drop 4) 1 (fun _ => ETH_STILL_SIZE k)
  let s := if s.bit (ETH_STILL_CFG_EN k) then s else (s.stillEnable k).2
  if s.bit (ETH_STILL_CFG_EN k) && s.bit (ETH_STILL_STAT_FREEOK k) then
    let b := s.get (ETH_STILL_STAT_FREE k)
    (s.putBytes (dramBase + s.srcBuf (1, k) b) (l.drop 12)).stillFenced k b (numAt l 8 2)
  else s

/-- One item installed, in the active and the shadow copy of a record (R426; log entry 39). -/
def State.installItem (s : State) (all : List Item) (i : Item) : State :=
  let entry := (s.ringOf all (i.idx / 4096)).map (fun p => 64 * p + i.idx % 64)
  match i.kind with
  | 1 => (s.putWords i.data 4 (CMP_CANVAS_A (i.idx % 4))).putWords i.data 4 (CMP_CANVAS (i.idx % 4))
  | 2 => (s.putWords i.data 8 (CMP_LAYREC_A (i.idx % 64))).putWords i.data 8 (CMP_LAYREC (i.idx % 64))
  | 3 => match entry with
    | some t => (s.putWords i.data 4 (CMP_TMAP_A t)).putWords i.data 4 (CMP_TMAP t)
    | none => s
  | 4 => s.putWords i.data 1 (fun _ => CMP_GROUP_CFG (i.idx % 32))
  | 5 => s.putWords i.data 1 (fun _ => CMP_PACE)
  | 6 => s.installStill (i.idx % 64) i.data
  | 7 => match entry with
    | some t => s.putWords i.data 8 (fun w => SKD_CT_W0 t + 4 * w)
    | none => s
  | _ => s

/-- An epoch installed at a pacing tick (R416, R426). -/
def State.installEpoch (s : State) (x : Epoch) : State :=
  let s := if x.full then s.clearShadow else s
  let s := x.items.foldl (fun s i => s.installItem x.items i) s
  let s := s.recordsChanged.placeChanged
  let s := s.setAll [(RDN_EPOCH_NUM, x.num), (RDN_EPOCH_ACTID, x.actid)]
  let s := (s.bump RDN_EPINST).rdnSet fun r => { r with inst := r.inst.drop 1, installed := true }
  if x.full && s.rdnState = rdSYNC then s.rdnEnter rdSTANDBY else s

/-! ### What falls at a pacing tick (R417, R419, R420, R426) -/

/-- Slot `q` lies at or after sequence `a`. -/
def seqReached (q a : Nat) : Bool := decide ((q % 65536 + 65536 - a) % 65536 < 32768)

/-- Redundancy at the pacing tick of slot `j`, before step 1 of R244. -/
def State.rdnPace (s : State) (j : Nat) : State :=
  if s.rdnState = rdOFF then s
  else
    let s := if s.rdn.take then s.takeOver else s
    let s := match s.rdn.swap with
      | some w => if j < w.slot then s else if w.agreed then s.swapNow w else s.swapCancel
      | none => s
    let s := match s.rdn.yieldAt with
      | some y => if j < y then s else
          ((s.skdSet fun k => { k with ringOn := [] }).rdnEnter rdSYNC).askFull.rdnSet fun r => { r with yieldAt := none }
      | none => s
    s.rdn.inst.foldl (fun s x => if seqReached j x.apply && s.rdn.inst.head? = some x then s.installEpoch x else s) s

end Sys2Proof.Machine
end

