-- ==== Sys2Proof/Machine/Pace.lean ====
section
/-! DEFINITION. Pacing (R18, R20, R244-R248, R261-R276, R280-R282): what the allocator does when it posts a slot, the
slot record, the flip decision, the JOBs, and the life of a slot up to its commit. -/

namespace Sys2Proof.Machine

/-! ### The estimate E (R267) -/

/-- Insert into a rising list. -/
def insertUp (n : Nat) : List Nat → List Nat
  | [] => [n]
  | a :: l => if n ≤ a then n :: a :: l else a :: insertUp n l

/-- The median; the mean of the two middle values of an even number of them (log entry 30). -/
def median (l : List Nat) : Nat :=
  let q := l.foldr insertUp []
  if l.length % 2 = 1 then lget 0 q (l.length / 2) else (lget 0 q (l.length / 2 - 1) + lget 0 q (l.length / 2)) / 2

/-- E as a span of wall time: each recorded duration times its recorded PACE over the present one; a duration counts
as it is while either PACE is not measured (R267; log entry 30). -/
def State.estimate (s : State) : Nat :=
  median (s.cmp.durs.map fun d => if s.glbPace = 0 ∨ d.2 = 0 then d.1 else d.1 * d.2 / s.glbPace)

/-- E ÷ T in 1/1,000 (R267). -/
def State.loadMil (s : State) : Nat := s.estimate * 1000 / max 1 (slotPeriod s.grid)

/-- Whole microseconds of a span of wall time. -/
def usOf (w : Nat) : Nat := w / (1000 * wNs)

/-- EST and LOAD (R267). -/
def State.showLoad (s : State) : State :=
  s.setAll [(CMP_PACE_EST_US, min (usOf s.estimate) (2 ^ 24 - 1)), (CMP_PACE_STAT_LOAD, min s.loadMil 4095)]

/-! ### Order groups (R227, R228, R269, R270) -/

/-- Sequences of group `g` skipped in order until its BASE is `target`. -/
def State.skipTo (s : State) (g target : Nat) : Nat → State
  | 0 => s
  | n + 1 => match s.group g with
    | none => s
    | some x => if x.base = target then s else
      (if usedSeq x x.base then s.cascade g maxWin else s.skipSeq g x.base).skipTo g target n

/-- Group `g` stands at slot `j`: sequences of slots passed over are skipped, and a group that lies ahead, after
wall time has been set back, is opened anew (R269; log entry 40). -/
def State.alignGroup (s : State) (g j : Nat) : State :=
  match s.group g with
  | none => s
  | some x =>
    let d := (seqOf j + 65536 - x.base) % 65536
    if d = 0 then s
    else if d < 32768 then s.skipTo g (seqOf j) d
    else (s.closeGroup g).groupOpen g (seqOf j) x.win

/-- Users whose tiles are composed for slot `j`, by rising context: LOCAL tiles, tiles moved from a later slot on, and
guests within their slots (R244, R264, R278-R280). Tiles of this head's own ring are posted while it feeds
(R415, R419; log entry 36). -/
def State.composes (s : State) (j user : Nat) : Bool :=
  if user < 1024 then
    (s.tileState user = tLOCAL || (s.tileState user = tMOVED &&
      s.cmp.moved.any (fun m => m.tile = user && decide (j < m.first)))) &&
    (s.rdnState = rdOFF || s.rdn.feeds || !(user % 64 ≠ 0 && s.ownRing (user / 64)))
  else if user < 2048 then
    s.cmp.guests.any (fun g => g.g = user - 1024 && decide (g.first ≤ j) &&
      (match g.last with | some l => decide (j ≤ l) | none => true))
  else false

/-- First contexts of the users composed for slot `j`, rising. -/
def State.composed (s : State) (j : Nat) : List (Nat × Nat) :=
  s.cmp.own.filter (fun x => s.get (CTX_SLICE x.1) = 0 && s.composes j x.2)

/-! ### Flip groups (R246-R248) -/

/-- The outcome of a group at a pacing tick. -/
inductive Flip where
  | flipped | held | same
  deriving DecidableEq, Repr

/-- Layers of group `g` whose source is open. -/
def State.members (s : State) (g : Nat) : List Nat :=
  (s.layersOn true).filter (fun l => s.layerGroup true l = g && s.srcOpen (s.layerSrc true l))

/-- The decision of R247 for group `g`, slot `j`, at wall time `w`. -/
def State.groupDecision (s : State) (g j w : Nat) : Flip :=
  match s.members g with
  | [] => .same
  | l => if l.all (fun m => (s.memberReady m j w).isSome) then .flipped
    else if l.any (fun m => (s.memberReady m j w).isSome) then .held
    else .same

/-- A source's ready buffer is selected and in use (R102, R247). -/
def State.selectSrc (s : State) (q : Nat × Nat) (b : Nat) : State :=
  if q.1 = 0 then
    ((s.set (ETH_FLOW_STAT_INUSE q.2) b).set (ETH_FLOW_STAT_READYOK q.2) 0).setFlow q.2 { s.flow q.2 with used := true }
  else
    ((s.set (ETH_STILL_STAT_READYOK q.2) 0).setStill q.2 { s.still q.2 with cur := b, used := true }).stillRefresh q.2

/-- Group `g` flips: each member selects its source's ready buffer. -/
def State.flipGroup (s : State) (g j w : Nat) : State :=
  let l := (s.members g).filterMap (fun m => (s.memberReady m j w).map (fun b => (m, s.layerSrc true m, b)))
  let s := l.foldl (fun s x =>
    let s := s.selectSrc x.2.1 x.2.2
    let s := s.cmpSet fun k => { k with sel := minsert x.1 (x.2.1.1, x.2.1.2, x.2.2) (merase x.1 k.sel) }
    s.set (CMP_LAYER_BUF x.1) x.2.2) s
  (s.bump (CMP_GROUP_FLIPS g)).setAll [(CMP_GROUP_STAT_HELDLAST g, 0), (CMP_GROUP_STAT_FLIPSEQ g, j % 65536)]

/-- Every group decided (R247): the outcome of each, and the state. -/
def State.flips (s : State) (j w : Nat) : List Flip × State :=
  (List.range 32).foldl (fun r g =>
    let s := r.2
    match s.groupDecision g j w with
    | .flipped => (r.1 ++ [.flipped], s.flipGroup g j w)
    | .held => (r.1 ++ [.held], (s.bump (CMP_GROUP_HELD g)).set (CMP_GROUP_STAT_HELDLAST g) 1)
    | .same => (r.1 ++ [.same], s.set (CMP_GROUP_STAT_HELDLAST g) 0)) ([], s)

/-! ### The slot record (R245, R279, R406) -/

/-- The buffer selected for layer `l`. -/
def State.selOf (s : State) (l : Nat) : Option (Nat × Nat × Nat) := (s.cmp.sel.find? (fun x => x.1 = l)).map Prod.snd

/-- R238's crop condition: the crop lies within the source's present size. -/
def State.cropOk (s : State) (l : Nat) : Bool :=
  let z := s.srcSize (s.layerSrc true l)
  decide (s.layer true l 3 0 16 + s.layer true l 4 0 16 ≤ z.1 ∧ s.layer true l 3 16 16 + s.layer true l 4 16 16 ≤ z.2)

/-- VIS of layer `l` in a slot with index `idx` (R245). -/
def State.vis (s : State) (l idx : Nat) : Bool :=
  s.layerOn true l && (s.layer true l 0 15 8).testBit idx && (s.selOf l).isSome && s.cropOk l

/-- Word 14 of a layer entry: RTP timestamp or TOKEN of the selected buffer. -/
def State.stampOf (s : State) (q : Nat × Nat × Nat) : Nat :=
  let l := if q.1 = 0 then (s.flow q.2.1).fence else (s.still q.2.1).fence
  match l.find? (fun x => x.1 = q.2.2) with | some x => x.2.1 | none => 0

/-- Words 8-15 of the entry of layer `l`. -/
def State.layerEntry (s : State) (l idx : Nat) (o : Flip) : List Nat :=
  let q := s.layerSrc true l
  let z := s.srcSize q
  let fmt := s.srcFmt q
  let (dx, dy) := (s.layerSteps true l).getD (0, 0)
  let (buf, stamp) := match s.selOf l with
    | some x => (s.srcBuf (x.1, x.2.1) x.2.2 * 64, s.stampOf x)
    | none => (0, 0)
  [buf, strideOf fmt z.1 / 64 + 2 ^ 16 * z.1, z.2 + 2 ^ 16 * fmt.toNat, dx, dy,
   (if s.vis l idx then 1 else 0) + (if o = .flipped then 2 else 0) + (if o = .held then 4 else 0), stamp, 0]

/-- The four words of tile entry `t` in a slot record: a guest's entry in position 0, the real address of a shadow
tile in word 3 (R279, R406). -/
def State.tileEntry (s : State) (t : Nat) : List Nat :=
  match s.cmp.guests.find? (fun g => g.g * 64 = t) with
  | some g => (List.range 3).map (fun w => (lget 0 g.words w).toNat) ++ [g.owner + 2 ^ 16]
  | none =>
    (List.range 3).map (fun w => (s.rd (CMP_TMAP_A t w)).toNat) ++
    [if s.shadowTile t then s.tileAddr t + 2 ^ 16 else (s.rd (CMP_TMAP_A t 3)).toNat]

/-- Words stored from control address `a`. -/
def State.putNats (s : State) (a : Nat) (l : List Nat) : State :=
  s.putBytes a (l.flatMap (fun n => wordBytes (BitVec.ofNat 32 n)))

/-- DRAM offset of the slot record of slot `j` (R245). -/
def State.recordAt (s : State) (j : Nat) : Nat := (s.rd CMP_SREC).toNat * 64 + j % 8 * 0x6000

/-- The store a monitor job of the slot writes, and its base frame: the monitor runs, this is its slot of a DIV-th base
frame, and its last job is done (R108; log entry 31). -/
def State.monitorDue (s : State) (j : Nat) : Option Nat :=
  let n := max 1 (s.get TMU_SLOTS_SLOTS)
  let b := j / n
  if s.get ETH_MON_STAT_STATE = 1 && j % n = s.get ETH_MON_CFG_SLOT && b % 2 ^ s.get ETH_MON_CFG_DIV = 0 &&
      s.eth.mon.job.isNone then some b else none

/-- The monitor store that was not completed last. -/
def State.monitorStore (s : State) : Nat := match s.eth.mon.done with | (_, k) :: _ => 1 - k | [] => 0

/-- The slot record of slot `j` written (R244, R245). -/
def State.writeRecord (s : State) (j : Nat) (o : List Flip) : State :=
  let a := dramBase + s.recordAt j
  let idx := j % max 1 (s.get TMU_SLOTS_SLOTS)
  let w := launchTime s.grid j
  let s := s.putNats a [j % 65536 + 2 ^ 16 * idx, wallNs w, wallSec w, s.get CMP_LASTSEQ_SET]
  let m := fun k => (s.rd (ETH_MON_WINA k)).toNat
  let s := if s.get ETH_MON_STAT_STATE = 0 then s else
    s.putNats (a + 0x10) [m 0, m 1, m 2 % 4, (s.ownerOff (.monitor s.monitorStore)).getD 0 / 64,
      (s.rd ETH_MON_SIZE).toNat, (s.rd ETH_MON_CFG).toNat / 32 % 16]
  let s := (List.range 4).foldl (fun s c =>
    s.putNats (a + 0x40 + c * 0x40) ((List.range 4).map fun w => (s.rd (CMP_CANVAS_A c w)).toNat)) s
  let s := (List.range layerCount).foldl (fun s l =>
    s.putNats (a + 0x200 + l * 0x40) (((List.range 8).map fun w => (s.rd (CMP_LAYREC_A l w)).toNat) ++
      s.layerEntry l idx (lget .same o (s.layerGroup true l)))) s
  let s := (List.range 1024).foldl (fun s t => s.putNats (a + 0x2000 + t * 0x10) (s.tileEntry t)) s
  (List.range layerCount).foldl (fun s l => s.set (CMP_LAYER_VIS l) (if s.vis l idx then 1 else 0)) s

/-- The record digest of a protected ring over the record of slot `j` (R411). -/
def State.recordDigest (s : State) (j : Nat) (p : Nat) : Nat :=
  let a := dramBase + s.recordAt j
  let on := (List.range 64).filter (fun k => k ≠ 0 && s.protectedTile (64 * p + k) && s.tileOn true (64 * p + k))
  let cs := (List.range 4).filter (fun c => on.any (fun k => s.tileCanvas true (64 * p + k) = c))
  crc32c (cs.flatMap fun c =>
    s.bytes (a + 0x40 + c * 0x40) 16 ++
    natLE 4 (match s.prog (s.canvas true c 0 8 8) with | some g => g.crc | none => 0) ++
    (List.range 16).flatMap fun l =>
      let e := a + 0x200 + (16 * c + l) * 0x40
      s.bytes e 32 ++ wordBytes (s.word (e + 52) &&& 7#32) ++ s.bytes (e + 56) 4)

/-! ### JOBs (R218, R222, R228) -/

/-- A JOB entry. -/
def jobEntry (j slice idx : Nat) (late mon : Bool) (canvas grp seq tile prog : Nat) : FEntry :=
  let b (c : Bool) (n : Nat) : Nat := if c then n else 0
  .mk4 (BitVec.ofNat 32 (j % 65536 + 2 ^ 16 * slice + 2 ^ 20 * (idx % 8) + b late (2 ^ 23) + 2 ^ 24 * canvas + b mon (2 ^ 26)))
    (BitVec.ofNat 32 (grp + 2 ^ 16 * seq)) (BitVec.ofNat 32 tile) (BitVec.ofNat 32 (2 ^ 28 + prog)) 0x3FF 0

/-- A JOB posted, or refused at depth and its sequence skipped at once; true when it was posted (R218, R229, R270). -/
def State.postJob (s : State) (j : Nat) (x : Job) (e : FEntry) : Bool × State :=
  let f := 16 * x.ctx
  if s.flumeFull f then
    let s := (s.bump FLM_OVF).bump (CTX_OVF x.ctx)
    (false, (s.trace0 0x0A 1 f).skipSeq x.grp x.seq)
  else
    let s := (s.pushVis f e).bump (CTX_JOBS x.ctx)
    (true, s.setAll [(CTX_STATE x.ctx, cACTIVE), (CTX_POSTSEQ x.ctx, j % 65536)])

/-- A JOB posted if its sequence lies in its group's window; otherwise it waits (R228). -/
def State.offerJob (s : State) (r : SlotRun) (x : Job) (e : FEntry) : SlotRun × State :=
  match s.group x.grp with
  | none => (r, s)
  | some g =>
    if !inWindow g x.seq then ({ r with wait := r.wait ++ [(x, e)] }, s)
    else
      let (ok, s) := s.postJob r.j x e
      ({ r with jobs := r.jobs ++ [x], bad := r.bad || !ok }, s)

/-- The 16 JOBs of a user whose first context is `c` (R228, R279). -/
def State.postUser (s : State) (r : SlotRun) (c user : Nat) : SlotRun × State :=
  let idx := r.j % max 1 (s.get TMU_SLOTS_SLOTS)
  let tile := if user < 1024 then s.headNum * 1024 + user else s.headNum * 1024 + (user - 1024) * 64
  (List.range 16).foldl (fun q i =>
    let s := q.2
    let x : Job := ⟨c + i, s.get (CTX_GROUP (c + i)), (seqOf r.j + i) % 65536⟩
    s.offerJob q.1 x (jobEntry r.j i idx r.late false (s.get (CTX_CANVAS (c + i))) x.grp x.seq tile
      (s.get (CTX_PROG (c + i))))) (r, s)

/-- The monitor's jobs of slot `j` for base frame `b` (R108, R258). -/
def State.postMonitor (s : State) (j b : Nat) (late : Bool) : State :=
  let l := (s.cmp.own.filter (fun x => x.2 = 2048)).map Prod.fst
  let prog := s.get CMP_CFG_MONPROG
  let idx := j % max 1 (s.get TMU_SLOTS_SLOTS)
  let store := s.monitorStore
  let (jobs, s) := l.foldl (fun (q : List Job × State) c =>
    let s := q.2
    let g := s.get (CTX_GROUP c)
    let i := s.get (CTX_SLICE c)
    let x : Job := ⟨c, g, (seqOf j + i) % 65536⟩
    let (_, s) := s.postJob j x (jobEntry j i idx late true (s.get ⟨ETH_MON_WINA 2, 0, 2⟩) g x.seq (s.headNum * 1024) prog)
    (q.1 ++ [x], s)) ([], match l with | c :: _ => s.alignGroup (s.get (CTX_GROUP c)) j | [] => s)
  s.ethSet fun e => { e with mon := { e.mon with job := some (j, b, store, jobs), wrote := [] } }

/-! ### The life of a slot (R266, R270) -/

/-- The JOB's sequence has been released or skipped (R266). -/
def State.jobDone (s : State) (x : Job) : Bool :=
  match s.group x.grp with
  | none => true
  | some g => decide (32768 ≤ (x.seq + 65536 - g.base) % 65536)

/-- Every JOB of the slot has been released or skipped. -/
def State.runDone (s : State) (r : SlotRun) : Bool := r.wait.isEmpty && r.jobs.all s.jobDone

/-- No slot is being composed. -/
def State.idle (s : State) : Bool := s.cmp.slots.all (fun r => r.done.isSome)

/-- The record of slot `j` replaced. -/
def State.setRun (s : State) (r : SlotRun) : State :=
  s.cmpSet fun k => { k with slots := k.slots.map (fun x => if x.j = r.j then r else x) }

/-- Slots that nothing refers to any more are forgotten. -/
def State.prune (s : State) : State :=
  let keep (r : SlotRun) : Bool := s.runHolds r || r.commit = 0 ||
    (s.bit RDN_CFG_EN && decide (s.tm.wall < launchTime s.grid (r.j + 8)))
  s.cmpSet fun k => { k with slots := k.slots.filter keep }

/-- JOBs that wait for their window are posted when it has reached them (R228). -/
def State.flushWait (s : State) : State :=
  s.cmp.slots.foldl (fun s r =>
    if r.wait.isEmpty then s
    else
      let (r, s) := r.wait.foldl (fun q y => q.2.offerJob q.1 y.1 y.2) ({ r with wait := [] }, s)
      s.setRun r) s

/-! ### Placement commands and repairs before a post (R265, R270) -/

/-- Threads bound to contexts of unreleased JOBs of an abandoned slot that are in FAULT are killed and replaced
(R270). -/
def State.replaceFaulted (s : State) : State :=
  let l := s.cmp.thr.filter (fun x =>
    let t := s.thread x.1
    t.st = .placed && t.comp && (s.slot t.eng t.slot).st = .fault)
  l.foldl (fun s x =>
    match s.prog x.2.2.1 with
    | none => s
    | some g => (s.dropThreads (fun y => y.1 = x.1)).spawnBound x.2.1 x.2.2.1 x.2.2.2.1 x.2.2.2.2 g) s

/-- Bit `e` of the vacated engines. -/
def State.setVacated (s : State) (e : Nat) (on : Bool) : State :=
  let f : Fld := ⟨CMP_PLC_VAC (e / 32), e % 32, 1⟩
  s.set f (if on then 1 else 0)

/-- The composition threads on engine `e` are killed, and each one's contexts go to a replacement on the crew (R265). -/
def State.vacateThreads (s : State) (e : Nat) : State :=
  let l := s.cmp.thr.filter (fun x => (s.thread x.1).st = .placed && (s.thread x.1).eng = e)
  let s := (s.resident e).foldl (fun s t => s.killThread (s.slot e t).thr) s
  l.foldl (fun s x =>
    match s.prog x.2.2.1 with
    | none => s
    | some g => (s.dropThreads (fun y => y.1 = x.1)).spawnBound x.2.1 x.2.2.1 x.2.2.2.1 x.2.2.2.2 g) s

/-- The command held for the next post is carried out as far as it can be; true when the post may follow (R265). -/
def State.plcPending (s : State) : Bool × State :=
  match s.cmp.plc with
  | none => (true, s)
  | some (1, e, started) =>
    let s := if started then s else (s.setVacated e true).vacateThreads e
    if s.resident e = [] then
      (true, ((s.gateEngine e).cmpSet fun k => { k with plc := none }).setStat CMP_PLC_CMD stDONE)
    else (false, s.cmpSet fun k => { k with plc := some (1, e, true) })
  | some (2, e, _) =>
    let s := (s.setVacated e false).ungateEngine e
    (true, ((s.crewThreads (e / 8)).cmpSet fun k => { k with plc := none }).setStat CMP_PLC_CMD stDONE)
  | some (_, _, _) =>
    let s := (s.cmp.own.filter (fun x => decide (x.2 < 1024) && s.get (CTX_SLICE x.1) = 0)).foldl (fun s x => s.freeUser x.2) s
    let s := (List.range 1024).foldl (fun s t => if s.tileState t = tNONE then s else s.setTile t tNONE) s
    let s := s.cmpSet fun k => { k with moved := [], plc := none }
    (true, s.placeAll.setStat CMP_PLC_CMD stDONE)

/-! ### Moves at a post (R276, R278, R280-R282) -/

/-- Group of a tile's contexts. -/
def State.tileGroup (s : State) (t : Nat) : Nat := s.get (CTX_GROUP (s.tileCtx t))

/-- Contexts are allocated to tile `t`. -/
def State.hasCtxs (s : State) (t : Nat) : Bool := s.cmp.own.any (fun x => x.2 = t)

/-- The context records of a moved tile, and its group, follow its move: REMOTE once its last slot here is complete,
LOCAL again from the slot it is reclaimed for (R278, R280). -/
def State.movesFollow (s : State) (j : Nat) : State :=
  s.cmp.moved.foldl (fun s m =>
    match m.back with
    | some b =>
      if j < b then s
      else if !s.hasCtxs m.tile then
        (s.cmpSet fun k => { k with moved := k.moved.filter (fun x => x.tile ≠ m.tile) }).placeLater m.tile
      else
        let c := s.tileCtx m.tile
        let s := (List.range 16).foldl (fun s i => s.set (CTX_REMOTE (c + i)) 0) s
        let s := if m.closed then s.groupOpen (s.tileGroup m.tile) (seqOf b) (16 * (s.leadN + 1)) else s
        let s := (s.set (CMP_PLC_TILE_W0_HOSTHEAD m.tile) 0).setTile m.tile tLOCAL
        s.cmpSet fun k => { k with moved := k.moved.filter (fun x => x.tile ≠ m.tile) }
    | none =>
      if m.closed || decide (j < m.first) then s
      else
        let c := s.tileCtx m.tile
        let s := if !s.hasCtxs m.tile then s else
          (List.range 16).foldl (fun s i => s.setAll [(CTX_REMOTE (c + i), 1), (CTX_STATE (c + i), cBOUND)]) (s.closeGroup (s.tileGroup m.tile))
        s.cmpSet fun k => { k with moved := k.moved.map (fun x => if x.tile = m.tile then { x with closed := true } else x) }) s

/-- Guests whose last slot is complete are freed (R280). -/
def State.guestsFollow (s : State) (j : Nat) : State :=
  s.cmp.guests.foldl (fun s g =>
    match g.last with
    | some l =>
      if j ≤ l then s
      else
        let s := (s.freeUser (1024 + g.g)).wr (CMP_PLC_GUEST_W0 g.g) 0
        s.cmpSet fun k => { k with guests := k.guests.filter (fun x => x.g ≠ g.g) }
    | none => s) s

/-- A MOVEEND message (R444), told each slot until s' - 1. -/
def State.tellEnd (s : State) (addr at0 cause : Nat) (dest : Nat) : State :=
  s.sendSvc vMOVEEND dest (natLE 2 addr ++ natLE 2 (at0 % 65536) ++ natLE 1 cause ++ zeros 3)

/-- Unit address of head `h`. -/
def headAddr (h : Nat) : Nat := h * 1024

/-- The owner reclaims moved tile `t` from slot `b` (R280). -/
def State.reclaim (s : State) (t b cause : Nat) (tell : Bool) : State :=
  match s.cmp.moved.find? (fun m => m.tile = t && m.back.isNone) with
  | none => s
  | some _ =>
    let a := s.tileAddr t
    let h := headAddr (s.get (CMP_PLC_TILE_W0_HOSTHEAD t))
    let s := s.cmpSet fun k => { k with moved := k.moved.map (fun m => if m.tile = t then { m with back := some b } else m) }
    if !tell then s
    else (s.tellEnd a b cause h).cmpSet fun k => { k with ended := k.ended ++ [(a, b, cause)] }

/-- The composing head returns guest `g` from slot `b` (R280, R281). -/
def State.returnGuest (s : State) (n b cause : Nat) (tell : Bool) : State :=
  match s.cmp.guests.find? (fun g => g.g = n && g.last.isNone) with
  | none => s
  | some g =>
    let s := s.cmpSet fun k => { k with guests := k.guests.map (fun x => if x.g = n then { x with last := some (b - 1) } else x) }
    let s := s.set (CMP_PLC_GUEST_W2_LAST n) ((b - 1) % 65536)
    if !tell then s
    else (s.tellEnd g.owner b cause (headAddr (g.owner / 1024))).cmpSet fun k => { k with ended := k.ended ++ [(g.owner, b, cause)] }

/-- The slot from which a move decided now begins or ends: the sequence being posted + n + 1 (R276, R280). -/
def State.moveSlot (s : State) (j : Nat) : Nat := j + s.leadN + 1

/-- Ends of moves are told again until their slot comes (R444). -/
def State.endsAgain (s : State) (j : Nat) : State :=
  let l := s.cmp.ended.filter (fun x => decide (j < x.2.1))
  let s := s.cmpSet fun k => { k with ended := l }
  l.foldl (fun s x =>
    let own := x.1 / 1024 = s.headNum
    s.tellEnd x.1 x.2.1 x.2.2 (if own then headAddr (s.get (CMP_PLC_TILE_W0_HOSTHEAD (x.1 % 1024))) else headAddr (x.1 / 1024))) s

/-- Reclaims and returns that this slot calls for: lost peer ports, owner's room, own overload, a digest that no longer
agrees (R280, R281). -/
def State.movesEnd (s : State) (j : Nat) : State :=
  let b := s.moveSlot j
  let t := max 1 (slotPeriod s.grid)
  let s := s.cmp.moved.foldl (fun s m =>
    let p := s.portToHead (s.get (CMP_PLC_TILE_W0_HOSTHEAD m.tile))
    let room := decide ((s.estimate + m.et * wNs) * 100 ≤ s.get CMP_PLC_CFG_LO * t)
    let n := if room then m.room + 1 else 0
    let s := s.cmpSet fun k => { k with moved := k.moved.map (fun x => if x.tile = m.tile then { x with room := n } else x) }
    if !s.active p then s.reclaim m.tile b 3 false
    else if 64 ≤ n then s.reclaim m.tile b 4 true
    else if 2 ≤ m.miss then s.reclaim m.tile b 3 true
    else s) s
  s.cmp.guests.foldl (fun s g =>
    if !s.active g.port then s.returnGuest g.g b 1 false
    else
      let c := getBits (lget 0 g.words 0) 1 2
      let bad := (s.rd (CMP_PLC_DIG c)).toNat ≠ g.dig
      if bad then (s.set (CMP_PLC_GUEST_W0_DIGMIS g.g) 1).returnGuest g.g b 6 true
      else if 8 ≤ s.cmp.hi then s.returnGuest g.g b 1 true
      else s) s

/-- The next enabled peer register at or after `i`. -/
def State.peerFrom (s : State) (i : Nat) : Option Nat :=
  (List.range 4).find? (fun k => decide (i ≤ k) && s.bit (CMP_PLC_PEER_EN k))

/-- An OFFER of tile `t` to the peer of register `i` (R276, R444). -/
def State.sendOffer (s : State) (t i j : Nat) : State :=
  let total := (s.composed j).foldl (fun a x => a + if x.2 < 1024 then s.tileLoad x.2 else 0) 0
  let et := s.estimate / wNs * s.tileLoad t / max 1 total
  let slot := s.moveSlot j
  let c := s.tileCanvas true t
  let pl := s.wordsOf 4 (CMP_TMAP_A t) ++ natLE 2 (s.tileAddr t) ++ natLE 2 (slot % 65536) ++
    natLE 4 (s.rd (CMP_PLC_DIG c)).toNat ++ natLE 4 et ++ natLE 2 s.glbPace ++ zeros 10
  let s := (s.sendSvc vOFFER (headAddr (s.get (CMP_PLC_PEER_HEAD i))) pl).bump CMP_PLC_CNT_OFFERS
  s.cmpSet fun k => { k with offer := some ⟨t, i, slot, et⟩ }

/-- The tile to offer: an unplaced one, or under load the LOCAL tile of largest L_t, the highest entry on a tie, never
the own tile nor a shadow tile (R276, R282, R407). -/
def State.offerTile (s : State) : Option Nat :=
  let un := (s.wantedTiles.filter (fun t => s.tileState t = tUNPLACED && !s.shadowTile t && t ≠ 0 &&
    !s.cmp.declined.any (fun x => x.1 = t))).head?
  match un with
  | some t => some t
  | none =>
    if s.bit CMP_PLC_CFG_MOVE && decide (8 ≤ s.cmp.hi) then
      ((List.range 1024).filter (fun t => t ≠ 0 && s.tileState t = tLOCAL && !s.shadowTile t)).foldl (fun b t => match b with
        | none => some t
        | some u => if s.tileLoad u ≤ s.tileLoad t then some t else some u) none
    else none

/-- OFFER of one tile for this slot (R276): none while a reply is awaited. -/
def State.offerStep (s : State) (j : Nat) : State :=
  match s.cmp.offer, s.offerTile, s.peerFrom 0 with
  | none, some t, some i => s.sendOffer t i j
  | _, _, _ => s

/-- Slots spent UNPLACED, and the trial every 64 slots (R282, R283). -/
def State.unplacedStep (s : State) : State :=
  let l := s.wantedTiles.filter (fun t => s.tileState t = tUNPLACED)
  let s := l.foldl (fun s t => s.set (CMP_PLC_TILE_W2_HELD t) (min 65535 (s.get (CMP_PLC_TILE_W2_HELD t) + 1))) s
  let s := s.cmpSet fun k => { k with retry := k.retry + 1 }
  if 64 ≤ s.cmp.retry then (s.retryUnplaced.allThreads).cmpSet fun k => { k with declined := [] } else s

/-! ### Flows that drain (R99) -/

/-- Flow `f` in DRAINING is held by an enabled layer record, active or armed, or by a slot (R99, R413). -/
def State.flowHeld (s : State) (f : Nat) : Bool :=
  (s.layersOn true).any (fun l => s.layerSrc true l = (0, f)) ||
  (s.bit CMP_STAT_ARMPEND && (s.layersOn false).any (fun l => s.layerSrc false l = (0, f))) ||
  s.cmp.slots.any (fun r => s.runHolds r && r.bufs.any (fun x => x.1 = 0 && x.2.1 = f))

/-- Frame stores return and the entry is CLOSED (R99). -/
def State.closeFlows (s : State) : State :=
  ((List.range 16).filter (fun f => s.get (ETH_FLOW_STAT_STATE f) = 2 && !s.flowHeld f)).foldl (fun s f =>
    let s := (List.range 4).foldl (fun s b => s.freeOwner (.flow f b)) s
    (s.wr (ETH_FLOW_STAT f) 0).setFlow f FlowSt.init) s

/-! ### Posting (R266, R269) -/

/-- A slot that is not composed (R269): its sequences are skipped in every group. -/
def State.skipSlot (s : State) (j : Nat) : State :=
  let s := s.composed j |>.foldl (fun s x =>
    let g := s.get (CTX_GROUP x.1)
    (s.alignGroup g j).alignGroup g (j + 1)) s
  let r : SlotRun := ⟨j, s.tm.wall, s.glbPace, true, true, [], [], true, some s.tm.wall, 2, [], [], [], [], [], []⟩
  ((s.bump CMP_PACE_SKIP).set CMP_LASTSEQ_SEQ (j % 65536)).cmpSet fun k =>
    { k with next := some (j + 1), slots := r :: k.slots }

/-- Consecutive slots above HI (R276). -/
def State.countHigh (s : State) : State :=
  s.cmpSet fun k => { k with hi := if s.get CMP_PLC_CFG_HI * 10 < s.loadMil then k.hi + 1 else 0 }

/-- The protected rings that a slot posted now feeds: RINGEND ports taken over, and this head's own rings (R415). -/
def State.fedRings (s : State) : List Nat :=
  s.skd.ringOn ++ (if s.rdnState = rdOFF ∨ s.rdn.feeds then (List.range 16).filter s.ownRing else [])

/-- Slot `j` is posted now: the steps of R244, then its JOBs in rising context order (R264, R266). -/
def State.postSlot (s : State) (j : Nat) : State :=
  let w := s.tm.wall
  let late := decide (s.paceTick j < w) && decide (wNs ≤ w - s.paceTick j)
  let s := s.set CMP_LASTSEQ_SEQ (j % 65536)
  let applied := s.armDue (j % 65536)
  let s := if applied then (s.applyArmed j).placeChanged.cmpSet fun k => { k with declined := [] } else s
  let s := ((s.movesFollow j).guestsFollow j).replaceFaulted.choosePaths
  let (o, s) := s.flips j w
  let s := s.closeFlows
  let mon := s.monitorDue j
  let s := s.writeRecord j o
  let s := if applied then s.loadsRefresh else s
  let bufs := (s.cmp.sel.filter (fun x => s.layerOn true x.1)).map Prod.snd
  let r : SlotRun := { j := j, at0 := w, pace := s.glbPace, late := late, skip := false, jobs := [], wait := [], bad := false,
                       done := none, commit := 0, fed := s.fedRings, bufs := bufs,
                       moved := (s.cmp.moved.filter (fun m => decide (m.first ≤ j))).map (fun m => (m.tile, 0)),
                       digs := [], recd := s.rings.map (fun p => (p, s.recordDigest j p)), digOut := [] }
  let us := s.composed j
  let s := us.foldl (fun s x => s.alignGroup (s.get (CTX_GROUP x.1)) j) s
  let (r, s) := us.foldl (fun q x => q.2.postUser q.1 x.1 x.2) (r, s)
  let s := match mon with | some b => s.postMonitor j b late | none => s
  let s := if late then (s.bump CMP_PACE_LATE).set CMP_PACE_STAT_CATCHUP 1 else s.set CMP_PACE_STAT_CATCHUP 0
  let s := s.set CMP_PACE_LEADIF_US (min (2 ^ 24 - 1) (usOf (launchTime s.grid j - w)))
  let s := (s.cmpSet fun k => { k with next := some (j + 1), slots := r :: k.slots }).showLoad.countHigh
  ((((s.movesEnd j).endsAgain j).offerStep j).unplacedStep).stillsRefresh.prune

/-- The allocator posts the next slot if its tick has come and the slot before it is complete; slots whose estimate
misses their deadline are passed over (R266, R269). -/
def State.tryPost (s : State) : Nat → State
  | 0 => s
  | n + 1 =>
    match s.cmp.next with
    | none => s
    | some j =>
      if s.tm.wall < s.paceTick j ∨ !s.idle then s
      else
        let (go, s) := s.plcPending
        if !go then s
        else
          let s := s.rdnPace j
          if s.deadline j < s.tm.wall + s.estimate then (s.skipSlot j).tryPost n else s.postSlot j

/-- Slots that may be passed over at once: those whose ticks have come. -/
def State.postNow (s : State) : State :=
  match s.cmp.next with
  | none => s
  | some j => s.flushWait.tryPost (slotAt s.grid s.tm.wall + s.leadN + 2 - j)

/-- PACING_TICK (R18, R36, R266): a head in READY or SHOW whose slot grid runs. -/
def execPacingTick (s : State) : Host.Outcome State Fault Refusal :=
  settled (if s.head && s.ready && s.gridRuns then s.postNow else s)

/-! ### Completion and abandonment (R266, R267, R270) -/

/-- The slot being composed. -/
def State.composing (s : State) : Option SlotRun := s.cmp.slots.find? (fun r => r.done.isNone)

/-- The slot is complete: its duration is recorded unless it was abandoned (R267). -/
def State.completeRun (s : State) (r : SlotRun) (record : Bool) : State :=
  let d := s.tm.wall - r.at0
  let s := s.setRun { r with done := some s.tm.wall }
  let s := if record then
      (s.cmpSet fun k => { k with durs := ((d, r.pace) :: k.durs).take 8 }).set CMP_PACE_LAST_US (min (2 ^ 24 - 1) (usOf d))
    else s
  s.showLoad.stillsRefresh

/-- SLOT_COMPLETE (R266, R267): the slot being composed has become complete, and the next one may be posted. -/
def State.slotComplete (s : State) : State :=
  let s := s.flushWait
  match s.composing with
  | some r => if s.runDone r then (s.completeRun r true).postNow else s
  | none => s

def execSlotComplete (s : State) : Host.Outcome State Fault Refusal :=
  settled (if s.head && s.ready then s.slotComplete else s)

/-- SLOT_ABANDON (R270): still incomplete at L(q) + T. Every sequence not yet released is skipped. -/
def State.slotAbandon (s : State) (r : SlotRun) : State :=
  let s := (r.jobs ++ r.wait.map Prod.fst).foldl (fun s x =>
    if s.jobDone x then s else s.skipTo x.grp ((x.seq + 1) % 65536) 65536) s
  let r := { r with wait := [], bad := true }
  ((s.bump CMP_PACE_ABAND).completeRun r false).replaceFaulted

def execSlotAbandon (s : State) : Host.Outcome State Fault Refusal :=
  settled <| match s.composing with
    | some r => if s.head && s.ready && decide (launchTime s.grid (r.j + 1) ≤ s.tm.wall) && !s.runDone r then
        (s.slotAbandon r).postNow else s
    | none => s

/-! ### Placement commands (R265, R280) -/

/-- A refused placement command. -/
def State.plcRefuse (s : State) (reason : Nat) : State := (s.set CMP_PLC_RES_REASON reason).setStat CMP_PLC_CMD stREFUSED

/-- CMP_PLC_CMD `op` with its fields. -/
def State.plcCommand (s : State) (op engine entry : Nat) (f : State → State) : State :=
  s.command CMP_PLC_CMD (op + 16 * (engine % 64) + 1024 * (entry % 1024)) f

/-- A command held until the next slot is posted; with nothing to wait for it is carried out at once. -/
def State.plcHold (s : State) (op e : Nat) : State :=
  let s := (s.cmpSet fun k => { k with plc := some (op, e, false) }).setStat CMP_PLC_CMD stBUSY
  if s.ready && s.cmp.next.isSome then s else s.plcPending.2

/-- VACATE (R265): refused for the last ungated engine of a crew that holds contexts. -/
def State.plcVacate (s : State) (engine : Nat) : State :=
  s.plcCommand 1 engine 0 fun s =>
    let e := engine % 64
    let c := e / 8
    if s.crewEngines c = [e] && s.cmp.own.any (fun x => s.get (CTX_CREW x.1) = c) then s.plcRefuse 1
    else s.plcHold 1 e

def execPlcVacate (engine : Nat) (s : State) : Host.Outcome State Fault Refusal :=
  settled (if s.running && s.head then s.plcVacate engine else s)

/-- RESTORE (R265). Below READY the engine is no longer vacated and stays gated (R547). -/
def State.plcRestore (s : State) (engine : Nat) : State :=
  s.plcCommand 2 engine 0 fun s =>
    if s.ready then s.plcHold 2 (engine % 64) else (s.setVacated (engine % 64) false).setStat CMP_PLC_CMD stDONE

def execPlcRestore (engine : Nat) (s : State) : Host.Outcome State Fault Refusal :=
  settled (if s.running && s.head then s.plcRestore engine else s)

/-- REPLACE: in READY only (R265). -/
def State.plcReplace (s : State) : State :=
  s.plcCommand 3 0 0 fun s => if s.power = psREADY then s.plcHold 3 0 else s.plcRefuse 2

def execPlcReplace (s : State) : Host.Outcome State Fault Refusal :=
  settled (if s.running && s.head then s.plcReplace else s)

/-- The last slot posted, or the next one before any. -/
def State.lastPosted (s : State) : Nat := s.nextPost - 1

/-- RECLAIM of a moved tile, on its owner (R280). -/
def State.plcReclaim (s : State) (entry : Nat) : State :=
  s.plcCommand 4 0 entry fun s =>
    let t := entry % 1024
    if !s.cmp.moved.any (fun m => m.tile = t && m.back.isNone) then s.plcRefuse 3
    else (s.reclaim t (s.moveSlot s.lastPosted) 5 true).setStat CMP_PLC_CMD stDONE

def execPlcReclaim (entry : Nat) (s : State) : Host.Outcome State Fault Refusal :=
  settled (if s.running && s.head then s.plcReclaim entry else s)

/-- RETURN of a guest, on the composing head (R280). -/
def State.plcReturn (s : State) (entry : Nat) : State :=
  s.plcCommand 5 0 entry fun s =>
    let g := entry % 1024
    if !s.cmp.guests.any (fun x => x.g = g && x.last.isNone) then s.plcRefuse 3
    else (s.returnGuest g (s.moveSlot s.lastPosted) 2 true).setStat CMP_PLC_CMD stDONE

def execPlcReturn (entry : Nat) (s : State) : Host.Outcome State Fault Refusal :=
  settled (if s.running && s.head then s.plcReturn entry else s)

end Sys2Proof.Machine
end

