-- ==== Sys2Proof/Machine/Lanes.lean ====
section
/-! DEFINITION. Serial lanes (R62-R93): bring-up of Skidline and Ethernet ports, electrical idle and fast exit,
calibration windows and runs, PRBS. -/

namespace Sys2Proof.Machine

/-! ### Lanes and ports (R62-R65) -/

/-- Lanes of Ethernet port `q` (R63). -/
def State.ethLanes (s : State) (q : Nat) : List Nat :=
  (List.range (lanesOf (s.get (LNK_QCFG_ETHW q)))).map (fun n => 4 * q + n)

/-- Lanes of the port with record key `k`: Skidline port k below 16, Ethernet port k - 16 from there. -/
def State.linkLanes (s : State) (k : Nat) : List Nat := if k < 16 then s.portLanes k else s.ethLanes (k - 16)

/-- The record key of the port that lane `l` belongs to. -/
def State.linkOf (s : State) (l : Nat) : Nat :=
  if s.get (LNK_QCFG_MODE (l / 4)) = 2 then 16 + l / 4 else s.get (LNK_LCFG_PORT l)

/-- The lanes a command written to lane `l` acts on: those of its port, or the lane alone (R93). -/
def State.cmdLanes (s : State) (l : Nat) : List Nat :=
  let ls := s.linkLanes (s.linkOf l)
  if ls.contains l then ls else [l]

/-- A quad whose lanes may leave OFF: powered, clocked, with its firmware loaded (R62, R64, R65). -/
def State.quadOk (s : State) (q : Nat) : Bool :=
  !s.bit (LNK_QSTAT_UNPWR q) && s.bit (LNK_QSTAT_REFOK q) && s.bit (LNK_QSTAT_PLLLOCK q) && s.bit (LNK_QSTAT_FWOK q)

/-- All lanes of port `p` are enabled (R93). -/
def State.portComplete (s : State) (p : Nat) : Bool :=
  match s.portLanes p with
  | [] => false
  | l :: ls => decide (ls.length + 1 = lanesOf (s.get (LNK_LCFG_WIDTH l)))

/-- The port's maximum rate: the lowest MAXRATE of its lanes (R74). -/
def State.portMax (s : State) (p : Nat) : Nat :=
  (s.portLanes p).foldl (fun m l => min m (s.get (LNK_LCFG_MAXRATE l))) 2

/-- Record of port `k` changed. -/
def State.linkSet (s : State) (k : Nat) (f : Lnk → Lnk) : State := s.setLink k (f (s.link k))

/-! ### Bring-up (R71-R79) -/

/-- The assembly memory of the port's connector has been read (R71). -/
def State.writeCid (s : State) (p : Nat) (cid : Option (Nat × Nat)) : State :=
  (s.portLanes p).foldl (fun s l =>
    match cid with
    | some (c, n) => s.setAll [(LNK_CID_CLASS l, c), (LNK_CID_LEN l, min 511 n)]
    | none => s.setAll [(LNK_CID_CLASS l, 0), (LNK_CID_LEN l, 0)]) s

/-- The port brings up direct (R71). -/
def State.mayDirect (s : State) (p : Nat) : Bool :=
  (s.portLanes p).all fun l =>
    s.get (LNK_CID_CLASS l) = 1 && decide (s.get (LNK_CID_LEN l) ≤ 50) && !s.bit (LNK_LCFG_FORCESTEP l)

/-- Receiver detection starts on every lane of port `p` (R72, R74, R77). -/
def State.detect (s : State) (p : Nat) : State :=
  (s.setPortState p lDETECT).linkSet p fun x => { x with nextDet := s.now, ei := false, win := none, runEnd := none }

/-- A bring-up starts with a reading of the assembly memory; its target is the port's maximum rate, or the last
negotiated one after electrical idle (R71, R84). -/
def State.bringUp (s : State) (p : Nat) (cid : Option (Nat × Nat)) (neg : Bool) : State :=
  let s := s.writeCid p cid
  let x := s.link p
  let t := if neg then min (s.portMax p) (x.neg.getD 2) else s.portMax p
  (s.linkSet p fun x => { x with direct := s.mayDirect p, target := t, full := false }).detect p

/-- PORT_ENABLE (R62, R65, R71); without a board description Skidline stays out of service (R457). -/
def execPortEnable (p : Nat) (cid : Option (Nat × Nat)) (s : State) : Host.Outcome State Fault Refusal :=
  settled (if s.running && s.boot.bd.isSome && decide (psSTANDBY ≤ s.power) && decide (p < s.portCount) && s.portComplete p &&
      (s.portLanes p).all (fun l => s.get (LNK_LSTAT_STATE l) = lOFF && s.quadOk (l / 4)) then
      (s.linkSet p fun x => { x with fails := 0 }).bringUp p cid false else s)

/-- Training starts: the receivers of every lane have been detected (R72, R74). -/
def State.train (s : State) (p : Nat) : State :=
  (s.setPortState p lTRAIN).linkSet p fun x =>
    { x with detAt := s.now, rate := if x.direct then x.target else 0, skewAt := none }

/-- RECEIVER_DETECT (R72, R74). -/
def execReceiverDetect (p : Nat) (s : State) : Host.Outcome State Fault Refusal :=
  settled (if s.running && decide (p < s.portCount) && s.portState p = lDETECT then s.train p else s)

/-- DETECT_RETRY (R77, R79): the repeated detection of a port in DETECT or FAIL, and what it found. -/
def execDetectRetry (p : Nat) (found : Bool) (s : State) : Host.Outcome State Fault Refusal :=
  settled <|
    if !s.running || !decide (p < s.portCount) || !decide ((s.link p).nextDet ≤ s.now) then s
    else if s.portState p = lDETECT then
      if found then s.train p else s.linkSet p fun x => { x with nextDet := s.now + 10000000 }
    else if s.portState p = lFAIL then
      if !found then s.linkSet p fun x => { x with absent := true, nextDet := s.now + 1000000000 }
      else if (s.link p).absent then (s.linkSet p fun x => { x with fails := 0, absent := false }).detect p
      else s.linkSet p fun x => { x with nextDet := s.now + 1000000000 }
    else s

/-- A bring-up fails; the eighth in a row takes the port to FAIL (R79). -/
def State.bringUpFails (s : State) (p : Nat) : State :=
  let n := (s.link p).fails + 1
  if n < 8 then (s.linkSet p fun x => { x with fails := n }).detect p
  else
    let s := (s.portLanes p).foldl (fun s l => s.set (LNK_LSTAT_BRFAIL l) 1) s
    let s := (s.setPortState p lFAIL).linkSet p fun x => { x with fails := n, absent := false, nextDet := s.now + 1000000000 }
    s.lcmdEnd (s.portLanes p) 1 stFAILED

/-- LANE_LOCK (R68, R69, R72, R74): lock on every lane of the port, with each lane's logical lane and its skew in
0.25 ns, and the uncorrectable codewords met. A skew above 64 ns restarts bring-up 100 ms later; a skew that
LNK_LSTAT.DSKEW cannot hold reads as a free value. -/
def State.laneLock (s : State) (p : Nat) (lanes : List (Nat × Nat)) (unc : Nat) : State :=
  let ls := s.portLanes p
  let s := (ls.zip lanes).foldl (fun s q =>
    let (w, s1) := s.draw
    let (v, s2) : Nat × State := if q.2.2 < 256 then (q.2.2, s) else (w.toNat % 256, s1)
    s2.setAll [(LNK_LSTAT_LLANE q.1, q.2.1), (LNK_LSTAT_DSKEW q.1, v)]) s
  let s := ls.foldl (fun s l => s.bumpN (LNK_FECUNC l) unc) s
  if lanes.any (fun q => decide (256 < q.2)) then
    (ls.foldl (fun s l => s.set (LNK_LSTAT_SKEW l) 1) s).linkSet p fun x => { x with skewAt := some s.now }
  else s.setPortState p lCAPX

def execLaneLock (p : Nat) (lanes : List (Nat × Nat)) (unc : Nat) (s : State) :
    Host.Outcome State Fault Refusal :=
  settled (if s.running && decide (p < s.portCount) && s.portState p = lTRAIN && (s.link p).skewAt.isNone &&
      decide (lanes.length = (s.portLanes p).length) then s.laneLock p lanes unc else s)

/-- SKEW_RESTART (R69, R79): 100 ms after a deskew failure. -/
def execSkewRestart (p : Nat) (s : State) : Host.Outcome State Fault Refusal :=
  settled <| match (s.link p).skewAt with
    | some t =>
      if s.running && decide (p < s.portCount) && s.portState p = lTRAIN && decide (t + 100000000 ≤ s.now) then
        (s.linkSet p fun x => { x with skewAt := none }).bringUpFails p
      else s
    | none => s

/-- Minimum eye width and height of a rate (R75). -/
def eyeMin (rate : Nat) : Nat × Nat := match rate with | 0 => (300, 30) | 1 => (200, 15) | _ => (150, 12)

/-- An eye meets the figures of a rate (R75). -/
def eyeOk (rate : Nat) (e : Nat × Nat) : Bool := decide ((eyeMin rate).1 ≤ e.1 ∧ (eyeMin rate).2 ≤ e.2)

/-- Settings in use read as what the lane has found, which the unit does not choose: free values. -/
def State.freshSettings (s : State) (l : Nat) : State :=
  let (a, s) := s.draw
  let (b, s) := s.draw
  (s.wr (LNK_TXEQ l) a).wr (LNK_RXEQ l) b

/-- What a calibration run leaves on lane `l`: the eye kept, the trigger temperature, no run pending (R85,
R86). -/
def State.runLeaves (s : State) (l rate : Nat) (eye : Nat × Nat) : State :=
  let t := s.get (LNK_QSTAT_TEMP (l / 4))
  let s := s.setAll [(LNK_EYE_WIDTH l, eye.1), (LNK_EYE_HEIGHT l, eye.2), (LNK_EYE_STALE l, 0), (LNK_LSTAT_CALPEND l, 0),
    (LNK_CAL_LASTT l, ofInt 8 (toInt 16 t / 16))]
  let s := if eyeOk rate eye then s else s.set (LNK_LSTAT_EYELOW l) 1
  s.freshSettings l

/-- Port `p` becomes ACTIVE at `rate` after a bring-up, which includes a run on every lane (R72, R74, R85). -/
def State.activate (s : State) (p rate : Nat) (eyes : List (Nat × Nat)) : State :=
  let ls := s.portLanes p
  let x := s.link p
  let s := ls.foldl (fun s l => s.setAll [(LNK_LSTAT_RATE l, rate), (LNK_LSTAT_DIRECT l, if x.direct then 1 else 0)]) s
  let s := (ls.zip eyes).foldl (fun s q => s.runLeaves q.1 rate q.2) s
  let s := (s.setPortState p lACTIVE).linkSet p fun x =>
    { x with fails := 0, neg := some rate, rate := rate, cal := false, calCmd := false, win := none, runEnd := none }
  let s := (s.lcmdEnd ls 1 stDONE).lcmdEnd ls 4 stDONE
  let w := match ls with | l :: _ => s.get (LNK_LCFG_WIDTH l) | [] => 0
  (s.portUp p rate w).portFound p

/-- A direct bring-up restarts stepped (R73). -/
def State.restartStepped (s : State) (p : Nat) : State :=
  let s := (s.portLanes p).foldl (fun s l => s.bump (LNK_DIRFAIL l)) s
  (s.setPortState p lTRAIN).linkSet p fun x => { x with direct := false, rate := 0, skewAt := none }

/-- Every lane of port `p` flagged CAPPED (R75, R76). -/
def State.setCapped (s : State) (p : Nat) : State :=
  (s.portLanes p).foldl (fun s l => s.set (LNK_LSTAT_CAPPED l) 1) s

/-- CAPABILITY_EXCHANGE (R73-R76): the far end's capability word, and the eyes of the port's lanes at the present
rate. A stepped bring-up with a different port width never matches. -/
def State.capExchange (s : State) (p : Nat) (c : CapWord) (eyes : List (Nat × Nat)) : State :=
  let x := s.link p
  let w := match s.portLanes p with | l :: _ => s.get (LNK_LCFG_WIDTH l) | [] => 0
  if x.direct then
    if c.width ≠ w ∨ c.rate < x.target ∨ !c.sameFw then s.restartStepped p
    else s.activate p x.target eyes
  else if c.width ≠ w then s
  else if !c.sameFw then (s.setCapped p).activate p 0 eyes
  else
    let t := min x.target c.rate
    let s := s.linkSet p fun x => { x with target := t }
    if t = 0 then s.activate p 0 eyes else s.setPortState p lSTEP

def execCapabilityExchange (p : Nat) (c : CapWord) (eyes : List (Nat × Nat)) (s : State) :
    Host.Outcome State Fault Refusal :=
  settled (if s.running && decide (p < s.portCount) && s.portState p = lCAPX &&
      decide (eyes.length = (s.portLanes p).length) then s.capExchange p c eyes else s)

/-- RATE_STEP (R74, R75): the port's try at the next rate: `lock` was reached, the eyes of its lanes there, and
`far`: every eye of the far end passes. -/
def State.rateStep (s : State) (p : Nat) (lock : Bool) (eyes : List (Nat × Nat)) (far : Bool) : State :=
  let x := s.link p
  let r := x.rate + 1
  if lock && far && eyes.all (eyeOk r) then
    if r = x.target then s.activate p r eyes else s.linkSet p fun x => { x with rate := r }
  else (s.setCapped p).activate p x.rate eyes

def execRateStep (p : Nat) (lock : Bool) (eyes : List (Nat × Nat)) (far : Bool) (s : State) :
    Host.Outcome State Fault Refusal :=
  settled (if s.running && decide (p < s.portCount) && s.portState p = lSTEP &&
      decide (eyes.length = (s.portLanes p).length) then s.rateStep p lock eyes far else s)

/-- DIRECT_BRINGUP_TIMEOUT (R73). -/
def execDirectBringupTimeout (p : Nat) (s : State) : Host.Outcome State Fault Refusal :=
  settled (if s.running && decide (p < s.portCount) && (s.link p).direct && s.portState p = lTRAIN &&
      decide ((s.link p).detAt + 30000000 ≤ s.now) then s.restartStepped p else s)

/-- BRINGUP_FAIL_TIMEOUT (R79). -/
def execBringupFailTimeout (p : Nat) (s : State) : Host.Outcome State Fault Refusal :=
  settled (if s.running && decide (p < s.portCount) && decide (lTRAIN ≤ s.portState p ∧ s.portState p ≤ lSTEP) &&
      decide ((s.link p).detAt + 150000000 ≤ s.now) then s.bringUpFails p else s)

/-! ### Loss (R78, R80) -/

/-- The Ethernet port of a quad leaves service (R80). -/
def State.ethDown (s : State) (q : Nat) : State :=
  (s.setLanes (s.ethLanes q) lTRAIN).set (ETH_PORT_STAT_ACTIVE q) 0

/-- The Skidline port leaves service (R78, R306, R320). -/
def State.skdLost (s : State) (p : Nat) : State :=
  if s.active p then (s.portDown p).portLost p else s

/-- Lane `l` loses lock: its port leaves service, and bring-up starts again (R71, R78, R80). -/
def State.laneLoss (s : State) (l : Nat) (cid : Option (Nat × Nat)) : State :=
  let s := s.bump (LNK_LOSS l)
  let k := s.linkOf l
  let s := s.lcmdEnd (s.linkLanes k) 2 stFAILED
  if 16 ≤ k then (s.linkSet k fun x => { x with runEnd := none }).ethDown (k - 16)
  else (s.skdLost k).bringUp k cid false

/-- LANE_LOSS: an active lane (R78, R80). -/
def execLaneLoss (l : Nat) (cid : Option (Nat × Nat)) (s : State) : Host.Outcome State Fault Refusal :=
  settled (if s.running && decide (l < 32) && (s.get (LNK_LSTAT_STATE l) = lACTIVE || s.get (LNK_LSTAT_STATE l) = lCAL)
    then s.laneLoss l cid else s)

/-- ETH_PORT_BRINGUP (R80): clock recovery, PCS alignment and codeword lock on every lane of an enabled Ethernet
port. -/
def execEthPortBringup (q : Nat) (s : State) : Host.Outcome State Fault Refusal :=
  settled (if s.running && s.head && decide (q < 4) && s.get (LNK_QCFG_MODE q) = 2 && s.bit (ETH_PORT_CFG_EN q) &&
      (s.ethLanes q).all (fun l => s.bit (LNK_LCFG_EN l)) && s.quadOk q && !s.bit (ETH_PORT_STAT_ACTIVE q) then
      ((s.setLanes (s.ethLanes q) lACTIVE).setAll [(ETH_PORT_STAT_ACTIVE q, 1), (ETH_PORT_STAT_WIDTH q, s.get (LNK_QCFG_ETHW q))]).lcmdEnd
        (s.ethLanes q) 1 stDONE else s)

/-! ### Electrical idle (R81-R84) -/

/-- Port `p` is in electrical idle (R81): its frames wait. -/
def State.enterIdle (s : State) (p : Nat) : State :=
  let s := (s.setPortState p lIDLE).set (SKD_PORT_STAT_ACTIVE p) 0
  (s.linkSet p fun x => { x with ei := false, runEnd := none }).lcmdEnd (s.portLanes p) 3 stDONE

/-- The port has no frame to send and has carried none for 1 ms (R82). -/
def State.quiet (s : State) (p : Nat) : Bool :=
  let x := s.port p
  x.tq.isEmpty && x.cq.isEmpty && x.bq.isEmpty && decide (x.last + 1000000 ≤ s.now)

/-- EI_ENTRY (R81, R82): by LNK_LCMD IDLE, in STANDBY, or as the receiver of a marker group with EI = 1. -/
def execEiEntry (p : Nat) (far : Bool) (s : State) : Host.Outcome State Fault Refusal :=
  settled (if s.running && decide (p < s.portCount) && s.portState p = lACTIVE &&
      (far || (s.link p).ei || (s.power = psSTANDBY && s.quiet p)) then s.enterIdle p else s)

/-- The quad temperature lies within DT of LASTT on every lane (R84). -/
def State.tempNear (s : State) (p : Nat) : Bool :=
  (s.portLanes p).all fun l =>
    decide ((toInt 16 (s.get (LNK_QSTAT_TEMP (l / 4))) - 16 * toInt 8 (s.get (LNK_CAL_LASTT l))).natAbs ≤
      16 * s.get (LNK_CAL_DT l))

/-- A fast exit completes: the port is ACTIVE with its stored settings (R83). -/
def State.fastExit (s : State) (p : Nat) : State :=
  let s := (s.setPortState p lACTIVE).lcmdEnd (s.portLanes p) 4 stDONE
  let w := match s.portLanes p with | l :: _ => s.get (LNK_LCFG_WIDTH l) | [] => 0
  (s.portUp p (s.link p).rate w).portFound p

/-- FAST_EXIT (R82-R84, R91): the requested exit of port `p`, as a fast exit where R84 allows it, otherwise as a
new bring-up after a reading of the assembly memory. -/
def execFastExit (p : Nat) (cid : Option (Nat × Nat)) (s : State) : Host.Outcome State Fault Refusal :=
  settled (if s.running && decide (p < s.portCount) && s.portState p = lEXIT then
      if (s.link p).full || !s.tempNear p then s.bringUp p cid true else s.fastExit p
    else s)

/-- EXIT_BURST_DETECT (R82). -/
def execExitBurstDetect (p : Nat) (s : State) : Host.Outcome State Fault Refusal :=
  settled (if s.running && decide (p < s.portCount) && s.portState p = lIDLE then s.wakePort p else s)

/-- FAST_EXIT_TIMEOUT (R84): no lock 2 us after the request. -/
def execFastExitTimeout (p : Nat) (cid : Option (Nat × Nat)) (s : State) : Host.Outcome State Fault Refusal :=
  settled (if s.running && decide (p < s.portCount) && s.portState p = lEXIT && decide ((s.link p).exitAt + 2000 ≤ s.now)
    then ((s.portLanes p).foldl (fun s l => s.bump (LNK_FXFAIL l)) s).bringUp p cid true else s)

/-! ### Lane commands (R91-R93) -/

/-- A run, a bring-up or a fast exit is in progress on lane `l` (R91). -/
def State.laneBusy (s : State) (l : Nat) : Bool :=
  let st := s.get (LNK_LSTAT_STATE l)
  decide (lTRAIN ≤ st ∧ st ≤ lSTEP) || st = lEXIT || st = lCAL

/-- Command `op` on lane `l`: it is written to every lane of the port, and `f` answers its STAT with the state
(R91, R93). -/
def State.laneCommand (s : State) (l op : Nat) (f : State → Nat × State) : State :=
  if s.bit (LNK_QSTAT_UNPWR (l / 4)) then s.answer rUNPWR
  else if s.busy (LNK_LCMD l) || ((op = 1 || op = 2) && s.laneBusy l) then s.answer rBUSY
  else
    let ls := s.cmdLanes l
    let s := ls.foldl (fun s m => s.wr (LNK_LCMD m) (BitVec.ofNat 32 op)) (s.answer rOK)
    let (st, s) := f s
    ls.foldl (fun s m => s.setStat (LNK_LCMD m) st) s

/-- RETRAIN restarts bring-up of the port (R75, R79): refused on a lane that is OFF or under test. -/
def State.retrain (s : State) (l : Nat) : State :=
  s.laneCommand l 1 fun s =>
    let st := s.get (LNK_LSTAT_STATE l)
    let k := s.linkOf l
    if st = lOFF ∨ st = lPRBS then (stREFUSED, s)
    else if 16 ≤ k then (stBUSY, s.ethDown (k - 16))
    else
      let s := s.skdLost k
      (stBUSY, (s.linkSet k fun x => { x with fails := 0, direct := s.mayDirect k, target := s.portMax k }).detect k)

def execLaneRetrain (l : Nat) (s : State) : Host.Outcome State Fault Refusal :=
  settled (if s.running && decide (l < 32) then s.retrain l else s)

/-- IDLE (R81, R82): the entry is requested; accepted on an ACTIVE Skidline port. -/
def State.laneIdle (s : State) (l : Nat) : State :=
  s.laneCommand l 3 fun s =>
    let st := s.get (LNK_LSTAT_STATE l)
    let k := s.linkOf l
    if k < 16 ∧ st = lACTIVE then (stBUSY, s.linkSet k fun x => { x with ei := true })
    else if k < 16 ∧ st = lIDLE then (stDONE, s)
    else (stREFUSED, s)

def execLaneIdle (l : Nat) (s : State) : Host.Outcome State Fault Refusal :=
  settled (if s.running && decide (l < 32) then s.laneIdle l else s)

/-- WAKE (R82): accepted on a Skidline port in electrical idle or ACTIVE. -/
def State.laneWake (s : State) (l : Nat) : State :=
  s.laneCommand l 4 fun s =>
    let st := s.get (LNK_LSTAT_STATE l)
    let k := s.linkOf l
    if k < 16 ∧ st = lIDLE then (stBUSY, s.wakePort k)
    else if k < 16 ∧ st = lACTIVE then (stDONE, s)
    else (stREFUSED, s)

def execLaneWake (l : Nat) (s : State) : Host.Outcome State Fault Refusal :=
  settled (if s.running && decide (l < 32) then s.laneWake l else s)

/-- PRBSON (R92): on an OFF lane of a quad whose PLL is locked; the PAM4 patterns not at 28 Gbit/s NRZ. Whether
the checker finds its pattern is up to the far end: a free bit. -/
def State.prbsOn (s : State) (l : Nat) : State :=
  if s.bit (LNK_QSTAT_UNPWR (l / 4)) then s.answer rUNPWR
  else s.command (LNK_LCMD l) 5 fun s =>
    let pam := s.get (LNK_PRBS_PAT l) = 6 || s.get (LNK_PRBS_PAT l) = 7
    let nrz := s.get (LNK_QCFG_MODE (l / 4)) = 1 && s.get (LNK_LCFG_MAXRATE l) = 0
    if s.get (LNK_LSTAT_STATE l) ≠ lOFF || !s.bit (LNK_QSTAT_PLLLOCK (l / 4)) || (pam && nrz) then
      s.setStat (LNK_LCMD l) stREFUSED
    else
      let (w, s) := s.draw
      let s := s.set (LNK_LSTAT_STATE l) lPRBS
      (s.set (LNK_PRBS_SYNC l) (if s.bit (LNK_PRBS_RXEN l) then w.toNat % 2 else 0)).setStat (LNK_LCMD l) stDONE

def execLanePrbsOn (l : Nat) (s : State) : Host.Outcome State Fault Refusal :=
  settled (if s.running && decide (l < 32) then s.prbsOn l else s)

/-- PRBSOFF (R92): the lane returns to OFF. -/
def State.prbsOff (s : State) (l : Nat) : State :=
  if s.bit (LNK_QSTAT_UNPWR (l / 4)) then s.answer rUNPWR
  else s.command (LNK_LCMD l) 6 fun s =>
    if s.get (LNK_LSTAT_STATE l) ≠ lPRBS then s.setStat (LNK_LCMD l) stREFUSED
    else ((s.set (LNK_LSTAT_STATE l) lOFF).set (LNK_PRBS_SYNC l) 0).setStat (LNK_LCMD l) stDONE

def execLanePrbsOff (l : Nat) (s : State) : Host.Outcome State Fault Refusal :=
  settled (if s.running && decide (l < 32) then s.prbsOff l else s)

/-! ### Calibration (R85-R90) -/

/-- Length of a calibration run, ns (R86). -/
abbrev calRunNs : Nat := 40000

/-- The run starts on every lane of port `k` (R86). -/
def State.startRun (s : State) (k : Nat) : State :=
  (s.setLanes (s.linkLanes k) lCAL).linkSet k fun x => { x with cal := false, win := none, runEnd := some (s.now + calRunNs) }

/-- Lanes of a port as the mask of a service message (R444). -/
def State.laneMask (s : State) (p : Nat) : Nat := ((s.portLanes p).map (fun l => 2 ^ (l % 4))).sum

/-- Conditions under which a head grants a window of `ahead` ns from now on port `p` (R87): the CMT of the present
slot has left, the window ends 10 us before the next pacing tick, no late work, no other window in the slot. -/
def State.windowOk (s : State) (p ahead : Nat) : Bool :=
  let g := s.grid
  let j := slotAt g s.tm.wall
  s.gridRuns && !(s.port p).bq.any (fun i => i.f.typ = fCMT) && !s.bit CMP_PACE_STAT_CATCHUP &&
  s.get CMP_PACE_STAT_CMTSEQ = (j + s.get CMP_PACE_LEAD) % 2 ^ 16 &&
  decide (s.tm.wall + (ahead + calRunNs + 10000) * wNs ≤ launchTime g (j + 1)) &&
  !s.lnk.winSlot.any (fun q => q.1 = p && q.2 = j)

/-- A window on port `p` for the request of unit `u`, lanes `m` of its port `q`, `ahead` ns from now (R87, R88). -/
def State.grant (s : State) (p u q m ahead : Nat) : State :=
  let w := s.tm.wall + ahead * wNs
  let s := { s with lnk := { s.lnk with winSlot := (p, slotAt s.grid s.tm.wall) :: s.lnk.winSlot.filter (fun x => x.1 ≠ p) } }
  let s := s.bcastSvc vCALGRANT p (natLE 2 u ++ natLE 1 q ++ natLE 1 m ++ timeBytes w ++ zeros 2)
  if u = s.addr then s.linkSet p fun x => { x with win := some w }
  else if u % 64 = 1 ∧ q % 2 = 0 then
    { s with lnk := { s.lnk with txWin := (p, w) :: s.lnk.txWin.filter (fun x => x.1 ≠ p) } }
  else s

/-- The oldest request on chain port `p` is granted if the conditions hold (R87, R88). -/
def State.tryGrant (s : State) (p ahead : Nat) : State :=
  match s.lnk.reqs.find? (fun r => r.1 = p) with
  | some r =>
    if !s.windowOk p ahead then s
    else ({ s with lnk := { s.lnk with reqs := s.lnk.reqs.filter (fun x => x ≠ r) } }).grant p r.2.1 r.2.2.1 r.2.2.2 ahead
  | none => s

/-- Every open flow received on Ethernet port `q` is one leg of a pair whose other leg arrived on another port
within the last base frame (R89). -/
def State.ethRunOk (s : State) (q : Nat) : Bool :=
  let g := s.grid
  let frame := if g.num = 0 then 0 else g.den * 10 ^ 9 / g.num
  (List.range 16).all fun f =>
    let onA := s.get (ETH_FLOW_CFG_PORTA f) = q
    let dual := s.bit (ETH_FLOW_CFG_DUAL f)
    let onB := dual && s.get (ETH_FLOW_CFG_PORTB f) = q
    let x := s.eth.flows.find? (fun y => y.1 = f)
    let last := match x with | some (_, y) => if onA then y.lastB else y.lastA | none => 0
    s.get (ETH_FLOW_STAT_STATE f) ≠ 1 || !(onA || onB) || (dual && decide (0 < last ∧ s.now ≤ last + frame))

/-- A run falls due on port `k`: it starts, waits for a window or for the exit from idle, or leaves the settings
stale (R85-R90). -/
def State.calDue (s : State) (k : Nat) : State :=
  let ls := s.linkLanes k
  let s := ls.foldl (fun s l => s.set (LNK_LSTAT_CALPEND l) 1) s
  let hold := ls.any (fun l => s.bit (LNK_CAL_MODE l)) && !(s.link k).calCmd
  let first := !(s.link k).cal
  let s := s.linkSet k fun x => { x with cal := true }
  if ls.any (fun l => s.get (LNK_LSTAT_STATE l) ≠ lACTIVE) then s
  else if hold then ls.foldl (fun s l => s.set (LNK_EYE_STALE l) 1) s
  else if 16 ≤ k then (if s.ethRunOk (k - 16) then s.startRun k else s)
  else if !first then s
  else
    let s := s.linkSet k fun x => { x with reqAt := s.now, reqNext := s.now }
    if s.head then { s with lnk := { s.lnk with reqs := s.lnk.reqs ++ [(k, s.addr, 0, s.laneMask k)] } } else s

/-- The quad temperature has left the band of DT around LASTT; DT = 0 disables the trigger (R85, R93). -/
def State.calTrigger (s : State) (k : Nat) : Bool :=
  (s.linkLanes k).any fun l =>
    s.get (LNK_CAL_DT l) ≠ 0 &&
    decide (16 * s.get (LNK_CAL_DT l) <
      (toInt 16 (s.get (LNK_QSTAT_TEMP (l / 4))) - 16 * toInt 8 (s.get (LNK_CAL_LASTT l))).natAbs)

/-- CAL_DUE (R85, R89, R90). -/
def execCalDue (k : Nat) (s : State) : Host.Outcome State Fault Refusal :=
  settled (if s.running && decide (k < 20) && !(s.linkLanes k).isEmpty && (s.link k).runEnd.isNone &&
      (s.linkLanes k).any (fun l => s.get (LNK_LSTAT_STATE l) = lACTIVE || s.get (LNK_LSTAT_STATE l) = lIDLE) &&
      ((s.link k).cal || s.calTrigger k) then s.calDue k else s)

/-- CAL (R85, R90): a run falls due on the port by command; refused where no lane is ACTIVE or in idle. -/
def State.laneCal (s : State) (l : Nat) : State :=
  s.laneCommand l 2 fun s =>
    let st := s.get (LNK_LSTAT_STATE l)
    if st ≠ lACTIVE ∧ st ≠ lIDLE then (stREFUSED, s)
    else (stBUSY, (s.linkSet (s.linkOf l) fun x => { x with calCmd := true, cal := false }).calDue (s.linkOf l))

def execLaneCal (l : Nat) (s : State) : Host.Outcome State Fault Refusal :=
  settled (if s.running && decide (l < 32) then s.laneCal l else s)

/-- A port waits for a window: a run is due, not on hold, and no grant has named it. -/
def State.wantsWindow (s : State) (p : Nat) : Bool :=
  let x := s.link p
  x.cal && x.win.isNone && x.runEnd.isNone && s.portState p = lACTIVE &&
  (x.calCmd || !(s.portLanes p).any (fun l => s.bit (LNK_CAL_MODE l)))

/-- CALREQ_SEND (R87): a tile asks for a window, every 1 s. -/
def execCalreqSend (p : Nat) (s : State) : Host.Outcome State Fault Refusal :=
  settled (if s.running && !s.head && decide (p < 4) && s.wantsWindow p && decide ((s.link p).reqNext ≤ s.now) then
      (s.linkSet p fun x => { x with reqNext := s.now + 1000000000 }).sendSvc vCALREQ s.headOf
        (natLE 2 s.addr ++ natLE 1 p ++ natLE 1 (s.laneMask p) ++ zeros 4)
    else s)

/-- The frame at the front of the received frames of port `p`, if it is what a row takes, and the state without
it, its units freed (R302, R304, R308). A held PIX holds back what follows. -/
def State.takeRx (s : State) (p : Nat) (ok : Frame → Bool) : Option (RxItem × State) :=
  let x := s.port p
  match x.rx with
  | i :: l =>
    if !x.held && ok i.f then
      let s : State := s.setPort p { x with rx := l }
      some (i, if i.owed then s.freeUnits (some p) i.f else s)
    else none
  | [] => none

/-- A service message frame of service `v` (R443). -/
def isSvc (v : Nat) (f : Frame) : Bool := f.typ = fCTL && f.fld 12 1 = 3 && numAt f.pay 16 1 = v

/-- The service payload (R443). -/
def svcPay (f : Frame) : List Byte := f.pay.drop 20

/-- CALREQ_RX (R87, R88): a request from chain port `p` joins the queue unless it is there, and the oldest request
of the port is granted, `ahead` ns from now, if the conditions hold. -/
def State.calreqRx (s : State) (p ahead : Nat) : State :=
  let s := match s.takeRx p (isSvc vCALREQ) with
    | some (i, s) =>
      let b := svcPay i.f
      let r := (p, numAt b 0 2, numAt b 2 1, numAt b 3 1 % 16)
      if s.lnk.reqs.contains r then s else { s with lnk := { s.lnk with reqs := s.lnk.reqs ++ [r] } }
    | none => s
  s.tryGrant p ahead

def execCalreqRx (p ahead : Nat) (s : State) : Host.Outcome State Fault Refusal :=
  settled (if s.running && s.head && decide (p < 16) then s.calreqRx p ahead else s)

/-- A granted window recorded by a tile: as the calibrating receiver, or as the sender that faces it (R87,
R88). -/
def State.calgrant (s : State) (b : List Byte) : State :=
  let u := numAt b 0 2
  let q := numAt b 2 1
  let w := timeAt b 4
  let tx (p : Nat) : State := { s with lnk := { s.lnk with txWin := (p, w) :: s.lnk.txWin.filter (fun x => x.1 ≠ p) } }
  if u = s.addr then s.linkSet (q % 4) fun x => { x with win := some w }
  else if u = s.addr + 1 ∧ q % 2 = 0 then tx (q % 4 + 1)
  else if u + 1 = s.addr ∧ u % 64 ≠ 0 ∧ q % 2 = 1 then tx (q % 4 - 1)
  else if u % 64 = 0 ∧ s.addr % 64 = 1 then tx pUP
  else s

/-- CALGRANT_RX (R88). -/
def execCalgrantRx (p : Nat) (s : State) : Host.Outcome State Fault Refusal :=
  settled (if s.running && !s.head && decide (p < 4) then
      match s.takeRx p (isSvc vCALGRANT) with | some (i, s) => s.calgrant (svcPay i.f) | none => s
    else s)

/-- CAL_WINDOW_START (R88): at the start of a window on port `p` the sender holds its frames for 40 us and the
calibrating receiver runs. -/
def State.windowStart (s : State) (p : Nat) : State :=
  let s := match s.lnk.txWin.find? (fun x => x.1 = p) with
    | some (_, w) =>
      if s.tm.wall < w then s
      else
        let s := { s with lnk := { s.lnk with txWin := s.lnk.txWin.filter (fun x => x.1 ≠ p) } }
        s.setPort p { s.port p with calTx := s.now + calRunNs }
    | none => s
  match (s.link p).win with
  | some w => if s.tm.wall < w ∨ s.portState p ≠ lACTIVE then s else s.startRun p
  | none => s

def execCalWindowStart (p : Nat) (s : State) : Host.Outcome State Fault Refusal :=
  settled (if s.running && decide (p < s.portCount) then s.windowStart p else s)

/-- The run on port `k` ends (R86): each lane keeps the settings with the wider eye, given as (new, previous);
equal widths leave the choice free. -/
def State.runEnd (s : State) (k : Nat) (eyes : List ((Nat × Nat) × (Nat × Nat))) : State :=
  let ls := s.linkLanes k
  let rate := (s.link k).rate
  let s := (ls.zip eyes).foldl (fun s q =>
    let (n, s) := s.drawNat
    let e := if q.2.1.1 = q.2.2.1 then (if n % 2 = 0 then q.2.1 else q.2.2)
      else if q.2.2.1 < q.2.1.1 then q.2.1 else q.2.2
    (s.runLeaves q.1 rate e).bump (LNK_CALRUN q.1)) s
  let s := s.setLanes ls lACTIVE
  (s.linkSet k fun x => { x with runEnd := none, calCmd := false }).lcmdEnd ls 2 stDONE

/-- CAL_RUN_END (R86): 40 us after its start. -/
def execCalRunEnd (k : Nat) (eyes : List ((Nat × Nat) × (Nat × Nat))) (s : State) :
    Host.Outcome State Fault Refusal :=
  settled <| match (s.link k).runEnd with
    | some t => if s.running && decide (t ≤ s.now) && decide (eyes.length = (s.linkLanes k).length) then s.runEnd k eyes else s
    | none => s

/-- CAL_STARVE (R88): no window within WAITMAX seconds of the request. -/
def execCalStarve (p : Nat) (s : State) : Host.Outcome State Fault Refusal :=
  settled (if s.running && decide (p < s.portCount) && s.wantsWindow p &&
      (s.portLanes p).all (fun l => decide ((s.link p).reqAt + s.get (LNK_CAL_WAITMAX l) * 10 ^ 9 ≤ s.now)) then
      (s.portLanes p).foldl (fun s l => s.setAll [(LNK_LSTAT_CALSTARVE l, 1), (LNK_EYE_STALE l, 1)]) s
    else s)

/-! ### Settings (R63, R64) and reference clocks (R536) -/

/-- Lane `l` goes OFF, and the rest of its port with it (R93). -/
def State.laneOff (s : State) (l : Nat) : State :=
  if s.get (LNK_LSTAT_STATE l) = lOFF then s
  else
    let k := s.linkOf l
    let ls := s.cmdLanes l
    let s := if 16 ≤ k then s.set (ETH_PORT_STAT_ACTIVE (k - 16)) 0 else s.skdLost k
    (s.setLanes ls lOFF).linkSet k fun x => { x with fails := 0, win := none, runEnd := none, cal := false, ei := false }

/-- A write of LNK_QCFG (R63): the status of R435, and the state. -/
def State.writeQcfg (s : State) (q : Nat) (v : Word) : State :=
  let mode := getBits v 0 2
  let w := getBits v 2 2
  let changed := mode ≠ s.get (LNK_QCFG_MODE q) || w ≠ s.get (LNK_QCFG_ETHW q)
  if s.bit (LNK_QSTAT_UNPWR q) then s.answer rUNPWR
  else if mode = 3 ∨ w = 3 ∨ (mode = 2 ∧ (!s.head ∨ 4 ≤ q)) then s.answer rRANGE
  else if changed && (List.range 4).any (fun n => s.get (LNK_LSTAT_STATE (4 * q + n)) ≠ lOFF) then s.answer rSTATE
  else (s.setAll [(LNK_QCFG_MODE q, mode), (LNK_QCFG_ETHW q, w)]).answer rOK

/-- An assignment of lane `l` keeps R64: one quad, an aligned group of the port's width, the tile's fixed
quads. -/
def State.assignOk (s : State) (l port width : Nat) : Bool :=
  let others := (s.portLanes port).filter (fun m => m ≠ l)
  if s.head then others.all (fun m => m / 4 = l / 4 && (m % 4) / lanesOf width = (l % 4) / lanesOf width)
  else decide (port < 4) && l / 4 = port && others.all (fun m => (m % 4) / lanesOf width = (l % 4) / lanesOf width)

/-- A write of LNK_LCFG (R64, R79). -/
def State.writeLcfg (s : State) (l : Nat) (v : Word) : State :=
  let en := getBits v 0 1 = 1
  let skd := s.get (LNK_QCFG_MODE (l / 4)) ≠ 2
  if s.bit (LNK_QSTAT_UNPWR (l / 4)) then s.answer rUNPWR
  else if getBits v 5 2 = 3 ∨ getBits v 7 2 = 3 then s.answer rRANGE
  else if skd && en && !s.assignOk l (getBits v 1 4) (getBits v 5 2) then s.answer rRANGE
  else
    let s := if (s.rd (LNK_LCFG l)) &&& 0x7F#32 = v &&& 0x7F#32 then s else s.laneOff l
    (s.wr (LNK_LCFG l) (v &&& 0xFFF#32)).answer rOK

/-- REFERENCE_CLOCK_CHANGE (R62, R536): QREFCLK `k` is within its limits or not. Without it the lanes of its two
quads are OFF. -/
def State.refClock (s : State) (k : Nat) (ok : Bool) : State :=
  let b := if ok then 1 else 0
  [2 * k, 2 * k + 1].foldl (fun s q =>
    if s.bit (LNK_QSTAT_UNPWR q) then s
    else
      let s := if ok then s else (List.range 4).foldl (fun s n => s.laneOff (4 * q + n)) s
      s.setAll [(LNK_QSTAT_REFOK q, b), (LNK_QSTAT_PLLLOCK q, b)]) s

def execReferenceClockChange (k : Nat) (ok : Bool) (s : State) : Host.Outcome State Fault Refusal :=
  settled (if s.phase = .firmware && decide (k < 4) then s.refClock k ok else s)

end Sys2Proof.Machine
end

