-- ==== Sys2Proof/Machine/Skid.lean ====
section
/-! DEFINITION. Reception on Skidline ports: what a unit does with a frame (R285-R297, R301, R443), and the intake
of a tile (R307-R309). -/

namespace Sys2Proof.Machine

/-! ### The decision (R295, R296, R321) -/

/-- What becomes of a frame: consumed or not, the port it is forwarded to, or counted as misrouted. -/
structure Route where
  take : Bool
  fwd  : Option Nat
  lost : Bool
  deriving DecidableEq, Repr

/-- A TIM SYNC frame (R291). -/
def Frame.isSync (f : Frame) : Bool := f.typ = fTIM && f.fld 10 1 % 4 = 0

/-- The tile's column of R295. -/
def State.routeTile (s : State) (p : Nat) (f : Frame) : Route :=
  let out := some (if p % 2 = 0 then p + 1 else p - 1)
  if f.lloc then ⟨true, none, false⟩
  else if f.isSync then ⟨true, none, false⟩   -- forwarded by TIM_SYNC_RX
  else if !s.bit SKD_ADDR_VALID then ⟨false, out, false⟩
  else if f.bcast ∧ f.dest / 64 = s.addr / 64 then ⟨true, out, false⟩
  else if f.dest = s.addr then ⟨true, none, false⟩
  else ⟨false, out, false⟩

/-- Port `p` leads to a peer head (R42, R276, R321). -/
def State.isPeerPort (s : State) (p : Nat) : Bool :=
  s.role p = rPEER || (s.bit TMU_PEER_EN && s.get TMU_PEER_PORT = p) ||
  (List.range 4).any (fun i => s.bit (CMP_PLC_PEER_EN i) && s.get (CMP_PLC_PEER_PORT i) = p)

/-- The RINGEND port whose ring is chain `c` (R321). -/
def State.ringPort (s : State) (c : Nat) : Option Nat :=
  (List.range 16).find? fun r => s.role r = rRINGEND && s.bit (SKD_RING_VALID r) && s.get (SKD_RING_FAR r) = c

/-- The head's column of R295. -/
def State.routeHead (s : State) (p : Nat) (f : Frame) : Route :=
  let drop : Route := ⟨false, none, false⟩
  let own := decide (f.dest / 1024 = s.headNum)
  if f.lloc then ⟨true, none, false⟩
  else if f.isSync then (if s.bit TMU_PEER_EN && s.get TMU_PEER_PORT = p then ⟨true, none, false⟩ else drop)
  else if f.bcast && (own || (s.role p = rRINGEND && s.bit (SKD_RING_VALID p) && s.get (SKD_RING_FAR p) = f.dest / 64)) then
    drop
  else if own && f.dest % 64 = 0 then ⟨true, none, false⟩
  else if own && s.isPeerPort p then
    match s.chainPort (f.dest / 64 % 16) (f.dest % 64) with
    | some q => ⟨false, some q, false⟩
    | none => ⟨false, none, true⟩
  else if s.partnerPort = some p then
    match s.ringPort (f.dest / 64) with
    | some q => ⟨false, some q, false⟩
    | none => ⟨false, none, true⟩
  else ⟨false, none, true⟩

def State.route (s : State) (p : Nat) (f : Frame) : Route := if s.head then s.routeHead p f else s.routeTile p f

/-! ### The end of a frame (R285-R289, R297) -/

/-- How a received frame ended. -/
inductive RxEnd where
  | ok | stomp | bad | abort | badUnit | lost | length
  deriving DecidableEq, Repr

/-- The end of a frame of `len` payload bytes with trailer `crc` (R287, R289). -/
def rxEnd (r : RxFrame) (len crc : Nat) : RxEnd :=
  let n := (len + 31) / 32
  let u := (r.data.length + 31) / 32
  if n < u then .length
  else match r.fin with
    | .lost => .lost
    | .abort => .abort
    | .badUnit => .badUnit
    | .crc w =>
      if u < n then .length
      else if w.toNat = crc then .ok
      else if w.toNat = 0xFFFFFFFF - crc then .stomp
      else .bad

/-- The code under which a forwarded copy ends: END, stomped, or ABORT with its REASON (R287, R297). -/
def RxEnd.fin : RxEnd → Nat
  | .ok => 0
  | .stomp => 1
  | .bad => 1
  | .abort => 18
  | .badUnit => 18
  | .lost => 17
  | .length => 21

/-- The counters of a frame that ended badly, and its discard record (R289, R297, R311). -/
def State.countEnd (s : State) (p : Nat) (f : Frame) (e : RxEnd) : State :=
  match e with
  | .ok => s.bump (SKD_RXF p)
  | .stomp => (s.bump (SKD_STOMP p)).disc p f.typ dSTOMP f.src
  | .bad => (s.bump (SKD_TCRC p)).disc p f.typ dTCRC f.src
  | .abort => (s.bump (SKD_ABORT p)).disc p f.typ dABORT f.src
  | .badUnit => (s.bump (SKD_BADUNIT p)).disc p f.typ dBADUNIT f.src
  | .lost => (s.bump (SKD_TRUNC p)).disc p f.typ dTRUNC f.src
  | .length => (s.bump (SKD_LENERR p)).disc p f.typ dLENERR f.src

/-! ### Consumption (R296, R301, R443) -/

/-- The alive counter of a consumed frame against the last of its SRC and TYPE; up to 8 senders of a TYPE are
kept, and the one silent longest is replaced (R301). -/
def State.checkAlive (s : State) (p : Nat) (f : Frame) : State :=
  if f.lloc then s
  else
    let same (a : Nat × Nat × Nat × Nat) : Bool := a.1 = f.typ && a.2.1 = f.src
    let ofType := s.skd.seen.filter (fun a => a.1 = f.typ)
    let s := match s.skd.seen.find? same with
      | some a =>
        if f.alive = a.2.2.1 then s.bump (SKD_ALVREP p)
        else if f.alive ≠ (a.2.2.1 + 1) % 256 then s.bump (SKD_ALVSKIP p)
        else s
      | none => s
    let rest := s.skd.seen.filter (fun a => !same a)
    let rest := if ofType.any same || decide (ofType.length < 8) then rest
      else match ofType.reverse with
        | old :: _ => rest.filter (fun a => a ≠ old)
        | [] => rest
    s.skdSet fun k => { k with seen := (f.typ, f.src, f.alive, s.now) :: rest }

/-- LEN that the row of a service allows, and whether the role receives it (R443, R444). -/
def svcOk (head : Bool) (v len : Nat) : Bool :=
  match v with
  | 0x01 => len = 64
  | 0x02 => head && len = 8
  | 0x03 => !head && len = 16
  | 0x04 => head && len = 8
  | 0x05 => head && len = 4
  | 0x06 => head && len = 40
  | 0x07 => head && len = 8
  | 0x08 => head && len = 8
  | 0x09 => head && len = 8
  | 0x0A => head && len = 8
  | 0x0B => head && len = 8
  | 0x0C => head && decide (8 ≤ len ∧ len ≤ 1004)
  | 0x0D => head && len = 4
  | 0x0E => !head && len = 16
  | _ => false

/-- A tile has no use for the frame (R296). -/
def tileUnused (f : Frame) : Bool :=
  f.typ = fHBT || f.typ = fDIG || (f.typ = fDIS && f.fld 10 1 % 2 = 1) ||
  (f.typ = fCTL && (f.fld 12 1 % 4 = 1 || f.fld 12 1 % 4 = 2))

/-- The frame's head, by the port it came from, is where answers go (R414). -/
def State.noteReply (s : State) (p : Nat) (f : Frame) : State :=
  if f.src = 0xFFFF ∨ f.src % 64 ≠ 0 then s
  else s.skdSet fun k => { k with replyTo := (f.src / 1024, p) :: k.replyTo.filter (fun r => r.1 ≠ f.src / 1024) }

/-- A frame with a valid trailer reaches the unit that uses it (R296, R443, R547). `owed`: its units are still to
be freed. -/
def State.consume (s : State) (p : Nat) (f : Frame) (at0 : Nat) (owed : Bool) : State :=
  let s := (s.checkAlive p f).noteReply p f
  let free (s : State) : State := if owed then s.freeUnits (some p) f else s
  if !s.head && tileUnused f then free (s.disc p f.typ dUNUSED f.src)
  else if !s.head && (f.typ = fPIX || f.typ = fCMT) && !s.ready then free s
  else if s.head && (f.typ = fPIX || f.typ = fCMT || f.typ = fIMG || (f.typ = fCTL && f.fld 12 1 % 4 = 0)) then free s
  else if f.typ = fCTL && f.fld 12 1 % 4 = 3 && !svcOk s.head (numAt f.pay 16 1) (numAt f.pay 18 2) then
    free (s.bump GLB_SVCBAD)
  else s.setPort p { s.port p with rx := (s.port p).rx ++ [⟨f, at0, 0, owed⟩] }

/-- A whole frame arrives on port `p` at wall time `at0`: header checks, decision, trailer, counters,
cut-through and consumption (R287-R297). -/
def State.receive (s : State) (p : Nat) (r : RxFrame) (at0 : Nat) : State :=
  let (h, len) := parseHeader r.hdr
  let f := { h with pay := r.data.take len }
  let s := s.setPort p { s.port p with last := s.now }
  if !headerCrcOk r.hdr then (s.bump (SKD_HCRC p)).disc p f.typ dHCRC f.src
  else if !headerOk r.hdr then (s.bump (SKD_BADHDR p)).disc p f.typ dBADHDR f.src
  else
    let e := rxEnd r len (crc32c (r.hdr ++ f.pay))
    let o := s.route p f
    let s := s.countEnd p f e
    let s := match o.fwd with
      | some q =>
        let s := if s.head && s.role q = rRINGEND then
            s.skdSet fun k => { k with ringFed := (q, s.now) :: k.ringFed.filter (fun r => r.1 ≠ q) }
          else s
        s.queueItem q ⟨f, some p, e.fin, at0, none, false⟩
      | none => s
    let s := if o.lost then (s.bump (SKD_MISROUTE p)).disc p f.typ dMISROUTE f.src else s
    if !s.head && f.isSync then
      -- a tile forwards it and takes its sample in TIM_SYNC_RX
      let s := if e = .ok then (s.checkAlive p f).noteReply p f else s
      s.setPort p { s.port p with rx := (s.port p).rx ++ [⟨f, at0, e.fin, false⟩] }
    else if o.take && e = .ok then s.consume p f at0 o.fwd.isNone
    else if o.fwd.isSome then s
    else s.freeUnits (some p) f

/-- FRAME_HEADER_RX (R295): frames behind a held PIX wait with it (R308). -/
def State.frameRx (s : State) (p : Nat) (r : RxFrame) : State :=
  let x := s.port p
  if x.held then s.setPort p { x with behind := x.behind ++ [(r, s.tm.wall)] } else s.receive p r s.tm.wall

def execFrameHeaderRx (p : Nat) (r : RxFrame) (s : State) : Host.Outcome State Fault Refusal :=
  settled (if s.running && decide (p < s.portCount) && s.active p && s.bit (SKD_PORT_CFG_EN p) then s.frameRx p r else s)

/-! ### Tile intake (R307-R309) -/

/-- DRAM offset of the receive ring, and of its buffer `b` (R307). -/
def State.ringOff (s : State) : Nat := (s.ownerOff .rxring).getD 0
def State.ringBuf (s : State) (b : Nat) : Nat := s.ringOff + b * 24576

/-- Word 0 of the SLICE entry that names buffer `b`. -/
def State.ringWord (s : State) (b : Nat) : Word := BitVec.ofNat 32 (2 ^ 31 + s.ringBuf b / 64)

/-- Buffer `b` is named by a SLICE entry that has not been pulled (R308). -/
def State.unpulled (s : State) (b : Nat) : Bool :=
  (List.range 16).any fun c => (s.flume (16 * c)).vis.any (fun e => e.w0 = s.ringWord b)

/-- The intake can take a PIX of slice `c`: the next buffer and a place in the flume are free (R308). -/
def State.intakeFree (s : State) (c : Nat) : Bool := !s.unpulled s.skd.next && !s.flumeFull (16 * c)

/-- A SLICE entry (R222). -/
def sliceEntry (src head slice len64 seq : Nat) : FEntry :=
  .mk4 (BitVec.ofNat 32 (2 ^ 31 + src)) (BitVec.ofNat 32 (head % 2 ^ 16 + 2 ^ 16 * slice + 2 ^ 20 * len64))
    (BitVec.ofNat 32 seq) (BitVec.ofNat 32 (4 * 2 ^ 28)) 0x3FF 0

/-- The PIX at the front of port `p` is written to the ring and its SLICE entry pushed (R307, R309). -/
def State.takePix (s : State) (p : Nat) (f : Frame) : State :=
  let c := f.fld 12 1 % 16
  let seq := f.w10
  let off := s.ringBuf s.skd.next
  let s := s.dramWrite off f.pay
  let s := s.pushVis (16 * c) (sliceEntry (off / 64) f.src c ((f.pay.length + 63) / 64) seq)
  let s := if s.skd.slices.contains (seq, c) then s.bump (SKD_DUPSLICE p) else s
  s.skdSet fun k => { k with next := (k.next + 1) % max 1 k.nbuf
                             slices := ((seq, c) :: k.slices.filter (fun q => q ≠ (seq, c))).take 4096 }

/-- The CMT at the front of port `p` is pushed to flume k = 11 of context 0 (R309). -/
def State.takeCmt (s : State) (f : Frame) : State :=
  (s.pushVis 11 (.mk4 (BitVec.ofNat 32 f.w10) (BitVec.ofNat 32 f.src) 0 (BitVec.ofNat 32 (6 * 2 ^ 28)) 0x3FF 0)).fwService 11

/-- The intake takes frame `f` now. -/
def State.intakeOk (s : State) (f : Frame) : Bool :=
  if f.typ = fPIX then s.intakeFree (f.fld 12 1 % 16) else !s.flumeFull 11

/-- The front frame of port `p`, a PIX or CMT, enters the intake, or the port holds it (R308). -/
def State.intake (s : State) (p : Nat) : State :=
  let x := s.port p
  match x.rx with
  | [] => s
  | i :: l =>
    if s.intakeOk i.f then
      let s := s.setPort p { x with rx := l, held := false }
      let s := if i.owed then s.freeUnits (some p) i.f else s
      if i.f.typ = fPIX then s.takePix p i.f else s.takeCmt i.f
    else if x.held then s
    else (s.setPort p { x with held := true }).bump (SKD_HOLD p)

/-- The type of the front frame of port `p`. -/
def State.frontType (s : State) (p : Nat) : Nat := match (s.port p).rx with | i :: _ => i.f.typ | [] => 0

/-- PIX_RX (R296, R307-R309). -/
def execPixRx (p : Nat) (s : State) : Host.Outcome State Fault Refusal :=
  settled (if s.ready && !s.head && decide (p < 4) && s.frontType p = fPIX && !(s.port p).held then s.intake p else s)

/-- CMT_RX (R309). -/
def execCmtRx (p : Nat) (s : State) : Host.Outcome State Fault Refusal :=
  settled (if s.ready && !s.head && decide (p < 4) && s.frontType p = fCMT && !(s.port p).held then s.intake p else s)

/-- Frames that waited behind a held one are received in their order (R308). -/
def State.releaseBehind (s : State) (p : Nat) : State :=
  let l := (s.port p).behind
  l.foldl (fun s q => s.receive p q.1 q.2) (s.setPort p { s.port p with behind := [] })

/-- PIX_HOLD_RELEASE (R308): a buffer and a place have become free. -/
def execPixHoldRelease (p : Nat) (s : State) : Host.Outcome State Fault Refusal :=
  settled (if s.ready && !s.head && decide (p < 4) && (s.port p).held && (match (s.port p).rx with | i :: _ => s.intakeOk i.f | [] => false)
    then (s.intake p).releaseBehind p else s)

end Sys2Proof.Machine
end

