-- ==== Sys2Proof/Machine/Out.lean ====
section
/-! DEFINITION. The consumers of output flumes (R214, R219, R224, R342, R545): chain ports, the head's own
correction, the scan-store writer, the digest unit (R407, R410) and the writer of the monitor stores (R108; log
entry 31). Consumers are numbered 0-15 chain ports, 16 own correction, 17 scan-store writer, 18 digest unit, 19
monitor writer. -/

namespace Sys2Proof.Machine

abbrev uOWN : Nat := 16
abbrev uSCAN : Nat := 17
abbrev uDIGEST : Nat := 18
abbrev uMONITOR : Nat := 19

/-! ### OUT entries (R222, R224) -/

def FEntry.oLen (x : FEntry) : Nat := x.bits 1 20 12 * 64
def FEntry.oSlice (x : FEntry) : Nat := x.bits 1 16 4
def FEntry.oDest (x : FEntry) : Nat := x.bits 1 0 16
def FEntry.oSeq (x : FEntry) : Nat := x.bits 2 0 16
def FEntry.oDram (x : FEntry) : Bool := x.bits 0 31 1 = 1

/-- A lawful OUT entry (R221, R222). -/
def FEntry.outOk (x : FEntry) : Bool :=
  x.bits 3 28 4 = 3 && x.bits 3 7 21 = 0 && x.bits 2 16 16 = 0 && x.bits 1 20 12 ≠ 0 &&
  (x.oDram || x.bits 0 22 9 = 0)

/-- The source lies in DRAM, or in one ungated local store (R153, R224). -/
def State.outSrcOk (s : State) (x : FEntry) : Bool :=
  if x.oDram then s.dramUp && decide (x.bits 0 0 31 * 64 + x.oLen ≤ s.dramBytes)
  else
    let a := x.bits 0 0 22
    decide (a / 2 ^ 21 % 2 = 1 ∨ a / 2 ^ 18 % 8 = 0) && decide ((lsTarget x.eng a).2 + x.oLen ≤ 2 ^ 18) &&
    !s.bit (ENG_STAT_GATED (lsTarget x.eng a).1)

/-- The bytes of an OUT entry as they leave its source. -/
def State.outData (s : State) (x : FEntry) : List Byte × State :=
  if x.oDram then s.dramRead (x.bits 0 0 31 * 64) x.oLen
  else (s.bytes (lsAddr x.eng (x.bits 0 0 22)) x.oLen, s)

/-! ### Which consumer serves a context (R214, R219, R279, R407) -/

/-- The consumer of the output flume of context `c`: none while no path set leads to its tile. -/
def State.outUnit (s : State) (c : Nat) : Option Nat :=
  if !s.head then some uSCAN
  else match s.ctxUser c with
    | none => if s.corrCtx c then some uSCAN else none
    | some t =>
      if t = 0 then some uOWN
      else if t < 1024 then
        if s.digestOnly t then some uDIGEST
        else if s.role (t / 64) = rRINGEND then some (t / 64)
        else some ((s.chainPort (t / 64) (t % 64)).getD (t / 64))
      else if t < 2048 then (s.cmp.guests.find? (fun g => g.g = t - 1024)).map Guest.port
      else if t = 2048 then some uMONITOR
      else some uDIGEST

def State.outServes (s : State) (u f : Nat) : Bool :=
  f % 16 = 9 && s.get (CTX_STATE (f / 16)) ≠ cFREE && s.outUnit (f / 16) = some u

/-! ### What each consumer does -/

/-- The slot record kept for sequence `q`. -/
def State.runOf (s : State) (q : Nat) : Option SlotRun := s.cmp.slots.find? (fun r => r.j % 65536 = q)

/-- Slot number of sequence `q`. -/
def State.slotOf (s : State) (q : Nat) : Nat :=
  match s.runOf q with | some r => r.j | none => nearSlot (slotAt s.grid s.tm.wall) q

/-- The PIX frame of an OUT entry (R291). -/
def State.pixFrame (s : State) (x : FEntry) (data : List Byte) : Frame :=
  let idx := s.slotOf x.oSeq % max 1 (s.get TMU_SLOTS_SLOTS)
  let late := match s.runOf x.oSeq with | some r => r.late | none => false
  mkFrame fPIX x.oDest s.srcAddr false false
    (natLE 2 x.oSeq ++ [BitVec.ofNat 8 (x.oSlice + 16 * (idx % 8) + if late then 128 else 0), 0#8]) data

/-- The digest of a slice kept for its slot (R410). -/
def State.keepDigest (s : State) (x : FEntry) (data : List Byte) : State :=
  s.cmpSet fun k => { k with slots := k.slots.map fun r =>
    if r.j % 65536 = x.oSeq then { r with digs := r.digs ++ [(x.oDest, x.oSlice, crc32c data)] } else r }

/-- The digest unit: a shadow slice, or the recompute of a vote (R410, R421). -/
def State.digestOut (s : State) (c : Nat) (x : FEntry) (data : List Byte) : State :=
  if s.ctxUser c = some 2049 then
    s.rdnSet fun r => { r with vote := r.vote.map fun v => { v with dig := some (crc32c data) } }
  else s.keepDigest x data

/-- The own correction has room for a slice: the next buffer of the receive ring and its intake flume (R308; log
entry 41). -/
def State.ownFree (s : State) (x : FEntry) : Bool := s.intakeFree x.oSlice

/-- The slice enters the correction of the head's own tile (R17, R214; log entry 41). -/
def State.ownSlice (s : State) (x : FEntry) (data : List Byte) : State :=
  let off := s.ringBuf s.skd.next
  let s := s.dramWrite off data
  let s := s.pushVis (16 * x.oSlice) (sliceEntry (off / 64) s.addr x.oSlice (x.oLen / 64) x.oSeq)
  s.skdSet fun k => { k with next := (k.next + 1) % max 1 k.nbuf }

/-- Scan-store offset `o` may be written: inside the slot buffers, outside the buffer being shown (R342, R343). -/
def State.scanOk (s : State) (o : Nat) : Bool :=
  decide (o < 0x300000) && !(s.bit LDU_SHOW_VALID && o / 0x60000 = s.get LDU_SHOW_BUF)

/-- Lines written to the scan store until one is refused (R342): the ACK status, and the state. -/
def State.scanLines (s : State) (o : Nat) (data : List Byte) : Nat → Nat × State
  | 0 => (0, s)
  | n + 1 =>
    if !s.scanOk o then (2, s.bump LDU_CNT_SSREF)
    else (s.putBytes (scanBase + o) (data.take 64)).scanLines (o + 64) (data.drop 64) n

/-- Rows of a monitor band (R258). -/
def monBand (height : Nat) : Nat := (height + 15) / 16

/-- Bytes of one monitor line: whole pgroups of 10-bit YCbCr 4:2:2 or RGB 4:4:4 (R98, R107). -/
def State.monLine (s : State) : Nat :=
  let g := pgroup (s.get ETH_MON_CFG_SAMP) 1
  s.get ETH_MON_SIZE_W / g.2 * g.1

/-- Bytes appended to the place of band `slice` of the store being composed (log entry 31). -/
def State.monWrite (s : State) (x : FEntry) (data : List Byte) : State :=
  match s.eth.mon.job with
  | none => s
  | some (_, _, k, _) =>
    let n := match s.eth.mon.wrote.find? (fun w => w.1 = x.oSlice) with | some w => w.2 | none => 0
    let a := (s.ownerOff (.monitor k)).getD 0 + x.oSlice * monBand (s.get ETH_MON_SIZE_H) * s.monLine + n
    let s := s.dramWrite a data
    s.ethSet fun e => { e with mon := { e.mon with
      wrote := (x.oSlice, n + data.length) :: e.mon.wrote.filter (fun w => w.1 ≠ x.oSlice) } }

/-- The monitor's job is complete when every sequence is released and no OUT entry of the monitor waits or is in
progress (R108, R110; log entry 31). -/
def State.monSettle (s : State) : State :=
  match s.eth.mon.job with
  | none => s
  | some (_, b, k, l) =>
    let cs := (s.cmp.own.filter (fun x => x.2 = 2048)).map Prod.fst
    if l.all s.jobDone && cs.all (fun c => (s.flume (16 * c + 9)).vis.isEmpty) &&
        !s.eng.flight.any (fun i => i.f % 16 = 9 && cs.contains (i.f / 16)) then
      s.ethSet fun e => { e with mon := { e.mon with job := none, done := ((b, k) :: e.mon.done).take 2, wrote := [] } }
    else s

/-! ### OUT_TAKE -/

/-- The entry joins those in progress, with its data moved and its ACK status. -/
def State.outFlight (s : State) (u f : Nat) (x : FEntry) (done status : Nat) : State := s.addFlight ⟨8 + u, f, x, done, status⟩

/-- The largest payload of a PIX frame (R290). -/
abbrev pixMax : Nat := 24576

/-- Consumer `u` takes entry `x` of flume `f`; `unc`: some read of its source was uncorrectable (R141, R221, R224). A
length that no PIX frame holds lies outside the range of an entry in head role (log entry 42). -/
def State.takeOut (s : State) (u f : Nat) (x : FEntry) (unc : Bool) : State :=
  let s := match s.takeVis f with | some (_, s) => s | none => s
  if !x.outOk || (decide (u ≤ uOWN) && decide (pixMax < x.oLen)) then s.badEntry f
  else if !s.outSrcOk x then s.outFlight u f x 1 2
  else if u < 16 && !s.takesFrames u then s.outFlight u f x 1 4
  else
    let bad := unc && x.oDram
    let s := if bad then s.uncorrectable (x.bits 0 0 31 * 64) else s
    let st := if bad then 3 else 0
    let (data, s) := s.outData x
    if u < 16 then
      let s := s.outFlight u f x 0 st
      let s := match s.ctxUser (f / 16) with
        | some t => if t < 1024 && s.protectedTile t then s.keepDigest x data else s
        | none => s
      s.queueItem u ⟨s.pixFrame x data, none, 0, s.tm.wall, some x.ord, false⟩
    else if u = uOWN then (s.ownSlice x data).outFlight u f x 1 st
    else if u = uSCAN then
      let (st2, s) := s.scanLines (x.oDest * 64) data (x.oLen / 64)
      s.outFlight u f x 1 (if st2 = 0 then st else st2)
    else if u = uDIGEST then (s.digestOut (f / 16) x data).outFlight u f x 1 st
    else (s.monWrite x data).outFlight u f x 1 st

/-- OUT_TAKE of consumer `u` (R219, R224). -/
def State.outTake (s : State) (u : Nat) (unc : Bool) : State :=
  match s.nextEntry (s.outServes u) with
  | none => s
  | some (f, x) => if u = uOWN && x.outOk && !s.ownFree x then s else s.takeOut u f x unc

def execOutTake (u : Nat) (unc : Bool) (s : State) : Host.Outcome State Fault Refusal :=
  settled (if s.ready && decide (u ≤ uMONITOR) then s.outTake u unc else s)

/-! ### OUT_COMPLETE -/

/-- The oldest entry of consumer `u` in progress, if its data have left (R219). -/
def State.outDone (s : State) (u : Nat) : Option InFlight :=
  match s.eng.flight.find? (fun i => i.unit = 8 + u) with
  | some i => if i.done = 1 then some i else none
  | none => none

/-- The first entry in progress equal to `i` removed. -/
def dropFlight (i : InFlight) : List InFlight → List InFlight
  | [] => []
  | j :: l => if j = i then l else j :: dropFlight i l

/-- An OUT entry completes, with its flag and ACK (R213, R224). -/
def State.outComplete (s : State) (i : InFlight) : State :=
  (({ s with eng := { s.eng with flight := dropFlight i s.eng.flight } } : State).completeEntry i).monSettle

/-- OUT_COMPLETE of consumer `u` (R224). -/
def execOutComplete (u : Nat) (s : State) : Host.Outcome State Fault Refusal :=
  settled (if s.ready && decide (u ≤ uMONITOR) then match s.outDone u with | some i => s.outComplete i | none => s else s)

end Sys2Proof.Machine
end

