-- ==== Sys2Proof/Machine/Peer.lean ====
section
/-! DEFINITION. The commit of a slot (R271-R274), wall decisions among heads, and tiles composed by peer heads
(R276-R281). -/

namespace Sys2Proof.Machine

/-! ### Conditions of a commit (R271) -/

/-- The PIX frames of a user count for the section: its own tiles, and shadow tiles while it feeds (R271, R407). -/
def State.ofSection (s : State) (c : Nat) : Bool :=
  match s.ctxUser c with | some t => decide (t < 1024) && !s.digestOnly t | none => false

/-- No PIX of sequence `q` for the section waits in an output flume or on a port (R271). -/
def State.pixGone (s : State) (q : Nat) : Bool :=
  s.eng.flumes.all (fun f => !(f.1 % 16 = 9 && s.ofSection (f.1 / 16) && (f.2.vis ++ f.2.held).any (fun x => x.oSeq = q))) &&
  s.eng.flight.all (fun i => !(i.f % 16 = 9 && s.ofSection (i.f / 16) && i.e.oSeq = q && i.done = 0))

/-- The first two conditions of R271 for slot `r`: every JOB released, every PIX gone, 16 slices forwarded for each
tile composed by a peer (R278). -/
def State.runReady (s : State) (r : SlotRun) : Bool :=
  r.done.isSome && !r.bad && s.pixGone (r.j % 65536) && r.moved.all (fun m => 16 ≤ m.2)

/-- The decision held for slot `j` (R272). -/
def State.decision (s : State) (j : Nat) : Option Bool :=
  (s.cmp.decs.find? (fun d => d.1 = j % 65536)).map Prod.snd

/-! ### CMT and DIG (R271, R325, R410) -/

/-- Ports by which a broadcast reaches every tile of chain `c` once (R323). -/
def State.bcastPorts (s : State) (c : Nat) : List Nat :=
  let partner := match s.partnerPort with | some p => [p] | none => []
  match s.get (SKD_CH_STAT_PATH c) with
  | 0 => [c]
  | 1 => [c + 8]
  | 2 => c :: partner
  | _ => (c + 8) :: partner

/-- The chain ports of the section: role CHAIN, not a twin, with enumerated tiles (log entry 43). -/
def State.sectionPorts (s : State) : List Nat :=
  (List.range 16).filter (fun p => s.role p = rCHAIN && !s.isTwin p && s.positions p ≠ [])

/-- A CMT (R291). -/
def State.cmtFrame (s : State) (chain j : Nat) (wall : Bool) : Frame :=
  mkFrame fCMT (chain * 64) s.srcAddr true false
    (natLE 2 (j % 65536) ++ [BitVec.ofNat 8 (j % max 1 (s.get TMU_SLOTS_SLOTS) % 8 + if wall then 8 else 0)]) []

/-- Chains to which slot `r` is committed, with the ports of each: this head's own, but a protected ring only when the
slot fed it, and the RINGEND ports that the slot fed. -/
def State.cmtPorts (s : State) (r : SlotRun) : List (Nat × List Nat) :=
  ((s.sectionPorts.filter (fun c => !s.ownRing c || r.fed.contains c)).map
    (fun c => (s.headNum * 16 + c, s.bcastPorts c))) ++
  ((r.fed.filter (fun p => s.role p = rRINGEND)).map (fun p => (s.get (SKD_RING_FAR p), [p])))

/-- The DIG of slot `r` for ring port `p` (R292, R410): the record entry, then the ring's slices. -/
def State.sendDig (s : State) (r : SlotRun) (p : Nat) : State :=
  let chain := if s.role p = rRINGEND then s.get (SKD_RING_FAR p) else s.headNum * 16 + p
  let rec_ := match r.recd.find? (fun x => x.1 = p) with | some x => x.2 | none => 0
  let l := (s.headNum * 1024, 0, rec_) :: r.digs.filter (fun d => d.1 / 64 = chain)
  let pay := l.flatMap (fun d => natLE 2 d.1 ++ natLE 1 d.2.1 ++ zeros 1 ++ natLE 4 d.2.2)
  let f := mkFrame fDIG (headAddr (s.get RDN_CFG_PARTNER)) s.srcAddr false false (natLE 2 (r.j % 65536) ++ natLE 2 l.length) pay
  let q := if s.active (s.get RDN_CFG_PPORT) then s.get RDN_CFG_PPORT else p
  s.send q f

/-- The DIGs of slot `r` on the rings it feeds, once every PIX has left (R325, R410). -/
def State.sendDigs (s : State) (r : SlotRun) : State :=
  if s.rdnState = rdOFF || !s.pixGone (r.j % 65536) || r.done.isNone then s
  else
    let ps := r.fed.filter (fun p => !r.digOut.contains p)
    (ps.foldl (fun s p => s.sendDig r p) s).setRun { r with digOut := r.digOut ++ ps }

/-- The CMT of slot `r` is sent, and the own tile is committed (R17, R271). -/
def State.sendCommit (s : State) (r : SlotRun) (wall : Bool) : State :=
  let s := s.sendDigs r
  let r := (s.runOf (r.j % 65536)).getD r
  let s := (s.cmtPorts r).foldl (fun s c => c.2.foldl (fun s p => s.send p (s.cmtFrame c.1 r.j wall)) s) s
  let s := if s.lampSide then s.fwCommit (r.j % 65536) else s
  let s := (s.set CMP_PACE_STAT_CMTSEQ (r.j % 65536)).setRun { r with commit := 1 }
  (s.cmpSet fun k => { k with moved := k.moved.map (fun m => if r.moved.any (fun x => x.1 = m.tile) then { m with miss := 0 } else m) }).prune

/-- The slots whose commit is open, oldest first. -/
def State.openRuns (s : State) : List SlotRun := (s.cmp.slots.filter (fun r => r.commit = 0)).reverse

/-- Wall commit is on. -/
def State.wallCmt (s : State) : Bool := s.bit CMP_PACE_WALLCMT

/-- SECTION_COMMIT (R271): the oldest open slot for which every condition holds. -/
def State.sectionCommit (s : State) : State :=
  match s.openRuns.find? (fun r => s.runReady r && decide (s.tm.wall ≤ s.deadline r.j) &&
      (!s.wallCmt || s.decision r.j = some true)) with
  | some r => s.sendCommit r s.wallCmt
  | none => s

def execSectionCommit (s : State) : Host.Outcome State Fault Refusal :=
  settled (if s.head && s.ready then s.sectionCommit else s)

/-- The CMT of slot `r` is never sent (R271); tiles whose forwarded slices are missing are noted (R280). -/
def State.withhold (s : State) (r : SlotRun) : State :=
  let s := s.sendDigs r
  let r := (s.runOf (r.j % 65536)).getD r
  let s := (s.bump CMP_PACE_CMTWH).setRun { r with commit := 2 }
  (s.cmpSet fun k => { k with moved := k.moved.map (fun m => match r.moved.find? (fun x => x.1 = m.tile) with
    | some x => { m with miss := if x.2 < 16 then m.miss + 1 else 0 }
    | none => m) }).prune

/-- COMMIT_DEADLINE (R271, R274): D(q) of the oldest open slot. Without a wall decision by then, a slot that meets the
other conditions is committed by this head alone. -/
def State.commitDeadline (s : State) : State :=
  match s.openRuns with
  | [] => s
  | r :: _ =>
    let d := s.deadline r.j
    if s.tm.wall < d then s
    else if s.wallCmt && (s.decision r.j).isNone && s.runReady r && decide (s.tm.wall < d + 2 * wNs) then
      ((s.set CMP_PACE_STAT_WALLOUT 1).bump CMP_PACE_WALLMISS).sendCommit r false
    else if d < s.tm.wall then s.withhold r
    else s

def execCommitDeadline (s : State) : Host.Outcome State Fault Refusal :=
  settled (if s.head && s.ready then s.commitDeadline else s)

/-! ### Wall decisions (R272-R274) -/

/-- The first slot whose R(q) lies less than one slot before wall time `w` or after it. -/
def State.readySlot (s : State) (w : Nat) : Nat := slotAt s.grid (w + s.get CMP_PACE_MARGIN * 1000 * wNs) + 1

/-- The slot after `last`, or the present one where `last` is out of step with it. -/
def nextInStep (last : Option Nat) (now : Nat) : Nat :=
  match last with | some t => if t + 1 < now ∨ now + 16 < t then now else t + 1 | none => now

/-- READY or NOTREADY of head `h` for sequence `q` is recorded (R273). -/
def State.noteReady (s : State) (q h : Nat) (ok : Bool) : State :=
  s.cmpSet fun k => { k with ready := (q, h, ok) :: k.ready.filter (fun x => !(x.1 = q && x.2.1 = h)) }

/-- This head tells the reference head about slot `j` (R272). -/
def State.tellReady (s : State) (j : Nat) (ok : Bool) : State :=
  let q := j % 65536
  let ref := s.get TMU_PEER_REFHEAD
  let s := s.cmpSet fun k => { k with told := some j }
  if ref = s.headNum then s.noteReady q s.headNum ok
  else s.sendSvc vWALLRDY (headAddr ref) (natLE 2 q ++ natLE 1 (if ok then 1 else 0) ++ zeros 1 ++ natLE 2 s.srcAddr ++ zeros 2)

/-- WALLRDY_SEND (R272): READY as soon as the slot is ready, by R(q); NOTREADY at R(q). -/
def State.wallReady (s : State) : State :=
  let j := nextInStep s.cmp.told (s.readySlot s.tm.wall)
  let ok := match s.cmp.slots.find? (fun r => r.j = j) with | some r => s.runReady r | none => false
  if ok && decide (s.tm.wall ≤ s.readyDue j) then s.tellReady j true
  else if s.readyDue j ≤ s.tm.wall then s.tellReady j false
  else s

def execWallrdySend (s : State) : Host.Outcome State Fault Refusal :=
  settled (if s.head && s.ready && s.gridRuns && s.wallCmt then s.wallReady else s)

/-- A decision for sequence `q` reaches this head (R272, R274). -/
def State.takeDecision (s : State) (q : Nat) (commit : Bool) : State :=
  if s.cmp.decs.any (fun d => d.1 = q) then s
  else
    let s := (s.set CMP_PACE_STAT_WALLOUT 0).cmpSet fun k => { k with decs := ((q, commit) :: k.decs).take 16 }
    if commit then s else s.bump CMP_PACE_WALLHOLD

/-- Head `h` was heard for one of the three sequences up to `q` (R273). -/
def State.heardWithin (s : State) (q h : Nat) : Bool :=
  s.cmp.ready.any (fun x => x.2.1 = h && decide ((q + 65536 - x.1) % 65536 < 3))

/-- CMP_WALL_MEMB0 and CMP_WALL_MEMB1 (R273). -/
def State.showMembers (s : State) (q : Nat) : State :=
  let m (lo : Nat) : Nat := ((List.range 32).map (fun i => if s.heardWithin q (lo + i) then 2 ^ i else 0)).sum
  (s.wr (CMP_WALL_MEMB 0) (BitVec.ofNat 32 (m 0))).wr (CMP_WALL_MEMB 1) (BitVec.ofNat 32 (m 32))

/-- The reference head decides slot `j` (R272, R273): every member, counted from the slot after it became one, must
have sent READY. -/
def State.wallDecide (s : State) (j : Nat) : State :=
  let q := j % 65536
  let mem := (List.range 64).filter (fun h => s.heardWithin q h && s.heardWithin ((q + 65535) % 65536) h)
  let commit := mem.all (fun h => s.cmp.ready.contains (q, h, true))
  let s := s.showMembers q
  let s := (mem.filter (fun h => h ≠ s.headNum)).foldl (fun s h =>
    s.sendSvc vWALLDEC (headAddr h) (natLE 2 q ++ natLE 1 (if commit then 1 else 0) ++ zeros 1)) s
  let s := if mem.contains s.headNum then s.takeDecision q commit else s
  s.cmpSet fun k => { k with decided := some j
                             ready := k.ready.filter (fun x => decide ((q + 65536 - x.1) % 65536 < 4 ∨ 32768 ≤ (q + 65536 - x.1) % 65536)) }

/-- WALL_DECIDE (R272): at R(q) + 25 us, on the head that TMU_PEER.REFHEAD names. -/
def State.wallDecideNext (s : State) : State :=
  let j := nextInStep s.cmp.decided (s.readySlot (s.tm.wall - 25000 * wNs))
  if s.readyDue j + 25000 * wNs ≤ s.tm.wall then s.wallDecide j else s

def execWallDecide (s : State) : Host.Outcome State Fault Refusal :=
  settled (if s.head && s.ready && s.gridRuns && s.wallCmt && s.get TMU_PEER_REFHEAD = s.headNum then s.wallDecideNext else s)

/-- WALLRDY_RX (R272, R273). -/
def execWallrdyRx (p : Nat) (s : State) : Host.Outcome State Fault Refusal :=
  settled (if s.running && s.head && decide (p < 16) then match s.takeRx p (isSvc vWALLRDY) with
      | some (i, s) => let b := svcPay i.f; s.noteReady (numAt b 0 2) (numAt b 4 2 / 1024) (numAt b 2 1 = 1)
      | none => s
    else s)

/-- WALLDEC_RX (R272, R274). -/
def execWalldecRx (p : Nat) (s : State) : Host.Outcome State Fault Refusal :=
  settled (if s.running && s.head && decide (p < 16) then match s.takeRx p (isSvc vWALLDEC) with
      | some (i, s) => let b := svcPay i.f; s.takeDecision (numAt b 0 2) (numAt b 2 1 = 1)
      | none => s
    else s)

/-! ### Offers at the composing head (R277, R278) -/

/-- Guest entries in use. -/
def State.guestFree (s : State) : Option Nat :=
  (List.range 16).find? (fun g => g ≠ 0 && !s.cmp.guests.any (fun x => x.g = g))

/-- `n` contexts are FREE. -/
def State.ctxsFree (s : State) (n : Nat) : Bool :=
  decide (n ≤ ((List.range s.ctxCount).filter (fun c => s.get (CTX_STATE c) = cFREE)).length)

/-- Why an offer is declined, in the order of R277; `full`: it follows CTX_FULL, `grid`: the slot grids are equal (log
entry 44). -/
def State.declineReason (s : State) (c dig et pace : Nat) (full grid : Bool) : Option Nat :=
  let own := s.glbPace
  let e := if own = 0 ∨ pace = 0 then et * wNs else et * wNs * pace / own
  if !s.bit CMP_PLC_CFG_MOVE && !full then some 1
  else if !s.ctxsFree 16 then some 2
  else if s.guestFree.isNone then some 3
  else if s.get CMP_PLC_CFG_LO * slotPeriod s.grid < (s.estimate + e) * 100 then some 4
  else if (s.rd (CMP_PLC_DIG c)).toNat ≠ dig then some 5
  else if !grid then some 6
  else none

/-- The reply to an offer (R444). -/
def State.offerReply (s : State) (addr sq code g : Nat) : State :=
  s.sendSvc vOFFERREPLY (headAddr (addr / 1024)) (natLE 2 addr ++ natLE 2 sq ++ natLE 1 code ++ natLE 1 g ++ zeros 2)

/-- A guest is taken (R278, R279): its contexts, its order group from slot `j` on, its entry and its threads. False
when its contexts cannot be placed. -/
def State.takeGuest (s : State) (g addr j et dig p : Nat) (words : List Word) : Bool × State :=
  let c := getBits (lget 0 words 0) 1 2
  match s.lightCrew with
  | none => (false, s)
  | some crew =>
    match s.placeUser (1024 + g) addr crew j false with
    | (none, s) => (false, s)
    | (some x, s) =>
      let s := (s.markCtxs (1024 + g) c).cmpSet fun k =>
        { k with guests := k.guests ++ [⟨g, addr, words, j, none, dig, p⟩] }
      let s := ((s.wr (CMP_PLC_GUEST_W1 g) (BitVec.ofNat 32 addr)).wr (CMP_PLC_GUEST_W2 g) (BitVec.ofNat 32 (j % 65536))).wr
        (CMP_PLC_GUEST_W3 g) (BitVec.ofNat 32 et)
      (true, (s.wr (CMP_PLC_GUEST_W0 g) (BitVec.ofNat 32 (1 + x * 2 ^ 16))).crewThreads crew)

/-- An OFFER on port `p` is accepted or declined (R277). -/
def State.offered (s : State) (p : Nat) (b : List Byte) (full grid : Bool) : State :=
  let words := (List.range 4).map (fun k => BitVec.ofNat 32 (numAt b (4 * k) 4))
  let addr := numAt b 16 2
  let sq := numAt b 18 2
  let et := numAt b 24 4
  let dig := numAt b 20 4
  match s.declineReason (getBits (lget 0 words 0) 1 2) dig et (numAt b 28 2) full grid, s.guestFree with
  | none, some g =>
    let (ok, s) := s.takeGuest g addr (nearSlot s.nextPost sq) et dig p words
    if ok then s.offerReply addr sq 0 g else s.offerReply addr sq 2 0
  | some r, _ => s.offerReply addr sq r 0
  | none, none => s.offerReply addr sq 3 0

/-- OFFER_RX (R277). -/
def execOfferRx (p : Nat) (full grid : Bool) (s : State) : Host.Outcome State Fault Refusal :=
  settled (if s.head && s.ready && decide (p < 16) then match s.takeRx p (isSvc vOFFER) with
      | some (i, s) => s.offered p (svcPay i.f) full grid
      | none => s
    else s)

/-! ### Replies at the owner (R276, R278, R282) -/

/-- The offer in progress was declined with `reason`; the next peer is asked (R276, R277). -/
def State.offerDeclined (s : State) (o : Offer) (reason : Nat) : State :=
  let s := (s.setAll [(CMP_PLC_TILE_W3_DECL o.tile, reason), (CMP_PLC_RES_DECL, reason)]).bump CMP_PLC_CNT_DECL
  let s := s.cmpSet fun k => { k with offer := none }
  match s.peerFrom (o.peer + 1) with
  | some i => s.sendOffer o.tile i s.lastPosted
  | none => s.cmpSet fun k => { k with declined := k.declined ++ [(o.tile, o.peer)] }

/-- The offer in progress was accepted (R278). -/
def State.offerAccepted (s : State) (o : Offer) : State :=
  let s := s.cmpSet fun k => { k with offer := none, moved := k.moved ++ [⟨o.tile, o.s, none, 0, 0, o.et, false⟩] }
  ((s.set (CMP_PLC_TILE_W0_HOSTHEAD o.tile) (s.get (CMP_PLC_PEER_HEAD o.peer))).setTile o.tile tMOVED).bump CMP_PLC_CNT_MOVES

/-- A reply to the offer in progress; any other reply has come too late. -/
def State.replied (s : State) (b : List Byte) : State :=
  match s.cmp.offer with
  | some o =>
    if s.tileAddr o.tile = numAt b 0 2 ∧ o.s % 65536 = numAt b 2 2 then
      if numAt b 4 1 = 0 then s.offerAccepted o else s.offerDeclined o (numAt b 4 1 % 16)
    else s
  | none => s

/-- OFFERREPLY_RX (R278). -/
def execOfferreplyRx (p : Nat) (s : State) : Host.Outcome State Fault Refusal :=
  settled (if s.head && s.ready && decide (p < 16) then match s.takeRx p (isSvc vOFFERREPLY) with
      | some (i, s) => s.replied (svcPay i.f)
      | none => s
    else s)

/-- OFFER_TIMEOUT (R276): no reply by the pacing tick of slot s - 1. -/
def execOfferTimeout (s : State) : Host.Outcome State Fault Refusal :=
  settled <| match s.cmp.offer with
    | some o => if s.head && s.ready && decide (s.paceTick (o.s - 1) ≤ s.tm.wall) then s.offerDeclined o 7 else s
    | none => s

/-- A MOVEEND from the other side (R280): the owner takes its tile back, or the composing head ends its guest. -/
def State.moveEnded (s : State) (b : List Byte) : State :=
  let addr := numAt b 0 2
  let j := nearSlot s.nextPost (numAt b 2 2)
  let cause := numAt b 4 1
  if addr / 1024 = s.headNum then s.reclaim (addr % 1024) j cause false
  else match s.cmp.guests.find? (fun g => g.owner = addr) with
    | some g => s.returnGuest g.g j cause false
    | none => s

/-- MOVEEND_RX (R280). -/
def execMoveendRx (p : Nat) (s : State) : Host.Outcome State Fault Refusal :=
  settled (if s.head && s.ready && decide (p < 16) then match s.takeRx p (isSvc vMOVEEND) with
      | some (i, s) => s.moveEnded (svcPay i.f)
      | none => s
    else s)

end Sys2Proof.Machine
end

