-- ==== Sys2Proof/Machine/Hbt.lean ====
section
/-! DEFINITION. The exchanges of a redundant pair: heartbeats (R409, R416), digests and votes (R410-R413, R421),
swaps (R419, R423, R424) and epochs (R425, R426). -/

namespace Sys2Proof.Machine

/-! ### Paths to the partner (R325, R409, R422) -/

/-- The partner's unit address. -/
def State.partnerAddr (s : State) : Nat := headAddr (s.get RDN_CFG_PARTNER)

/-- Chain ports of this head whose chains are rings. -/
def State.ownRings (s : State) : List Nat := (List.range 16).filter s.ownRing

/-- The port of a message to the partner: the partner link, or along a ring while the link is down (R422). -/
def State.partnerVia (s : State) : Nat :=
  let q := s.get RDN_CFG_PPORT
  if s.active q then q else ((s.ringEnds ++ s.ownRings).find? s.active).getD q

/-- A service message to the partner. -/
def State.tellPartner (s : State) (svc : Nat) (pl : List Byte) : State :=
  let (f, s) := s.svcFrame svc s.partnerAddr false pl
  s.send s.partnerVia f

/-! ### Messages of R444 -/

def State.sendEpreq (s : State) : State :=
  (s.tellPartner vEPREQ (natLE 2 (s.get RDN_EPOCH_NUM) ++ natLE 1 1 ++ zeros 1)).rdnSet fun r => { r with asked := some s.frameNow }

def State.sendVotereq (s : State) (v : Vote) : State :=
  (s.tellPartner vVOTEREQ (natLE 2 v.tile ++ natLE 1 v.slice ++ zeros 1 ++ natLE 2 v.seq ++ zeros 2)).rdnSet fun r =>
    { r with vote := some { v with asked := v.asked + 1 } }

def State.sendVerdict (s : State) (v : Vote) (ok : Bool) : State :=
  (s.tellPartner vVERDICT (natLE 2 v.tile ++ natLE 1 v.slice ++ zeros 1 ++ natLE 2 v.seq ++ natLE 1 (if ok then 1 else 2) ++
    zeros 1)).rdnSet fun r => { r with vote := some { v with told := v.told + 1 } }

/-- A SWAP message of kind 1 REQUEST, 2 AGREE or 3 CANCEL. -/
def State.sendSwap (s : State) (slot kind cause dur : Nat) : State :=
  s.tellPartner vSWAP (natLE 2 (slot % 65536) ++ natLE 1 kind ++ natLE 1 cause ++ natLE 2 dur ++ zeros 2)

/-! ### Votes (R421) -/

/-- Entry of the tile at unit address `a`: of this head's own map, or of the shadow of a ring. -/
def State.entryOf (s : State) (a : Nat) : Option Nat :=
  if a / 1024 = s.headNum then some (a % 1024)
  else (s.ringEnds.find? (fun p => s.get (SKD_RING_FAR p) = a / 64)).map (fun p => 64 * p + a % 64)

/-- A crew other than `c` that has an engine, the one of lowest load. -/
def State.otherCrew (s : State) (c : Nat) : Option Nat :=
  ((List.range 8).filter (fun k => k ≠ c && s.crewEngines k ≠ [])).foldl (fun b k => match b with
    | none => some k
    | some d => if lget 0 s.cmp.loads k < lget 0 s.cmp.loads d then some k else some d) none

/-- One recompute thread, bound to a spare context with the slice's tile and index on another crew, gets the JOB of
the slice (R421). Where none can be placed the vote runs into its time limit. -/
def State.recompute (s : State) (v : Vote) : State :=
  match s.entryOf v.tile with
  | none => s
  | some t =>
    let canvas := s.tileCanvas true t
    let pi := s.canvas true canvas 0 8 8
    match s.prog pi, s.otherCrew (s.get (CMP_PLC_TILE_W0_CREW t)), s.freeGroup, s.runOf v.seq with
    | some g, some c, some grp, some run =>
      match s.ctxAlloc v.tile v.slice c 0 0 with
      | ((none, _), s) => s
      | ((some x, _), s) =>
        let seq := (seqOf run.j + v.slice) % 65536
        let s := (s.cmpSet fun k => { k with own := minsert x 2049 (merase x k.own) }).groupOpen grp seq 1
        let s := s.setAll [(CTX_GROUP x, grp), (CTX_PROG x, pi), (CTX_CANVAS x, canvas)]
        let tile := s.headNum * 1024 + t
        let (_, s) := s.postJob run.j ⟨x, grp, seq⟩
          (jobEntry run.j v.slice (run.j % max 1 (s.get TMU_SLOTS_SLOTS)) false false canvas grp seq tile pi)
        match s.spawn (g.base + g.entry) g.prio (2 ^ c) x 1 0 (BitVec.ofNat 32 g.base) true with
        | ((some n, _), s) => s.rdnSet fun r => { r with vote := some { v with thr := some n } }
        | ((none, _), s) => s
    | _, _, _, _ => s

/-- A vote on a slice starts on this head (R421). -/
def State.voteStart (s : State) (tile slice seq : Nat) : State :=
  let v : Vote := ⟨tile, slice, seq, none, none, s.frameNow, 0, 0, none, none⟩
  let s := s.setAll [(RDN_VOTE_TILE, tile), (RDN_VOTE_SLICE, slice), (RDN_VOTE_RESULT, 1), (RDN_VOTESEQ_SLOT, seq)]
  ((s.bump RDN_VOTES).rdnSet fun r => { r with vote := some v }).recompute v

/-- A swap is requested by this head (R419): its slot, and the state before it. -/
def State.swapRequest (s : State) (taking : Bool) (cause dur : Nat) : State :=
  let w := s.swapSlot s.tm.wall
  let s := s.setSwap (some ⟨w, taking, cause, dur, s.rdnState, false⟩)
  let s := if taking then s else s.rdnEnter rdSWAP
  s.sendSwap w 1 cause dur

/-- Both verdicts are known (R421): the outcome for this head, as the feeding one or as the partner. -/
def State.judge (s : State) : State :=
  match s.rdn.vote with
  | none => s
  | some v =>
    match v.mine, v.theirs with
    | some m, some t =>
      let feeds := s.rdn.feeds
      let f := if feeds then m else t
      let p := if feeds then t else m
      let s := s.voteEnd (if f then (if p then 4 else 3) else (if p then 2 else 5))
      if f && p then s.set RDN_STAT_DISAGREE 1
      else if !feeds then (if p then s else if s.rdnState = rdSTANDBY then s.rdnFaulty else s)
      else if s.rdnState ≠ rdACTIVE then s
      else if p then (if s.get RDN_STAT_PSTATE = rdSTANDBY then s.swapRequest false 3 0 else s)
      else s.rdnEnter rdSOLO
    | _, _ => s

/-- VOTEREQ_RX (R421): a vote starts on the feeding head, unless one is pending. -/
def execVotereqRx (p : Nat) (s : State) : Host.Outcome State Fault Refusal :=
  settled (if s.running && s.head && decide (p < 16) then match s.takeRx p (isSvc vVOTEREQ) with
      | some (i, s) =>
        let b := svcPay i.f
        if s.rdn.feeds && s.rdn.vote.isNone && s.rdnState ≠ rdOFF then s.voteStart (numAt b 0 2) (numAt b 2 1 % 16) (numAt b 4 2)
        else s
      | none => s
    else s)

/-- The recompute of the pending vote has reached the digest unit: this head's verdict (R421). -/
def State.recomputed (s : State) : State :=
  match s.rdn.vote with
  | none => s
  | some v =>
    match v.dig, v.mine, s.runOf v.seq with
    | some d, none, some r =>
      match r.digs.find? (fun x => x.1 = v.tile && x.2.1 = v.slice) with
      | none => s
      | some x =>
        let ok := decide (x.2.2 = d)
        let v := { v with mine := some ok }
        let s := if ok then s else s.set RDN_STAT_SELFBAD 1
        (s.sendVerdict v ok).judge
    | _, _, _ => s

/-- RECOMPUTE_DONE (R421). -/
def execRecomputeDone (s : State) : Host.Outcome State Fault Refusal :=
  settled (if s.running && s.head then s.recomputed else s)

/-- VERDICT_RX (R421). -/
def execVerdictRx (p : Nat) (s : State) : Host.Outcome State Fault Refusal :=
  settled (if s.running && s.head && decide (p < 16) then match s.takeRx p (isSvc vVERDICT) with
      | some (i, s) =>
        let b := svcPay i.f
        match s.rdn.vote with
        | some v =>
          if v.tile = numAt b 0 2 ∧ v.slice = numAt b 2 1 % 16 ∧ v.seq = numAt b 4 2 then
            (s.rdnSet fun r => { r with vote := some { v with theirs := some (numAt b 6 1 = 1) } }).judge
          else s
        | none => s
      | none => s
    else s)

/-- VOTE_TIMEOUT (R421): no verdict within 4 base frames. -/
def execVoteTimeout (s : State) : Host.Outcome State Fault Refusal :=
  settled <| match s.rdn.vote with
    | some v => if s.head && s.running && decide (v.start + 4 ≤ s.frameNow) then s.voteEnd 6 else s
    | none => s

/-! ### Comparison (R412) -/

/-- CFGMIS from the pair's settings and the record digests (R405, R412). -/
def State.showCfgmis (s : State) : State :=
  s.set RDN_STAT_CFGMIS (if s.rdn.pairMis || s.rdn.recRun.any (fun x => 8 ≤ x.2) then 1 else 0)

/-- Slices of ring port `p` that this head composes as shadows: tile address and slice. -/
def State.shadowSlices (s : State) (p : Nat) : List (Nat × Nat) :=
  ((List.range 64).filter (fun k => s.wanted (64 * p + k) && s.shadowTile (64 * p + k))).flatMap
    (fun k => (List.range 16).map (fun i => (s.tileAddr (64 * p + k), i)))

/-- The digest of a slice in a list. -/
def digestIn (l : List (Nat × Nat × Nat)) (q : Nat × Nat) : Option Nat :=
  (l.find? (fun x => x.1 = q.1 && x.2.1 = q.2)).map (fun x => x.2.2)

/-- Slices compared one by one; the first mismatch starts a vote unless one is pending (R412, R421). -/
def State.compareSlices (s : State) (r : SlotRun) (l : List (Nat × Nat × Nat)) (qs : List (Nat × Nat)) : State :=
  qs.foldl (fun s q =>
    match digestIn r.digs q, digestIn l q with
    | some a, some b =>
      let s := s.bump RDN_DIGCMP
      if a = b then s
      else
        let s := s.bump RDN_DIGMIS
        if s.rdn.vote.isSome || s.rdnState ≠ rdSTANDBY then s
        else
          let s := s.voteStart q.1 q.2 (r.j % 65536)
          match s.rdn.vote with | some v => s.sendVotereq v | none => s
    | _, _ => s.bump RDN_NOCMP) s

/-- Ring `p` of slot `r` is compared (R412), once: `last` at L(q) + T, before which every slice must be at hand. -/
def State.compareRing (s : State) (r : SlotRun) (p : Nat) (last : Bool) : State :=
  if r.digOut.contains p then s
  else
    let qs := s.shadowSlices p
    let mark (s : State) : State := (s.setRun { r with digOut := r.digOut ++ [p] }).rdnSet fun k =>
      { k with digs := k.digs.filter (fun d => !(d.1 = p && d.2.1 = r.j % 65536)) }
    match s.rdn.digs.find? (fun d => d.1 = p && d.2.1 = r.j % 65536) with
    | none => if last then mark (s.bumpN RDN_NOCMP qs.length) else s
    | some d =>
      let own := (r.recd.find? (fun x => x.1 = p)).map Prod.snd
      match d.2.2, own with
      | (_, _, rd) :: l, some o =>
        let run := match s.rdn.recRun.find? (fun x => x.1 = p) with | some x => x.2 | none => 0
        let setRec (s : State) (n : Nat) : State :=
          (s.rdnSet fun k => { k with recRun := (p, n) :: k.recRun.filter (fun x => x.1 ≠ p) }).showCfgmis
        if rd ≠ o then setRec (mark (s.bump RDN_RECMIS)) (run + 1)
        else if last || qs.all (fun q => (digestIn r.digs q).isSome && (digestIn l q).isSome) then
          setRec ((mark s).compareSlices r l qs) 0
        else s
      | _, _ => if last then mark (s.bumpN RDN_NOCMP qs.length) else s

/-- This head compares: it does not feed and holds a state that follows the partner (R412, R415). -/
def State.compares (s : State) : Bool := !s.rdn.feeds && (s.rdnState = rdSYNC || s.rdnState = rdSTANDBY || s.rdnState = rdSWAP)

/-- A DIG received on port `p` (R412). -/
def State.digRx (s : State) (p : Nat) (f : Frame) : State :=
  let n := min (f.fld 12 2) (f.pay.length / 8)
  let l := (List.range n).map (fun k => (numAt f.pay (8 * k) 2, numAt f.pay (8 * k + 2) 1 % 16, numAt f.pay (8 * k + 4) 4))
  let ring := match l with
    | _ :: x :: _ => s.ringEnds.find? (fun r => s.get (SKD_RING_FAR r) = x.1 / 64)
    | _ => s.ringEnds.find? (fun r => r = p)
  match ring with
  | none => s
  | some r =>
    let s := s.rdnSet fun k => { k with digs := ((r, f.w10, l) :: k.digs.filter (fun d => !(d.1 = r && d.2.1 = f.w10))).take 256 }
    match s.runOf f.w10 with
    | some run => s.compareRing run r false
    | none => s

/-- DIG_RX (R412). -/
def execDigRx (p : Nat) (s : State) : Host.Outcome State Fault Refusal :=
  settled (if s.running && s.head && decide (p < 16) then match s.takeRx p (fun f => f.typ = fDIG) with
      | some (i, s) => if s.compares && i.f.src = s.partnerAddr then s.digRx p i.f else s
      | none => s
    else s)

/-- COMPARE_DEADLINE (R412, R413): L(q) + T of the oldest slot not yet compared. -/
def State.compareDeadline (s : State) : State :=
  let late := s.cmp.slots.reverse.find? (fun r => decide (launchTime s.grid (r.j + 1) ≤ s.tm.wall) &&
    s.ringEnds.any (fun p => !r.digOut.contains p))
  match late with
  | none => s
  | some r => (s.ringEnds.foldl (fun s p => match s.runOf (r.j % 65536) with
      | some x => s.compareRing x p true
      | none => s) s).stillsRefresh

def execCompareDeadline (s : State) : Host.Outcome State Fault Refusal :=
  settled (if s.head && s.ready && s.compares then s.compareDeadline else s)

/-! ### Heartbeats (R409, R416) -/

/-- The ports of a heartbeat (R325, R409). -/
def State.hbtPorts (s : State) : List Nat :=
  let q := s.get RDN_CFG_PPORT
  q :: (if s.rdnState = rdACTIVE ∨ s.rdnState = rdSOLO then s.ownRings ++ s.skd.ringOn else s.ringEnds).filter (fun p => p ≠ q)

/-- Three base frames in a row were missed (R416, R417). -/
def State.threeMissed (s : State) : State :=
  match s.rdnState with
  | 3 => s.rdnEnter rdSOLO
  | 4 => s.rdnSet fun r => { r with take := true }
  | 5 => s.rdnSet fun r => { r with take := true }
  | 7 =>
    if s.rdn.feeds then
      let s := if s.stat RDN_CMD = stBUSY && s.get RDN_CMD_OP = 1 then s.setStat RDN_CMD stFAILED else s
      (s.setSwap none).rdnEnter rdSOLO
    else s.rdnSet fun r => { r with take := true }
  | _ => s

/-- The base frame whose heartbeat was awaited is over (R416). -/
def State.closeFrame (s : State) : State :=
  let h := s.rdn.heard
  let miss := if h.isEmpty then min 7 (s.get RDN_PATH_MISS + 1) else 0
  let s := s.setAll [(RDN_PATH_PLINK, if h.contains (s.get RDN_CFG_PPORT) then 1 else 0), (RDN_PATH_MISS, miss),
    (RDN_PATH_RING, ((List.range 16).map (fun p => if h.contains p then 2 ^ p else 0)).sum)]
  let s := s.rdnSet fun r => { r with bf := r.bf + 1, heard := [] }
  if h.isEmpty then
    let s := s.bump RDN_HBTMISS
    if 3 ≤ miss then s.threeMissed else s
  else s

/-- Base frames that are over by now are closed; after a jump of wall time counting starts anew. -/
def State.closeFrames (s : State) : State :=
  let b := s.frameNow
  if b < s.rdn.bf ∨ s.rdn.bf + 8 < b then s.rdnSet fun r => { r with bf := b, heard := [] }
  else (List.range (b - s.rdn.bf)).foldl (fun s _ => s.closeFrame) s

/-- HBT_MISS (R416): at a base-frame boundary without a heartbeat in the frame that ends. -/
def execHbtMiss (s : State) : Host.Outcome State Fault Refusal :=
  settled (if s.head && s.ready && s.gridRuns && s.rdnState ≠ rdOFF && s.rdn.heard.isEmpty && decide (s.rdn.bf < s.frameNow) then
      s.closeFrame else s)

/-- Messages that R444 repeats each base frame. -/
def State.repeats (s : State) : State :=
  let s := match s.rdn.asked with | some b => if b = s.frameNow then s else s.sendEpreq | none => s
  let s := match s.rdn.vote with
    | some v =>
      let s := if !s.rdn.feeds && v.theirs.isNone && decide (1 ≤ v.asked ∧ v.asked < 4) then s.sendVotereq v else s
      match s.rdn.vote with
      | some v => match v.mine with
        | some ok => if v.theirs.isNone && decide (v.told < 4) then s.sendVerdict v ok else s
        | none => s
      | none => s
    | none => s
  match s.rdn.swap with
  | some w => if w.agreed then s else s.sendSwap w.slot 1 w.cause w.dur
  | none => s

/-- The heartbeat of this base frame (R409). -/
def State.hbtSend (s : State) : State :=
  let s := s.closeFrames
  let b := s.frameNow
  let down := if s.active (s.get RDN_CFG_PPORT) then 0 else 16
  let f := mkFrame fHBT s.partnerAddr s.srcAddr false false
    (natLE 2 (b * max 1 (s.get TMU_SLOTS_SLOTS) % 65536) ++ natLE 1 (s.rdnState + down) ++ zeros 1 ++ wordBytes (s.rd RDN_EPOCH)) []
  let s := s.hbtPorts.foldl (fun s p => s.send p f) s
  (s.repeats).rdnSet fun r => { r with sentBf := some b }

/-- HBT_SEND (R409): once per base frame, in every state except OFF. -/
def execHbtSend (s : State) : Host.Outcome State Fault Refusal :=
  settled (if s.head && s.ready && s.gridRuns && s.rdnState ≠ rdOFF && s.rdn.sentBf ≠ some s.frameNow then s.hbtSend else s)

/-- Both heads feed (R420): the head that is not primary yields. -/
def State.conflict (s : State) : State :=
  let s := if s.rdn.dual then s else ((s.set RDN_STAT_DUALACT 1).bump RDN_DUALACT).rdnSet fun r => { r with dual := true }
  if s.bit RDN_CFG_PRIMARY || s.rdn.yieldAt.isSome then s
  else s.rdnSet fun r => { r with yieldAt := some (nextSlot s.grid (s.tm.wall + 10 ^ 6 * wNs) + s.leadN) }

/-- What the partner's state brings about (R416, R420, R423). -/
def State.partnerIn (s : State) (ps : Nat) : State :=
  let feeding := ps = rdSOLO ∨ ps = rdACTIVE
  let s := if feeding then s else s.rdnSet fun r => { r with dual := false }
  match s.rdnState with
  | 1 => if s.rdn.pairMis then s else if feeding ∨ ps = rdSWAP then (s.rdnEnter rdSYNC).askFull else s
  | 2 => if ps = rdSTANDBY then s.rdnEnter rdACTIVE else if feeding then s.conflict else s
  | 3 => if feeding then s.conflict
         else if ps = rdSYNC ∨ ps = rdSTART ∨ ps = rdFAULTY then s.rdnEnter rdSOLO else s
  | 5 => if ps = rdACTIVE && s.bit RDN_CFG_PRIMARY && s.bit RDN_CFG_REVERT && s.rdn.swap.isNone then s.swapRequest true 2 0
         else s
  | _ => s

/-- A heartbeat of the partner on port `p`, whose settings are PRIMARY `prim` and REVERT `rev` (log entry 37). -/
def State.hbtRx (s : State) (p : Nat) (f : Frame) (prim rev : Bool) : State :=
  let s := s.closeFrames
  let ps := f.fld 12 1 % 16
  let s := s.setAll [(RDN_STAT_PSTATE, ps), (RDN_EPSTAT_ANN, f.fld 14 4 % 65536)]
  let s := (s.rdnSet fun r => { r with pairMis := decide (prim = s.bit RDN_CFG_PRIMARY), peerRev := rev }).showCfgmis
  let s := if f.w10 = s.rdn.bf * max 1 (s.get TMU_SLOTS_SLOTS) % 65536 then
      s.rdnSet fun r => { r with heard := p :: r.heard.filter (fun q => q ≠ p) } else s
  s.partnerIn ps

/-- HBT_RX (R416). -/
def execHbtRx (p : Nat) (prim rev : Bool) (s : State) : Host.Outcome State Fault Refusal :=
  settled (if s.running && s.head && decide (p < 16) then match s.takeRx p (fun f => f.typ = fHBT) with
      | some (i, s) => if i.f.src = s.partnerAddr && s.ready && s.gridRuns && s.rdnState ≠ rdOFF then s.hbtRx p i.f prim rev else s
      | none => s
    else s)

/-- RDN_START_WAIT (R416): WAIT base frames in START, twice as many on the head that is not primary. -/
def execRdnStartWait (s : State) : Host.Outcome State Fault Refusal :=
  settled (if s.head && s.ready && s.gridRuns && s.rdnState = rdSTART && !s.rdn.pairMis &&
      decide (s.rdn.since + s.get RDN_CFG_WAIT * (if s.bit RDN_CFG_PRIMARY then 1 else 2) ≤ s.frameNow) then
      s.rdnEnter rdSOLO else s)

/-! ### Swaps (R419, R423, R424) -/

/-- This head's part in a swap that its partner requests for `cause`: does it take, and can it agree now (R416). -/
def State.swapPart (s : State) (cause : Nat) : Option Bool :=
  if s.rdn.swap.isSome then none
  else if cause = 2 then (if s.rdnState = rdACTIVE then some false else none)
  else if s.rdnState = rdSTANDBY then some true else none

/-- A SWAP message (R419). -/
def State.swapRx (s : State) (b : List Byte) : State :=
  let slot := nearSlot s.nextPost (numAt b 0 2)
  let cause := numAt b 3 1
  let dur := numAt b 4 2
  let open_ := decide (s.tm.wall < s.paceTick slot)
  match numAt b 2 1 with
  | 1 => match s.swapPart cause with
    | some taking =>
      if !open_ then s.sendSwap slot 3 cause dur
      else
        let s := s.setSwap (some ⟨slot, taking, cause, dur, s.rdnState, true⟩)
        (s.rdnEnter rdSWAP).sendSwap slot 2 cause dur
    | none => match s.rdn.swap with
      | some w => if w.agreed && w.slot = slot then s.sendSwap slot 2 cause dur else s.sendSwap slot 3 cause dur
      | none => s.sendSwap slot 3 cause dur
  | 2 => match s.rdn.swap with
    | some w =>
      if w.slot ≠ slot ∨ w.agreed then s
      else if !open_ then s.swapCancel.sendSwap slot 3 cause dur
      else (s.setSwap (some { w with agreed := true })).rdnEnter rdSWAP
    | none => s.sendSwap slot 3 cause dur
  | _ => match s.rdn.swap with
    | some w => if w.slot = slot then s.swapCancel else s
    | none => s

/-- SWAP_RX (R419, R423). -/
def execSwapRx (p : Nat) (s : State) : Host.Outcome State Fault Refusal :=
  settled (if s.running && s.head && decide (p < 16) then match s.takeRx p (isSvc vSWAP) with
      | some (i, s) => if s.ready && s.gridRuns && s.rdnState ≠ rdOFF then s.swapRx (svcPay i.f) else s
      | none => s
    else s)

/-- RDN_CMD operation `op` with DUR. -/
def State.rdnCommand (s : State) (op dur : Nat) (f : State → State) : State := s.command RDN_CMD (op + 16 * (dur % 4096)) f

/-- DRILL (R424). -/
def State.rdnDrill (s : State) (dur : Nat) : State :=
  s.rdnCommand 1 dur fun s =>
    let revert := if s.bit RDN_CFG_PRIMARY then s.bit RDN_CFG_REVERT else s.rdn.peerRev
    if s.rdnState ≠ rdACTIVE || s.rdn.vote.isSome || s.bit CMP_PACE_STAT_CATCHUP || (dur % 4096 = 0 && revert) then
      s.setStat RDN_CMD stREFUSED
    else (s.setStat RDN_CMD stBUSY).swapRequest false 1 (dur % 4096)

def execRdnDrill (dur : Nat) (s : State) : Host.Outcome State Fault Refusal :=
  settled (if s.running && s.head then s.rdnDrill dur else s)

/-- CLEAR: in FAULTY only (R416). -/
def State.rdnClear (s : State) : State :=
  s.rdnCommand 2 0 fun s =>
    if s.rdnState ≠ rdFAULTY then s.setStat RDN_CMD stREFUSED
    else ((s.rdnEnter rdSYNC).askFull.placeChanged).setStat RDN_CMD stDONE

def execRdnClear (s : State) : Host.Outcome State Fault Refusal :=
  settled (if s.running && s.head then s.rdnClear else s)

/-- RESYNC, on either head of a pair (R425; log entry 46). -/
def State.rdnResync (s : State) : State :=
  s.rdnCommand 3 0 fun s =>
    let st := s.rdnState
    if st = rdOFF ∨ st = rdSTART ∨ st = rdFAULTY then s.setStat RDN_CMD stREFUSED
    else if s.rdn.feeds then (s.rdnSet fun r => { r with full := true }).setStat RDN_CMD stDONE
    else s.askFull.setStat RDN_CMD stDONE

def execRdnResync (s : State) : Host.Outcome State Fault Refusal :=
  settled (if s.running && s.head then s.rdnResync else s)

/-! ### Epochs (R425, R426, R444) -/

/-- An item with its header (R425). -/
def Item.bytes (i : Item) : List Byte := [BitVec.ofNat 8 i.kind, 0#8] ++ natLE 2 i.idx ++ natLE 4 i.data.length ++ i.data

/-- Item bytes that one EPOCH message holds, and those beside a closing record (R444). -/
abbrev epochPart : Nat := 996
abbrev epochLast : Nat := 972

/-- Offsets at which items start. -/
def itemStarts : List Item → Nat → List Nat
  | [], _ => []
  | i :: l, o => o :: itemStarts l (o + i.bytes.length)

/-- The messages of an epoch from message `n` on, with `rest` to send from offset `o` (R444). -/
def State.sendParts (s : State) (num : Nat) (full : Bool) (starts : List Nat) (closing : List Byte) :
    Nat → Nat → Nat → List Byte → State
  | 0, _, _, _ => s
  | k + 1, n, o, rest =>
    let last := decide (rest.length ≤ epochLast)
    let cont := !rest.isEmpty && !starts.contains o
    let fl := (if last then 1 else 0) + (if full then 2 else 0) + (if cont then 4 else 0)
    let part := rest.take epochPart
    let s := s.tellPartner vEPOCH (natLE 2 num ++ natLE 2 n ++ natLE 1 fl ++ zeros 3 ++ part ++ (if last then closing else []))
    if last then s else s.sendParts num full starts closing k (n + 1) (o + part.length) (rest.drop epochPart)

/-- The open epoch closes and is sent (R425). -/
def State.epochClose (s : State) : State :=
  let full := s.rdn.full
  let all := s.epochItems
  let items := if full then all else s.changedItems
  let num := (s.get RDN_EPOCH_NUM + 1) % 65536
  let b := items.flatMap Item.bytes
  let closing := natLE 2 num ++ natLE 2 (s.get RDN_EPOCH_ACTID) ++ natLE 1 (if full then 1 else 0) ++ zeros 3 ++
    natLE 4 items.length ++ natLE 4 b.length ++ natLE 2 (s.get CMP_LASTSEQ_SET) ++ zeros 2 ++ natLE 4 (crc32c b)
  let s := (s.set RDN_EPOCH_NUM num).rdnSet fun r => { r with items := all, full := false, epBf := some s.frameNow }
  s.sendParts num full (itemStarts items 0) closing (b.length / epochPart + 2) 0 0 b

/-- EPOCH_CLOSE (R425): a base-frame boundary, or 256 KiB of items. -/
def execEpochClose (s : State) : Host.Outcome State Fault Refusal :=
  settled (if s.head && s.ready && s.gridRuns && s.rdn.feeds && s.rdnState ≠ rdOFF && (s.rdn.full || s.changedItems ≠ []) &&
      (s.rdn.epBf ≠ some s.frameNow || decide (262144 ≤ (s.changedItems.flatMap Item.bytes).length)) then s.epochClose else s)

/-- Items read back from their bytes; `none` where they are malformed. -/
def parseItems : Nat → List Byte → Option (List Item)
  | _, [] => some []
  | 0, _ => none
  | n + 1, l =>
    let len := numAt l 4 4
    if l.length < 8 + len then none
    else (parseItems n (l.drop (8 + len))).map (fun r => ⟨numAt l 0 1, numAt l 2 2, slice l 8 len⟩ :: r)

/-- An epoch that fails a condition is discarded, and a full one is requested (R426). -/
def State.epochFail (s : State) : State :=
  ((s.bump RDN_EPDISC).rdnSet fun r => { r with parts := none }).askFull

/-- The closing record `c` of the epoch whose item bytes are `b` (R426). -/
def State.epochEnd (s : State) (num : Nat) (b c : List Byte) : State :=
  let full := numAt c 4 1 % 2 = 1
  let prev := match s.rdn.inst.reverse with | x :: _ => x.num | [] => s.get RDN_EPOCH_NUM
  let s := s.rdnSet fun r => { r with parts := none }
  match parseItems (numAt c 8 4) b with
  | some items =>
    if numAt c 0 2 = num && items.length = numAt c 8 4 && b.length = numAt c 12 4 && crc32c b = numAt c 20 4 &&
        (full || num = (prev + 1) % 65536) then
      s.rdnSet fun r => { r with inst := r.inst ++ [⟨num, numAt c 2 2, full, items, numAt c 16 2⟩] }
    else s.epochFail
  | none => s.epochFail

/-- One EPOCH message (R426, R444). A message out of its order fails its epoch at the closing record. -/
def State.epochRx (s : State) (b : List Byte) : State :=
  let num := numAt b 0 2
  let n := numAt b 2 2
  let fl := numAt b 4 1
  let last := fl % 2 = 1
  let body := if last then (b.drop 8).take (b.length - 32) else b.drop 8
  let s := if n = 0 ∧ fl / 2 % 2 = 1 then s.rdnSet fun r => { r with asked := none } else s
  let had := match s.rdn.parts with
    | some (m, k, l) => if m = num ∧ k = n then some l else none
    | none => none
  match if n = 0 then some [] else had with
  | none => let s := s.rdnSet fun r => { r with parts := none }; if last then s.epochFail else s
  | some l =>
    let l := l ++ body
    let s := s.set RDN_EPSTAT_BYTES (min 32767 (l.length / 4096))
    if last then s.epochEnd num l (b.drop (b.length - 24))
    else s.rdnSet fun r => { r with parts := some (num, n + 1, l) }

/-- EPOCH_RX (R426). -/
def execEpochRx (p : Nat) (s : State) : Host.Outcome State Fault Refusal :=
  settled (if s.running && s.head && decide (p < 16) then match s.takeRx p (isSvc vEPOCH) with
      | some (i, s) =>
        if s.ready && s.compares && decide (8 ≤ (svcPay i.f).length) then s.epochRx (svcPay i.f) else s
      | none => s
    else s)

/-- EPREQ_RX (R425). -/
def execEpreqRx (p : Nat) (s : State) : Host.Outcome State Fault Refusal :=
  settled (if s.running && s.head && decide (p < 16) then match s.takeRx p (isSvc vEPREQ) with
      | some (i, s) =>
        if s.rdn.feeds && numAt (svcPay i.f) 2 1 % 2 = 1 then s.rdnSet fun r => { r with full := true } else s
      | none => s
    else s)

end Sys2Proof.Machine
end

