-- ==== Sys2Proof/Machine/Flow.lean ====
section
/-! DEFINITION. Ethernet flows and still layers: addresses, what firmware queues for a port (R95, R96, R99), opening and
closing a flow (R97-R99), its packets and frames (R100-R104), and the fence of a still layer (R105, R106). -/

namespace Sys2Proof.Machine

/-- A big-endian number of `n` bytes at position `o` of an Ethernet frame. -/
def beAt (l : List Byte) (o n : Nat) : Nat := leNat (slice l o n).reverse

/-- An address held in four words, word 0 least significant; IPv4 in word 0 (R117). -/
def State.ipWords (s : State) (a : Nat) (v6 : Bool) : Nat :=
  if v6 then (s.rd a).toNat + 2 ^ 32 * (s.rd (a + 4)).toNat + 2 ^ 64 * (s.rd (a + 8)).toNat + 2 ^ 96 * (s.rd (a + 12)).toNat
  else (s.rd a).toNat

/-- A multicast address. -/
def ipMulti (v6 : Bool) (a : Nat) : Bool := if v6 then a / 2 ^ 120 = 0xFF else a / 2 ^ 28 = 0xE

/-! ### Frames of firmware (R95, R96, R99) -/

/-- What firmware sends, by the first byte of the queued frame (log entry 47): 1 an ARP reply or neighbour
advertisement, 2 an IGMPv3 or MLDv2 report, 3 a leave; then the address and the source it is about. -/
def fwBody (kind addr src : Nat) : List Byte := natLE 1 kind ++ natLE 16 addr ++ natLE 16 src

/-- A frame of class 0-3 waits on port `p` (R96). -/
def State.ethQueue (s : State) (p cls : Nat) (body : List Byte) : State :=
  s.ethSet fun e => { e with txq := e.txq ++ [(p, cls, body)] }

/-- Destination, UDP port and source filter of leg A or B of a flow. -/
def State.legAddr (s : State) (f : Nat) (b : Bool) : Nat :=
  s.ipWords (if b then ETH_FLOW_DSTB f 0 else ETH_FLOW_DSTA f 0) (s.bit (ETH_FLOW_CFG_IPV6 f))
def State.legUdp (s : State) (f : Nat) (b : Bool) : Nat := s.get (if b then ETH_FLOW_UDP_B f else ETH_FLOW_UDP_A f)
def State.legSrc (s : State) (f : Nat) (b : Bool) : Nat :=
  s.ipWords (if b then ETH_FLOW_SRCB f 0 else ETH_FLOW_SRCA f 0) (s.bit (ETH_FLOW_CFG_IPV6 f))
def State.legPort (s : State) (f : Nat) (b : Bool) : Nat := s.get (if b then ETH_FLOW_CFG_PORTB f else ETH_FLOW_CFG_PORTA f)

/-- The legs of a flow: A, and B of a pair. -/
def State.legs (s : State) (f : Nat) : List Bool := if s.bit (ETH_FLOW_CFG_DUAL f) then [false, true] else [false]

/-- Legs of OPEN flows: flow and leg. -/
def State.openLegs (s : State) : List (Nat × Bool) :=
  ((List.range 16).filter (fun f => s.get (ETH_FLOW_STAT_STATE f) = 1)).flatMap fun f => (s.legs f).map fun b => (f, b)

/-- A report or leave for each leg on that leg's port (R99). -/
def State.legReports (s : State) (f kind : Nat) : State :=
  (s.legs f).foldl (fun s b => s.ethQueue (s.legPort f b) 3 (fwBody kind (s.legAddr f b) (s.legSrc f b))) s

/-! ### OPEN and CLOSE (R97-R99) -/

/-- The NBUF frame stores of a flow, or none when the allocator cannot place them (R127). -/
def State.flowStores (s : State) (f : Nat) : Nat → Nat → Option State
  | _, 0 => some s
  | b, n + 1 =>
    match s.allocWide (s.storeBytes (0, f)) (.flow f b) with
    | none => none
    | some (a, t) => (t.wr (ETH_FLOW_BUF f b) (dramPage a)).flowStores f (b + 1) n

/-- The format and size of R98 and a SKEW of 1-100 (log entry 47). -/
def State.flowFmtOk (s : State) (f : Nat) : Bool :=
  formatOk (s.rd (ETH_FLOW_FMT f)) (s.get (ETH_FLOW_SIZE_W f)) (s.get (ETH_FLOW_SIZE_H f)) &&
  decide (1 ≤ s.get (ETH_FLOW_CFG_SKEW f) ∧ s.get (ETH_FLOW_CFG_SKEW f) ≤ 100)

/-- Each leg is on an active port, and the two on different ones. -/
def State.flowPortOk (s : State) (f : Nat) : Bool :=
  (s.legs f).all (fun b => s.bit (ETH_PORT_STAT_ACTIVE (s.legPort f b))) &&
  (!s.bit (ETH_FLOW_CFG_DUAL f) || s.legPort f false ≠ s.legPort f true)

/-- No leg of another open flow has a leg's address and UDP port. -/
def State.flowAddrOk (s : State) (f : Nat) : Bool :=
  (s.legs f).all fun b => s.openLegs.all fun q => q.1 = f || !(
    s.legAddr q.1 q.2 = s.legAddr f b && s.legUdp q.1 q.2 = s.legUdp f b &&
    s.bit (ETH_FLOW_CFG_IPV6 q.1) = s.bit (ETH_FLOW_CFG_IPV6 f))

/-- ETH_FLOW_CMD OPEN (R97). -/
def State.flowOpen (s : State) (f : Nat) : State :=
  s.command (ETH_FLOW_CMD f) 1 fun s =>
    let refuse (s : State) (r : Nat) : State := (s.set (ETH_FLOW_STAT_REASON f) r).setStat (ETH_FLOW_CMD f) stREFUSED
    if s.get (ETH_FLOW_STAT_STATE f) ≠ 0 then refuse s 1
    else if !s.flowFmtOk f then refuse s 2
    else if !s.flowPortOk f then refuse s 3
    else if !s.flowAddrOk f then refuse s 4
    else match s.flowStores f 0 (s.nbuf f) with
      | none => refuse s 5
      | some t =>
        let t := (t.setFlow f FlowSt.init).wr (ETH_FLOW_STAT f) (putBits (t.rd (ETH_FLOW_STAT f) &&& 0x1C#32) 0 2 1)
        (t.legReports f 2).setStat (ETH_FLOW_CMD f) stDONE

/-- ETH_FLOW_CMD CLOSE (R99): reception stops, and the frames being received are dropped. -/
def State.flowClose (s : State) (f : Nat) : State :=
  s.command (ETH_FLOW_CMD f) 2 fun s =>
    if s.get (ETH_FLOW_STAT_STATE f) ≠ 1 then s.setStat (ETH_FLOW_CMD f) stREFUSED
    else
      let s := (s.legReports f 3).setAll [(ETH_FLOW_STAT_STATE f, 2), (ETH_FLOW_STAT_FRAME f, 0)]
      (s.setFlow f { s.flow f with frames := [] }).setStat (ETH_FLOW_CMD f) stDONE

/-- OPEN (R97). -/
def execFlowOpen (f : Nat) (s : State) : Host.Outcome State Fault Refusal :=
  settled (if s.running && s.head && decide (f < 16) then s.flowOpen f else s)

/-- CLOSE (R99). -/
def execFlowClose (f : Nat) (s : State) : Host.Outcome State Fault Refusal :=
  settled (if s.running && s.head && decide (f < 16) then s.flowClose f else s)

/-! ### Frames (R102, R103) -/

/-- SKEW × 100 µs. -/
def State.skewTime (s : State) (f : Nat) : Nat := s.get (ETH_FLOW_CFG_SKEW f) * 100000 * wNs

/-- FRAME and WRITE (R117). -/
def State.frameStat (s : State) (f : Nat) : State :=
  match (s.flow f).frames.getLast? with
  | none => s.set (ETH_FLOW_STAT_FRAME f) 0
  | some x => s.setAll ((ETH_FLOW_STAT_FRAME f, 1) :: (match x.buf with | some b => [(ETH_FLOW_STAT_WRITE f, b)] | none => []))

/-- The buffers of a flow, the one written longest ago first. -/
def State.bufOrder (s : State) (f : Nat) : List Nat :=
  let o := (s.flow f).order
  (List.range (s.nbuf f)).filter (fun b => !o.contains b) ++ o

/-- The buffer for a new frame: the oldest one neither in use nor ready, nor being written (R102). -/
def State.bufChoice (s : State) (f : Nat) : Option Nat :=
  let ready (b : Nat) : Bool := match s.flowReady f with | some x => x.1 = b | none => false
  (s.bufOrder f).find? (fun b => !s.flowInUse f b && !ready b && !(s.flow f).frames.any (fun x => x.buf = some b))

/-- The layer fence of buffer `b` (R103): it is ready from now on. -/
def State.flowFence (s : State) (f b ts : Nat) : State :=
  let x := s.flow f
  let s := s.setFlow f { x with fence := (b, ts, s.tm.wall) :: x.fence.filter (fun q => q.1 ≠ b) }
  s.setAll [(ETH_FLOW_STAT_READY f, b), (ETH_FLOW_STAT_READYOK f, 1), (ETH_FLOW_FTIME_NS f, wallNs s.tm.wall)]

/-- An open frame is complete: marker and every number from its first packet on. -/
def FlowFrame.complete (x : FlowFrame) : Bool :=
  match x.mark with
  | some (m, _) => x.n = (m + 2 ^ 32 - x.first) % 2 ^ 32 + 1
  | none => false

/-- A frame closes (R103); `last`: the number of its last packet. A frame that had no buffer signals nothing. -/
def State.frameClose (s : State) (f : Nat) (x : FlowFrame) (last : Nat) : State :=
  let y := s.flow f
  let s := s.setFlow f { y with frames := y.frames.filter (fun z => z.ts ≠ x.ts), closed := (x.ts :: y.closed).take 2,
                                next := some ((last + 1) % 2 ^ 32) }
  let s := match x.buf with
    | none => s
    | some b =>
      if x.complete then (s.bump (ETH_FLOW_FRMOK f)).flowFence f b x.ts
      else
        let s := (s.bump (ETH_FLOW_FRMINC f)).bumpN (ETH_FLOW_LOST f) ((last + 2 ^ 32 - x.first) % 2 ^ 32 + 1 - x.n)
        if s.bit (ETH_FLOW_CFG_FENCEINC f) then s.flowFence f b x.ts else s
  s.frameStat f

/-- FRAME_CLOSE_TIMEOUT (R103): a frame not complete at its marker's arrival plus SKEW. -/
def execFrameCloseTimeout (f : Nat) (s : State) : Host.Outcome State Fault Refusal :=
  settled <|
    if s.running && s.head && decide (f < 16) && s.get (ETH_FLOW_STAT_STATE f) = 1 then
      match (s.flow f).frames.find? (fun x => match x.mark with
        | some (_, a) => decide (a + s.skewTime f ≤ s.tm.wall) | none => false) with
      | some x => s.frameClose f x (match x.mark with | some (m, _) => m | none => x.hi)
      | none => s
    else s

/-! ### Packets (R100, R101) -/

/-- SRD headers from position `o` of an RTP payload: length, row with the field bit, offset; at most `n` (R101). -/
def srdHeaders (l : List Byte) : Nat → Nat → List (Nat × Nat × Nat)
  | _, 0 => []
  | o, n + 1 =>
    let h := (beAt l o 2, beAt l (o + 2) 2, beAt l (o + 4) 2 % 2 ^ 15)
    if beAt l (o + 4) 2 / 2 ^ 15 = 1 then h :: srdHeaders l (o + 6) n else [h]

/-- The segments lie in the frame (R101). -/
def State.srdOk (s : State) (f : Nat) (h : Nat × Nat × Nat) : Bool :=
  let g := pgroup (s.get (ETH_FLOW_FMT_SAMP f)) (s.get (ETH_FLOW_FMT_DEPTH f))
  decide (h.2.1 < s.get (ETH_FLOW_SIZE_H f)) && h.2.2 % g.2 = 0 &&
  decide (h.2.2 / g.2 * g.1 + h.1 ≤ lineBytes (s.srcFmt (0, f)) (s.get (ETH_FLOW_SIZE_W f)))

/-- The segments of a packet stored in the buffer at DRAM offset `a` (R101); `o`: where their data begin. -/
def State.srdStore (s : State) (f a : Nat) (l : List Byte) (o : Nat) : List (Nat × Nat × Nat) → State
  | [] => s
  | h :: r =>
    let g := pgroup (s.get (ETH_FLOW_FMT_SAMP f)) (s.get (ETH_FLOW_FMT_DEPTH f))
    let d := a + h.2.1 * strideOf (s.srcFmt (0, f)) (s.get (ETH_FLOW_SIZE_W f)) + h.2.2 / g.2 * g.1
    (s.dramWrite d (slice l o h.1)).srdStore f a l (o + h.1) r

/-- `b` is at or after `a` in 32-bit order. -/
def seqGe (a b : Nat) : Bool := decide ((b + 2 ^ 32 - a) % 2 ^ 32 < 2 ^ 31)

/-- Numbers seen within the merge window, and the highest older one (R100; log entry 24). -/
def pruneSeen (w skew : Nat) (l : List (Nat × Nat)) : List (Nat × Nat) × Option Nat :=
  let old := l.filter (fun x => decide (x.2 + skew < w))
  (l.filter (fun x => decide (w ≤ x.2 + skew)),
   old.foldl (fun m x => match m with | none => some x.1 | some y => if seqGe y x.1 then some x.1 else some y) none)

/-- A frame with a new timestamp opens at the packet of number `q`: frames whose marker has not come close (R102, R103). -/
def State.frameOpen (s : State) (f ts q : Nat) : State :=
  let s := ((s.flow f).frames.filter (fun x => x.mark.isNone)).foldl (fun s x => s.frameClose f x ((q + 2 ^ 32 - 1) % 2 ^ 32)) s
  let b := s.bufChoice f
  let x := s.flow f
  let first := match x.next with | some m => if seqGe m q then m else q | none => q
  let order := match b with | some b => (s.bufOrder f).filter (fun k => k ≠ b) ++ [b] | none => x.order
  let s := s.setFlow f { x with frames := x.frames ++ [⟨ts, b, first, 0, q, none⟩], order := order }
  (if b.isNone then s.bump (ETH_FLOW_SKIP f) else s).frameStat f

/-- A packet used for its frame `x`: its segments are written, and the frame closes when it is complete. -/
def State.frameTake (s : State) (f : Nat) (l : List Byte) (hs : List (Nat × Nat × Nat)) (q : Nat) (mark : Bool)
    (x : FlowFrame) : State :=
  let s := match x.buf with
    | some b => s.srdStore f (pageOff (s.rd (ETH_FLOW_BUF f b))) l (14 + 6 * hs.length) hs
    | none => s
  let x := { x with first := if seqGe x.first q then x.first else q, n := x.n + 1, hi := if seqGe x.hi q then q else x.hi,
                    mark := if mark then some (q, s.tm.wall) else x.mark }
  let y := s.flow f
  let s := s.setFlow f { y with frames := y.frames.map (fun z => if z.ts = x.ts then x else z) }
  if x.complete then s.frameClose f x (match x.mark with | some (m, _) => m | none => x.hi) else s

/-- An RTP packet `l` that reaches leg `b` of flow `f` (R100, R101); `cmax`, `vrx`: it exceeds CMAX, it overflows the
virtual receive buffer (R104). -/
def State.flowPacket (s : State) (f : Nat) (b : Bool) (l : List Byte) (cmax vrx : Bool) : State :=
  let ok := beAt l 0 1 / 64 = 2 && beAt l 1 1 % 128 = s.get (ETH_FLOW_RTP_PT f) &&
    (!s.bit (ETH_FLOW_RTP_SSRCCHK f) || beAt l 8 4 = (s.rd (ETH_FLOW_SSRC f)).toNat)
  if !ok then s.bump (ETH_FLOW_HDRERR f)
  else
    let s := s.bump (if b then ETH_FLOW_RXB f else ETH_FLOW_RXA f)
    let s := if cmax then s.bump (ETH_FLOW_CMAXEX f) else s
    let s := if vrx then s.bump (ETH_FLOW_VRXOV f) else s
    let s := s.setFlow f (if b then { s.flow f with lastB := s.now } else { s.flow f with lastA := s.now })
    let hs := srdHeaders l 14 4
    if decide (3 < hs.length) || !hs.all (s.srdOk f) then s.bump (ETH_FLOW_HDRERR f)
    else
      let q := beAt l 12 2 * 2 ^ 16 + beAt l 2 2
      let ts := beAt l 4 4
      let (recent, old) := pruneSeen s.tm.wall (s.skewTime f) (s.flow f).seen
      if recent.any (fun x => x.1 = q) then s.bump (ETH_FLOW_DUP f)
      else if (match old with | some m => seqGe q m | none => false) then s.bump (ETH_FLOW_LATE f)
      else
        let keep := match old with | some m => [(m, 0)] | none => []
        let s := s.setFlow f { s.flow f with seen := recent ++ [(q, s.tm.wall)] ++ keep }
        if (s.flow f).closed.contains ts then s
        else
          let s := if (s.flow f).frames.any (fun x => x.ts = ts) then s else s.frameOpen f ts q
          match (s.flow f).frames.find? (fun x => x.ts = ts) with
          | some x => s.frameTake f l hs q (beAt l 1 1 / 128 = 1) x
          | none => s

/-! ### Still layers (R105, R106) -/

/-- ETH_STILL_FENCE written with BUF and TOKEN (R106). -/
def State.stillFence (s : State) (k v : Nat) : State :=
  s.command (ETH_STILL_FENCE k) v fun s =>
    let s := if s.bit (ETH_STILL_CFG_EN k) then s.stillRefresh k else s
    if !s.bit (ETH_STILL_CFG_EN k) || !s.bit (ETH_STILL_STAT_FREEOK k) || s.stillInUse k (v % 2) then
      s.setStat (ETH_STILL_FENCE k) stREFUSED
    else (s.stillFenced k (v % 2) (v / 2 % 2 ^ 16)).setStat (ETH_STILL_FENCE k) stDONE

/-- STILL_FENCE (R106). -/
def execStillFence (k buf token : Nat) (s : State) : Host.Outcome State Fault Refusal :=
  settled (if s.running && s.head && decide (k < 64) then s.stillFence k (buf % 2 + 2 * (token % 2 ^ 16)) else s)

end Sys2Proof.Machine
end

