-- ==== Sys2Proof/Machine/Mon.lean ====
section
/-! DEFINITION. The monitor stream (R107-R113): its command register, its times and its packets. -/

namespace Sys2Proof.Machine

def State.monSet (s : State) (f : MonSt → MonSt) : State := s.ethSet fun e => { e with mon := f e.mon }

/-! ### Times (R109) -/

/-- DIV. -/
def State.monDiv (s : State) : Nat := 2 ^ s.get ETH_MON_CFG_DIV

/-- T(j) of base frame `k`. -/
def State.monLaunch (s : State) (k : Nat) : Nat := launchTime s.grid (k * s.get TMU_SLOTS_SLOTS + s.get ETH_MON_CFG_SLOT)

/-- T_R of base frame `k`. -/
def State.monRaster (s : State) (k : Nat) : Nat := s.monLaunch k + s.get ETH_MON_TIMING_TROFF * 100 * wNs

/-- NPKT. -/
def State.monPackets (s : State) : Nat := s.get ETH_MON_SIZE_H * s.get ETH_MON_TIMING_PPL

/-- The scheduled time of packet `i` of base frame `k`. -/
def State.monPacketTime (s : State) (k i : Nat) : Nat :=
  s.monRaster k + i * (s.monDiv * s.grid.den * wSec * s.get ETH_MON_SIZE_H) /
    (s.grid.num * s.get ETH_MON_TIMING_TOTLINES * s.monPackets)

/-- The latest DIV-th base frame whose T_R has passed. -/
def State.monFrameNow (s : State) : Nat :=
  let o := s.get ETH_MON_TIMING_TROFF * 100 * wNs
  (slotAt s.grid (s.tm.wall - o) - s.get ETH_MON_CFG_SLOT) / max 1 (s.get TMU_SLOTS_SLOTS) / s.monDiv * s.monDiv

/-- The scheduled time of the next packet. -/
def State.monNext (s : State) : Option Nat :=
  if s.get ETH_MON_STAT_STATE = 0 then none
  else match s.eth.mon.pkt with
    | some i => some (s.monPacketTime s.eth.mon.frame i)
    | none => if s.get ETH_MON_STAT_STATE = 1 then some (s.monRaster (s.monFrameNow + s.monDiv)) else none

/-! ### Events (R111) -/

/-- An event of ETH_MON_EVT, reported when its bit of ETH_MON_IE is set. -/
def State.monEvent (s : State) (bit : Nat) : State :=
  let s := s.set ⟨ETH_MON_EVT, bit, 1⟩ 1
  if s.bit ⟨ETH_MON_IE, bit, 1⟩ then s.notify nMONEVT (2 ^ bit) else s

/-! ### START, STOP, ARM (R107, R112, R113) -/

/-- The settings of START lie within R107. -/
def State.monOk (s : State) : Bool :=
  let w := s.get ETH_MON_SIZE_W
  let h := s.get ETH_MON_SIZE_H
  decide (64 ≤ w ∧ w ≤ 3840 ∧ w % 2 = 0 ∧ 64 ≤ h ∧ h ≤ 2160) && s.get ETH_MON_CFG_TF ≠ 3 && s.get ETH_MON_CFG_DIV ≠ 3 &&
  decide (s.get ETH_MON_CFG_SLOT < s.get TMU_SLOTS_SLOTS ∧ s.grid.num ≤ 120 * s.grid.den * s.monDiv) &&
  decide (0 < s.get ETH_MON_TIMING_PPL) && s.bit (ETH_PORT_STAT_ACTIVE (s.get ETH_MON_CFG_PORTA)) &&
  (!s.bit ETH_MON_CFG_CLONE || s.bit (ETH_PORT_STAT_ACTIVE (s.get ETH_MON_CFG_PORTB)))

/-- The monitor's contexts, on the crew of lowest load, while the unit composes (R231, R258; log entry 31). -/
def State.monContexts (s : State) : State :=
  if !s.ready || s.get ETH_MON_STAT_STATE ≠ 1 || s.cmp.own.any (fun x => x.2 = 2048) then s
  else match s.lightCrew with
    | none => s
    | some c =>
      match s.placeUser 2048 (s.headNum * 1024) c s.nextPost true with
      | (none, s) => s
      | (some _, s) =>
        let p := s.get CMP_CFG_MONPROG
        let s := (s.cmp.own.filter (fun x => x.2 = 2048)).foldl (fun s x =>
          (s.set (CTX_PROG x.1) p).set (CTX_CANVAS x.1) (s.get ⟨ETH_MON_WINA 2, 0, 2⟩)) s
        s.crewThreads c

/-- Bytes of one monitor store: its lines without padding (log entry 31). -/
def State.monStoreBytes (s : State) : Nat := s.monLine * s.get ETH_MON_SIZE_H

/-- ETH_MON_CMD START (R107, R113). -/
def State.monStart (s : State) : State :=
  s.command ETH_MON_CMD 1 fun s =>
    if s.get ETH_MON_STAT_STATE ≠ 0 || !s.monOk then s.setStat ETH_MON_CMD stREFUSED
    else match s.allocWide s.monStoreBytes (.monitor 0) with
      | none => s.setStat ETH_MON_CMD stREFUSED
      | some (_, s1) =>
        match s1.allocWide s.monStoreBytes (.monitor 1) with
        | none => s.setStat ETH_MON_CMD stREFUSED
        | some (_, t) =>
          let t := (t.set ETH_MON_STAT_STATE 1).monSet fun m =>
            { m with pkt := none, done := [], sent := none, job := none, wrote := [], nextFrame := s.monFrameNow + s.monDiv }
          t.monContexts.setStat ETH_MON_CMD stDONE

/-- The monitor has stopped: its stores return. -/
def State.monStopped (s : State) : State :=
  let s := ((s.freeOwner (.monitor 0)).freeOwner (.monitor 1)).set ETH_MON_STAT_STATE 0
  if s.busy ETH_MON_CMD && s.get ETH_MON_CMD_OP = 2 then s.setStat ETH_MON_CMD stDONE else s

/-- ETH_MON_CMD STOP: the frame being sent ends, and nothing more is composed. -/
def State.monStop (s : State) : State :=
  s.command ETH_MON_CMD 2 fun s =>
    if s.get ETH_MON_STAT_STATE ≠ 1 then s.setStat ETH_MON_CMD stDONE
    else
      let s := (s.freeUser 2048).monSet fun m => { m with job := none, wrote := [] }
      let s := s.dropThreads (fun x => x.2.2.1 = s.get CMP_CFG_MONPROG)
      if s.eth.mon.pkt.isNone then s.monStopped.setStat ETH_MON_CMD stDONE
      else (s.set ETH_MON_STAT_STATE 2).setStat ETH_MON_CMD stBUSY

/-- The shadow window becomes active (R112). -/
def State.monWindow (s : State) : State :=
  (List.range 3).foldl (fun s k => s.wr (ETH_MON_WINA k) (s.rd (ETH_MON_WIN k))) s

/-- The APPLY line of a pending ARM. -/
def State.monApply (s : State) : State :=
  if !s.bit ETH_MON_STAT_ARMED then s
  else ((s.monWindow.set ETH_MON_STAT_ARMED 0).monEvent 2).setStat ETH_MON_CMD stDONE

/-- ETH_MON_CMD ARM (R112): pending until the next APPLY line; a stopped monitor has none, and copies at once (log
entry 48). -/
def State.monArm (s : State) : State :=
  s.command ETH_MON_CMD 3 fun s =>
    if s.get ETH_MON_STAT_STATE = 0 then s.monWindow.setStat ETH_MON_CMD stDONE
    else (s.set ETH_MON_STAT_ARMED 1).setStat ETH_MON_CMD stDEFERRED

/-- START (R107). -/
def execMonStart (s : State) : Host.Outcome State Fault Refusal := settled (if s.running && s.head then s.monStart else s)
/-- STOP (R107). -/
def execMonStop (s : State) : Host.Outcome State Fault Refusal := settled (if s.running && s.head then s.monStop else s)
/-- ARM (R112). -/
def execMonArm (s : State) : Host.Outcome State Fault Refusal := settled (if s.running && s.head then s.monArm else s)

/-! ### Sending (R109-R111) -/

/-- MON_SOF (R110): at T_R the most recently completed store is taken; with none, nothing is sent. -/
def execMonSof (s : State) : Host.Outcome State Fault Refusal :=
  settled <|
    let k := s.monFrameNow
    if s.running && s.head && s.gridRuns && s.get ETH_MON_STAT_STATE = 1 && s.eth.mon.pkt.isNone &&
        k + s.monDiv ≠ s.eth.mon.nextFrame && decide (s.monRaster k ≤ s.tm.wall) then
      let m := s.eth.mon
      let s := (s.monSet fun m => { m with nextFrame := k + s.monDiv }).monEvent 0
      match m.done with
      | [] => (s.bump ETH_MON_UNDER).monEvent 4
      | d :: _ =>
        let s := if m.sent = some d then (s.bump ETH_MON_UNDER).monEvent 4 else s
        (s.monSet fun m => { m with frame := k, pkt := some 0, sent := some d }).setAll
          [(⟨ETH_MON_STAT, 3, 12⟩, 0), (⟨ETH_MON_STAT, 15, 1⟩, d.2)]
    else s

/-- The RTP packet `i` of the frame being sent (R109; log entry 48): header, extended sequence number, one SRD header
and the pgroups of its part of the line. -/
def State.monPayload (s : State) (i : Nat) : List Byte × State :=
  let m := s.eth.mon
  let ppl := s.get ETH_MON_TIMING_PPL
  let g := pgroup (if s.bit ETH_MON_CFG_SAMP then 2 else 0) 1
  let n := s.get ETH_MON_SIZE_W / g.2
  let row := i / ppl
  let a := i % ppl * n / ppl
  let b := (i % ppl + 1) * n / ppl
  let store := match m.sent with | some d => d.2 | none => 0
  let (data, s) := s.dramRead ((s.ownerOff (.monitor store)).getD 0 + row * s.monLine + a * g.1) ((b - a) * g.1)
  let be (k v : Nat) : List Byte := (natLE k v).reverse
  let marker := if i + 1 = s.monPackets then 128 else 0
  (be 1 128 ++ be 1 (marker + s.get ⟨ETH_MON_RTP, 0, 7⟩) ++ be 2 m.seq ++
    be 4 (s.monLaunch m.frame * 90000 / wSec) ++ be 4 (s.rd ETH_MON_SSRC).toNat ++
    be 2 (m.seq / 2 ^ 16) ++ be 2 ((b - a) * g.1) ++ be 2 row ++ be 2 (a * g.2) ++ data, s)

/-- A frame leaves port `p` (R96). -/
def State.ethSend (s : State) (p cls : Nat) (body : List Byte) : State :=
  (s.bump (ETH_TXFRM p)).skdSet fun k => { k with out := .eth p cls body :: k.out }

/-- MON_PACKET (R109, R111, R113): the next packet at its scheduled time. An APPLY line below the picture takes effect
with the marker packet (log entry 48). -/
def execMonPacket (s : State) : Host.Outcome State Fault Refusal :=
  settled <|
    match s.eth.mon.pkt with
    | none => s
    | some i =>
      if s.running && s.head && decide (s.monPacketTime s.eth.mon.frame i ≤ s.tm.wall) then
        let ppl := s.get ETH_MON_TIMING_PPL
        let last := i + 1 = s.monPackets
        let (l, s) := s.monPayload i
        let s := s.ethSend (s.get ETH_MON_CFG_PORTA) 0 l
        let s := if s.bit ETH_MON_CFG_CLONE then s.ethSend (s.get ETH_MON_CFG_PORTB) 0 l else s
        let s := (s.monSet fun m => { m with seq := (m.seq + 1) % 2 ^ 32 }).set ⟨ETH_MON_STAT, 3, 12⟩ (i / ppl)
        let s := if i = s.get ETH_MON_LINE_MATCH * ppl then s.monEvent 1 else s
        let ap := s.get ETH_MON_LINE_APPLY
        let s := if i = ap * ppl || (last && decide (s.get ETH_MON_SIZE_H ≤ ap)) then s.monApply else s
        if last then
          let s := ((s.monSet fun m => { m with pkt := none }).bump ETH_MON_FRM).monEvent 3
          if s.get ETH_MON_STAT_STATE = 2 then s.monApply.monStopped else s
        else s.monSet fun m => { m with pkt := some (i + 1) }
      else s

end Sys2Proof.Machine
end

