-- ==== Sys2Proof/Machine/Eth.lean ====
section
/-! DEFINITION. Frames of the Ethernet ports: classification of what is received (R94, R95) and the order of what is
sent (R96). -/

namespace Sys2Proof.Machine

/-! ### Parts of a frame (R94) -/

/-- The frame carries an 802.1Q tag. -/
def ethTagged (l : List Byte) : Bool := beAt l 12 2 = 0x8100
/-- Where its payload begins. -/
def ethOff (l : List Byte) : Nat := if ethTagged l then 18 else 14
def ethType (l : List Byte) : Nat := beAt l (ethOff l - 2) 2
def isV4 (l : List Byte) : Bool := ethType l = 0x0800
def isV6 (l : List Byte) : Bool := ethType l = 0x86DD
/-- Protocol of an IP packet. -/
def ipProto (l : List Byte) : Nat := if isV4 l then beAt l (ethOff l + 9) 1 else if isV6 l then beAt l (ethOff l + 6) 1 else 256
def ipSrc (l : List Byte) : Nat := if isV4 l then beAt l (ethOff l + 12) 4 else beAt l (ethOff l + 8) 16
def ipDst (l : List Byte) : Nat := if isV4 l then beAt l (ethOff l + 16) 4 else beAt l (ethOff l + 24) 16
/-- An IP fragment. -/
def ipFragment (l : List Byte) : Bool :=
  (isV4 l && beAt l (ethOff l + 6) 2 % 2 ^ 14 ≠ 0) || (isV6 l && ipProto l = 44)
/-- Where the UDP header of an IPv4 packet without options or an IPv6 packet without extension headers begins. -/
def udpOff (l : List Byte) : Option Nat :=
  if ipProto l ≠ 17 then none
  else if isV4 l then (if beAt l (ethOff l) 1 = 0x45 then some (ethOff l + 20) else none)
  else some (ethOff l + 40)
/-- Where the ICMPv6 message begins, after a hop-by-hop header if there is one. -/
def icmp6Off (l : List Byte) : Option Nat :=
  if !isV6 l then none
  else if ipProto l = 58 then some (ethOff l + 40)
  else if ipProto l = 0 && beAt l (ethOff l + 40) 1 = 58 then some (ethOff l + 40 + 8 * (beAt l (ethOff l + 41) 1 + 1))
  else none

/-! ### The port's addresses (R94, R95) -/

def State.portMac (s : State) (p : Nat) : Nat := (s.rd (ETH_PORT_MACL p)).toNat + 2 ^ 32 * s.get (ETH_PORT_MACH_MAC p)
def State.portIp (s : State) (p : Nat) (v6 : Bool) : Nat :=
  if v6 then s.ipWords (ETH_PORT_IP6 p 0) true else (s.rd (ETH_PORT_IP4 p)).toNat

/-- MAC address of a multicast group. -/
def groupMac (v6 : Bool) (a : Nat) : Nat := if v6 then 0x333300000000 + a % 2 ^ 32 else 0x01005E000000 + a % 2 ^ 23

/-- Groups joined on port `p`: those of open flows, and those every node and PTP join of themselves (log entry 25). -/
def State.joined (s : State) (p : Nat) : List Nat :=
  ((s.openLegs.filter (fun q => s.legPort q.1 q.2 = p && ipMulti (s.bit (ETH_FLOW_CFG_IPV6 q.1)) (s.legAddr q.1 q.2))).map
    fun q => groupMac (s.bit (ETH_FLOW_CFG_IPV6 q.1)) (s.legAddr q.1 q.2)) ++
  [groupMac false 0xE0000001, groupMac true 1, groupMac true (0xFF000000 + s.portIp p true % 2 ^ 24),
   groupMac false 0xE0000181, groupMac true 0x181]

/-- The tag is as ETH_PORT_CFG asks (R94). -/
def State.vlanOk (s : State) (p : Nat) (l : List Byte) : Bool :=
  if s.bit (ETH_PORT_CFG_VLAN p) then ethTagged l && beAt l 14 2 % 4096 = s.get (ETH_PORT_CFG_VID p) && ethType l ≠ 0x8100
  else !ethTagged l

/-- The destination is the port's address, broadcast or a joined group (R95). -/
def State.macOk (s : State) (p : Nat) (l : List Byte) : Bool :=
  let d := beAt l 0 6
  d = s.portMac p || d = 2 ^ 48 - 1 || (s.joined p).contains d

/-- ARP, neighbour discovery, IGMP or MLD (R95). -/
def ethFirmware (l : List Byte) : Bool :=
  ethType l = 0x0806 || (isV4 l && ipProto l = 2) ||
  (match icmp6Off l with
    | some o => let t := beAt l o 1; decide (130 ≤ t ∧ t ≤ 137) || t = 143
    | none => false)

/-- The open flow leg on port `p` that a UDP packet matches: destination address, UDP port, source filter (R95). -/
def State.legMatch (s : State) (p : Nat) (l : List Byte) (u : Nat) : Option (Nat × Bool) :=
  s.openLegs.find? fun q =>
    s.legPort q.1 q.2 = p && s.bit (ETH_FLOW_CFG_IPV6 q.1) = isV6 l && s.legAddr q.1 q.2 = ipDst l &&
    s.legUdp q.1 q.2 = beAt l (u + 2) 2 && (s.legSrc q.1 q.2 = 0 || s.legSrc q.1 q.2 = ipSrc l)

/-- The row of the table of R95, 1-7, that a frame first matches on port `p`; a frame above 9,018 bytes with its FCS
is not supported (R94) and matches none of rows 3-6. -/
def State.ethClass (s : State) (p : Nat) (l : List Byte) (fcs : Bool) : Nat :=
  if !fcs then 1
  else if !s.vlanOk p l || !s.macOk p l || ipFragment l || ipProto l = 6 then 2
  else if decide (9018 < l.length + 4) then 7
  else if ethFirmware l then 3
  else match udpOff l with
    | none => 7
    | some u =>
      let d := beAt l (u + 2) 2
      if d = 319 || d = 320 then 4
      else if d = s.get ⟨ETH_AUTH, 16, 16⟩ && ipDst l = s.portIp p (isV6 l) then 5
      else if decide (psSTANDBY ≤ s.power) && (s.legMatch p l u).isSome then 6
      else 7

/-- Firmware answers requests for the port's own addresses and queries for the groups of open flows (R95). -/
def State.fwAnswer (s : State) (p : Nat) (l : List Byte) : State :=
  let o := ethOff l
  let report (v6 : Bool) : State := (s.openLegs.filter (fun q => s.legPort q.1 q.2 = p &&
    s.bit (ETH_FLOW_CFG_IPV6 q.1) = v6)).foldl (fun s q => s.ethQueue p 3 (fwBody 2 (s.legAddr q.1 q.2) (s.legSrc q.1 q.2))) s
  if ethType l = 0x0806 then
    if beAt l (o + 6) 2 = 1 && beAt l (o + 24) 4 = s.portIp p false then s.ethQueue p 3 (fwBody 1 (s.portIp p false) (beAt l (o + 14) 4))
    else s
  else if isV4 l then (if beAt l (o + beAt l o 1 % 16 * 4) 1 = 0x11 then report false else s)
  else match icmp6Off l with
    | none => s
    | some i =>
      if beAt l i 1 = 130 then report true
      else if beAt l i 1 = 135 && beAt l (i + 8) 16 = s.portIp p true then s.ethQueue p 3 (fwBody 1 (s.portIp p true) (ipSrc l))
      else s

/-- A frame that port `p` receives (R94, R95). PTP and control messages then act by the commands of their own rows
(log entry 47). -/
def State.ethRx (s : State) (p : Nat) (l : List Byte) (fcs cmax vrx : Bool) : State :=
  let s := s.bump (ETH_RXFRM p)
  match s.ethClass p l fcs with
  | 1 => s.bump (ETH_RXFCS p)
  | 3 => s.fwAnswer p l
  | 4 => s
  | 5 => s.bump (ETH_CTLRX p)
  | 6 =>
    match udpOff l with
    | some u =>
      match s.legMatch p l u with
      | some (f, b) => s.flowPacket f b (slice l (u + 8) (beAt l (u + 4) 2 - 8)) cmax vrx
      | none => s
    | none => s
  | _ => s.bump (ETH_RXUNM p)

/-- ETH_FRAME_RX (R95): frame `l` without its FCS; `fcs`: its FCS is right; `full`: it meets a full receive FIFO (R24);
`cmax`, `vrx`: what the receiver models of R104 say of it. -/
def execEthFrameRx (p : Nat) (l : List Byte) (fcs full cmax vrx : Bool) (s : State) : Host.Outcome State Fault Refusal :=
  settled <|
    if s.running && s.head && decide (p < 4) && s.bit (ETH_PORT_STAT_ACTIVE p) && s.bit (ETH_PORT_CFG_EN p) then
      if full then s.bump (ETH_RXDROP p) else s.ethRx p l fcs cmax vrx
    else s

/-- Time a frame of `n` payload bytes takes on port `p`, with its headers, FCS, preamble and gap (R109). -/
def State.ethTime (s : State) (p n : Nat) : Nat :=
  (n + 86) * 8 * wNs / (100 * lanesOf (s.get (ETH_PORT_STAT_WIDTH p)))

/-- The first waiting frame of port `p` in strict priority (R96). -/
def State.ethFront (s : State) (p : Nat) : Option (Nat × Nat × List Byte) :=
  (List.range 4).findSome? fun c => s.eth.txq.find? (fun x => x.1 = p && x.2.1 = c)

/-- The monitor sends on port `p`. -/
def State.monOn (s : State) (p : Nat) : Bool :=
  s.get ETH_MON_CFG_PORTA = p || (s.bit ETH_MON_CFG_CLONE && s.get ETH_MON_CFG_PORTB = p)

/-- ETH_FRAME_TX (R96): the waiting frame of highest priority is sent if it ends before the next monitor packet. -/
def execEthFrameTx (p : Nat) (s : State) : Host.Outcome State Fault Refusal :=
  settled <|
    if s.running && s.head && decide (p < 4) && s.bit (ETH_PORT_STAT_ACTIVE p) then
      match s.ethFront p with
      | none => s
      | some x =>
        let fits := match s.monNext with
          | some w => !s.monOn p || decide (s.tm.wall + s.ethTime p x.2.2.length ≤ w)
          | none => true
        if fits then (s.ethSet fun e => { e with txq := e.txq.erase x }).ethSend p x.2.1 x.2.2 else s
    else s

end Sys2Proof.Machine
end

