-- ==== Sys2Proof/Machine/Hash.lean ====
section
/-! DEFINITION. The external standards of authentication and image verification that the spec names: SHA-256 and SHA-384
(FIPS 180-4), HMAC-SHA-256 (RFC 2104) and ECDSA over P-384 (FIPS 186) (R114, R116, R439, R459-R461; log entry 5). -/

namespace Sys2Proof.Machine

/-! ### SHA-2 -/

/-- The round constants of 64 bits; those of 32 bits are their upper halves. -/
def shaK : List Nat :=
  [0x428A2F98D728AE22, 0x7137449123EF65CD, 0xB5C0FBCFEC4D3B2F, 0xE9B5DBA58189DBBC,
   0x3956C25BF348B538, 0x59F111F1B605D019, 0x923F82A4AF194F9B, 0xAB1C5ED5DA6D8118,
   0xD807AA98A3030242, 0x12835B0145706FBE, 0x243185BE4EE4B28C, 0x550C7DC3D5FFB4E2,
   0x72BE5D74F27B896F, 0x80DEB1FE3B1696B1, 0x9BDC06A725C71235, 0xC19BF174CF692694] ++
  [0xE49B69C19EF14AD2, 0xEFBE4786384F25E3, 0x0FC19DC68B8CD5B5, 0x240CA1CC77AC9C65,
   0x2DE92C6F592B0275, 0x4A7484AA6EA6E483, 0x5CB0A9DCBD41FBD4, 0x76F988DA831153B5,
   0x983E5152EE66DFAB, 0xA831C66D2DB43210, 0xB00327C898FB213F, 0xBF597FC7BEEF0EE4,
   0xC6E00BF33DA88FC2, 0xD5A79147930AA725, 0x06CA6351E003826F, 0x142929670A0E6E70] ++
  [0x27B70A8546D22FFC, 0x2E1B21385C26C926, 0x4D2C6DFC5AC42AED, 0x53380D139D95B3DF,
   0x650A73548BAF63DE, 0x766A0ABB3C77B2A8, 0x81C2C92E47EDAEE6, 0x92722C851482353B,
   0xA2BFE8A14CF10364, 0xA81A664BBC423001, 0xC24B8B70D0F89791, 0xC76C51A30654BE30,
   0xD192E819D6EF5218, 0xD69906245565A910, 0xF40E35855771202A, 0x106AA07032BBD1B8] ++
  [0x19A4C116B8D2D0C8, 0x1E376C085141AB53, 0x2748774CDF8EEB99, 0x34B0BCB5E19B48A8,
   0x391C0CB3C5C95A63, 0x4ED8AA4AE3418ACB, 0x5B9CCA4F7763E373, 0x682E6FF3D6B2B8A3,
   0x748F82EE5DEFB2FC, 0x78A5636F43172F60, 0x84C87814A1F0AB72, 0x8CC702081A6439EC,
   0x90BEFFFA23631E28, 0xA4506CEBDE82BDE9, 0xBEF9A3F7B2C67915, 0xC67178F2E372532B] ++
  [0xCA273ECEEA26619C, 0xD186B8C721C0C207, 0xEADA7DD6CDE0EB1E, 0xF57D4F7FEE6ED178,
   0x06F067AA72176FBA, 0x0A637DC5A2C898A6, 0x113F9804BEF90DAE, 0x1B710B35131C471B,
   0x28DB77F523047D84, 0x32CAAB7B40C72493, 0x3C9EBE0A15C9BEBC, 0x431D67C49C100D4C,
   0x4CC5D4BECB3E42B6, 0x597F299CFC657E2A, 0x5FCB6FAB3AD6FAEC, 0x6C44198C4A475817]

/-- The initial values: square roots of the first 16 primes, 64 fractional bits. -/
def shaH : List Nat :=
  [0x6A09E667F3BCC908, 0xBB67AE8584CAA73B, 0x3C6EF372FE94F82B, 0xA54FF53A5F1D36F1,
   0x510E527FADE682D1, 0x9B05688C2B3E6C1F, 0x1F83D9ABFB41BD6B, 0x5BE0CD19137E2179,
   0xCBBB9D5DC1059ED8, 0x629A292A367CD507, 0x9159015A3070DD17, 0x152FECD8F70E5939,
   0x67332667FFC00B31, 0x8EB44A8768581511, 0xDB0C2E0D64F98FA7, 0x47B5481DBEFA4FA4]

/-- Rotation to the right of a word of `w` bits. -/
def rotr (w n x : Nat) : Nat := (x / 2 ^ n) ||| (x % 2 ^ n * 2 ^ (w - n))

/-- The constants of a hash: word width, rounds, and the amounts of its four functions: two rotations, and a third
rotation or a shift. -/
structure Sha2 where
  w  : Nat
  ks : List Nat
  s0 : Nat × Nat × Nat
  s1 : Nat × Nat × Nat
  b0 : Nat × Nat × Nat
  b1 : Nat × Nat × Nat

def Sha2.big (h : Sha2) (r : Nat × Nat × Nat) (x : Nat) : Nat :=
  rotr h.w r.1 x ^^^ rotr h.w r.2.1 x ^^^ rotr h.w r.2.2 x
def Sha2.small (h : Sha2) (r : Nat × Nat × Nat) (x : Nat) : Nat :=
  rotr h.w r.1 x ^^^ rotr h.w r.2.1 x ^^^ (x / 2 ^ r.2.2)

def sha256Par : Sha2 :=
  ⟨32, (shaK.take 64).map (· / 2 ^ 32), (7, 18, 3), (17, 19, 10), (2, 13, 22), (6, 11, 25)⟩
def sha384Par : Sha2 := ⟨64, shaK, (1, 8, 7), (19, 61, 6), (28, 34, 39), (14, 18, 41)⟩

/-- The message schedule, newest word first: `n` more words. -/
def Sha2.extend (h : Sha2) : Nat → List Nat → List Nat
  | 0, l => l
  | n + 1, l =>
    h.extend n ((h.small h.s1 (l.getD 1 0) + l.getD 6 0 + h.small h.s0 (l.getD 14 0) + l.getD 15 0) % 2 ^ h.w :: l)

/-- The eight working variables. -/
structure ShaReg where
  a : Nat
  b : Nat
  c : Nat
  d : Nat
  e : Nat
  f : Nat
  g : Nat
  h : Nat

/-- One round with its schedule word and constant. -/
def Sha2.round (h : Sha2) (r : ShaReg) (wk : Nat × Nat) : ShaReg :=
  let m := 2 ^ h.w
  let ch := (r.e &&& r.f) ^^^ ((m - 1 - r.e) &&& r.g)
  let maj := (r.a &&& r.b) ^^^ (r.a &&& r.c) ^^^ (r.b &&& r.c)
  let t := r.h + h.big h.b1 r.e + ch + wk.1 + wk.2
  ⟨(t + h.big h.b0 r.a + maj) % m, r.a, r.b, r.c, (r.d + t) % m, r.e, r.f, r.g⟩

/-- One block of 16 words. -/
def Sha2.block (h : Sha2) (r : ShaReg) (ws : List Nat) : ShaReg :=
  let q := (((h.extend (h.ks.length - 16) ws.reverse).reverse).zip h.ks).foldl h.round r
  let m := 2 ^ h.w
  ⟨(r.a + q.a) % m, (r.b + q.b) % m, (r.c + q.c) % m, (r.d + q.d) % m, (r.e + q.e) % m, (r.f + q.f) % m,
   (r.g + q.g) % m, (r.h + q.h) % m⟩

/-- A big-endian number. -/
def beNat (l : List Byte) : Nat := l.foldl (fun n b => n * 256 + b.toNat) 0
/-- `n` big-endian bytes. -/
def natBE (n v : Nat) : List Byte := (List.range n).map fun i => BitVec.ofNat 8 (v / 256 ^ (n - 1 - i))

/-- The list cut into at most `k` parts of `n`. -/
def chunks (n : Nat) : Nat → List Byte → List (List Byte)
  | 0, _ => []
  | k + 1, l => if l.isEmpty then [] else l.take n :: chunks n k (l.drop n)

/-- The padded message: a 1 bit, zeros, and the length in bits in two words. -/
def Sha2.pad (h : Sha2) (l : List Byte) : List Byte :=
  let bs := h.w * 2
  let z := (2 * bs - (l.length + 1 + h.w / 4) % bs) % bs
  l ++ [0x80#8] ++ List.replicate z 0#8 ++ natBE (h.w / 4) (8 * l.length)

def Sha2.hash (h : Sha2) (iv : ShaReg) (l : List Byte) : ShaReg :=
  (chunks (h.w * 2) (l.length + 4) (h.pad l)).foldl
    (fun r b => h.block r ((chunks (h.w / 8) 16 b).map beNat)) iv

/-- Eight initial values, of width 32 or 64. -/
def shaIv (l : List Nat) : ShaReg :=
  ⟨l.getD 0 0, l.getD 1 0, l.getD 2 0, l.getD 3 0, l.getD 4 0, l.getD 5 0, l.getD 6 0, l.getD 7 0⟩

/-- SHA-256 of a byte string. -/
def sha256 (l : List Byte) : List Byte :=
  let r := sha256Par.hash (shaIv ((shaH.take 8).map (· / 2 ^ 32))) l
  [r.a, r.b, r.c, r.d, r.e, r.f, r.g, r.h].flatMap (natBE 4)

/-- SHA-384 of a byte string. -/
def sha384 (l : List Byte) : List Byte :=
  let r := sha384Par.hash (shaIv (shaH.drop 8)) l
  [r.a, r.b, r.c, r.d, r.e, r.f].flatMap (natBE 8)

/-- HMAC-SHA-256 (RFC 2104) under a key of at most 64 bytes. -/
def hmacSha256 (key msg : List Byte) : List Byte :=
  let k := key ++ List.replicate (64 - key.length) 0#8
  sha256 (k.map (· ^^^ 0x5C#8) ++ sha256 (k.map (· ^^^ 0x36#8) ++ msg))

/-! ### ECDSA over P-384 -/

abbrev ecP : Nat := 2 ^ 384 - 2 ^ 128 - 2 ^ 96 + 2 ^ 32 - 1
abbrev ecB : Nat := 0xB3312FA7E23EE7E4988E056BE3F82D19181D9C6EFE8141120314088F5013875AC656398D8A2ED19D2A85C8EDD3EC2AEF
abbrev ecN : Nat := 0xFFFFFFFFFFFFFFFFFFFFFFFFFFFFFFFFFFFFFFFFFFFFFFFFC7634D81F4372DDF581A0DB248B0A77AECEC196ACCC52973
abbrev ecGx : Nat := 0xAA87CA22BE8B05378EB1C71EF320AD746E1D3B628BA79B9859F741E082542A385502F25DBF55296C3A545E3872760AB7
abbrev ecGy : Nat := 0x3617DE4A96262C6F5D9E98BF9292DC29F8F41DBD289A147CE9DA3113B5F0B8C00A60B1CE1D7E819D7A431D7C90EA0E5F

/-- `b` to the power whose `n` low bits are those of `e`, modulo `m`. -/
def powMod (m : Nat) : Nat → Nat → Nat → Nat
  | 0, _, _ => 1 % m
  | n + 1, b, e => (if e % 2 = 1 then b else 1) * powMod m n (b * b % m) (e / 2) % m

/-- The inverse modulo a prime of 384 bits. -/
def invMod (m x : Nat) : Nat := powMod m 384 (x % m) (m - 2)

/-- A point of the curve; none is the point at infinity. -/
abbrev EcPoint := Option (Nat × Nat)

/-- The third point on the chord or tangent of slope `l`, reflected. -/
def ecChord (l x1 y1 x2 : Nat) : EcPoint :=
  let x := (l * l + 2 * ecP - x1 - x2) % ecP
  some (x, (l * (x1 + ecP - x) + ecP - y1) % ecP)

def ecAdd (p q : EcPoint) : EcPoint :=
  match p, q with
  | none, q => q
  | p, none => p
  | some (x1, y1), some (x2, y2) =>
    if x1 = x2 then
      if (y1 + y2) % ecP = 0 then none
      else ecChord ((3 * x1 * x1 + ecP - 3) * invMod ecP (2 * y1) % ecP) x1 y1 x2
    else ecChord ((y2 + ecP - y1) * invMod ecP (x2 + ecP - x1) % ecP) x1 y1 x2

/-- `k` times a point, `k` below 2^n. -/
def ecMul : Nat → Nat → EcPoint → EcPoint
  | 0, _, _ => none
  | n + 1, k, p =>
    let q := ecMul n (k / 2) (ecAdd p p)
    if k % 2 = 1 then ecAdd q p else q

/-- A point on the curve: y^2 = x^3 - 3 x + b. -/
def ecOn (x y : Nat) : Bool :=
  decide (x < ecP ∧ y < ecP) && (y * y) % ecP = (x * x * x + 3 * (ecP - x) + ecB) % ecP

/-- The signature (r, s) of a digest under the uncompressed public key 0x04, X, Y. -/
def ecdsaOk (digest pub : List Byte) (r s : Nat) : Bool :=
  let x := beNat ((pub.drop 1).take 48)
  let y := beNat (pub.drop 49)
  if pub.length ≠ 97 || pub.head? ≠ some 4#8 || !ecOn x y || !decide (0 < r ∧ r < ecN ∧ 0 < s ∧ s < ecN) then false
  else
    let w := invMod ecN s
    match ecAdd (ecMul 384 (beNat digest * w % ecN) (some (ecGx, ecGy))) (ecMul 384 (r * w % ecN) (some (x, y))) with
    | none => false
    | some (q, _) => q % ecN = r

end Sys2Proof.Machine
end

