-- ==== Sys2Proof/Machine/Flash.lean ====
section
/-! DEFINITION. The boot flash: two-copy records (R360, R456), the board description and its flash directory (R455,
R457). -/

namespace Sys2Proof.Machine

def State.bootSet (s : State) (f : BootSt → BootSt) : State := { s with boot := f s.boot }

/-! ### Two-copy records (R360, R456) -/

abbrev recBSR : Nat := 0
abbrev recKEYS : Nat := 1
abbrev recTRIM : Nat := 2
abbrev recBD : Nat := 3
def recSettings (k : Nat) : Nat := 4 + k
abbrev recCOR : Nat := 6
def recBoard (n : Nat) : Nat := 8 + n
def recSet (n : Nat) : Nat := 16 + n

/-- A copy whose CRC checks. -/
def State.validCopy (s : State) (id c : Nat) : Option FlashCopy :=
  match s.boot.recs.find? (fun x => x.1 = 2 * id + c) with
  | some (_, x) => if x.ok then some x else none
  | none => none

/-- The number of the copy in force: the valid one of higher sequence (R360, R456). -/
def State.copyNum (s : State) (id : Nat) : Option Nat :=
  match s.validCopy id 0, s.validCopy id 1 with
  | some a, some b => some (if a.seq < b.seq then 1 else 0)
  | some _, none => some 0
  | none, some _ => some 1
  | none, none => none

/-- The copy in force. -/
def State.copyIn (s : State) (id : Nat) : Option FlashCopy :=
  match s.copyNum id with
  | some c => s.validCopy id c
  | none => none

/-- The contents of a record in force. -/
def State.recData (s : State) (id : Nat) : Option (List Byte) := (s.copyIn id).map FlashCopy.data

/-- A write of a record goes to the copy not in force, with the next sequence (R360, R456). -/
def State.writeRec (s : State) (id : Nat) (l : List Byte) : State :=
  let c := match s.copyNum id with | some 0 => 1 | _ => 0
  let q := match s.copyIn id with | some x => x.seq + 1 | none => 0
  s.bootSet fun b => { b with recs := minsert (2 * id + c) ⟨q, true, l⟩ (merase (2 * id + c) b.recs) }

/-- A write that a power failure cuts leaves a copy whose CRC does not check (R456, R480). -/
def State.tornRec (s : State) (id : Nat) (l : List Byte) : State :=
  let c := match s.copyNum id with | some 0 => 1 | _ => 0
  s.bootSet fun b => { b with recs := minsert (2 * id + c) ⟨0, false, l⟩ (merase (2 * id + c) b.recs) }

/-- Both copies of a record erased: what is left fails its CRC. -/
def State.eraseRec (s : State) (id : Nat) : State :=
  s.bootSet fun b => { b with recs := minsert (2 * id) ⟨0, false, []⟩ (merase (2 * id)
    (minsert (2 * id + 1) ⟨0, false, []⟩ (merase (2 * id + 1) b.recs))) }

/-! ### Board description (R455, R457) -/

/-- The contents of the first record of tag `t` among tag records, at most `n` of them. -/
def tagIn (t : Nat) : Nat → List Byte → Option (List Byte)
  | 0, _ => none
  | n + 1, l =>
    if l.length < 4 then none
    else
      let len := numAt l 2 2
      if numAt l 0 2 = t then some (slice l 4 len) else tagIn t n (l.drop (4 + (len + 3) / 4 * 4))

/-- The contents of a tag of the board description in force. -/
def State.tag (s : State) (t : Nat) : Option (List Byte) :=
  match s.boot.bd with
  | some l => tagIn t 64 (l.drop 32)
  | none => none

/-- Areas of the flash directory, in the order R455 lists them: image slots 0 and 1, settings slots 0 and 1, the
calibration area, the correction-image area. Each is 8 bytes: offset and size (log entry 52). -/
def State.areaSize (s : State) (k : Nat) : Nat :=
  match s.tag 6 with
  | some l => numAt l (8 * k + 4) 4
  | none => 0

/-- Bytes of the calibration area taken by the copies it holds, but for copy `c` of record `id` (R360). -/
def State.calUsed (s : State) (id c : Nat) : Nat :=
  ((s.boot.recs.filter (fun x => decide (16 ≤ x.1) && x.1 ≠ 2 * id + c)).map fun x => x.2.data.length).sum

/-- A store of `n` bytes into record `id` finds room (R360). -/
def State.calRoom (s : State) (id n : Nat) : Bool :=
  let c := match s.copyNum id with | some 0 => 1 | _ => 0
  decide (s.calUsed id c + n ≤ s.areaSize 4)

end Sys2Proof.Machine
end

