-- ==== Sys2Proof/Machine/Lcr.lean ====
section
/-! DEFINITION. Lamp-board identity, stored records and staging (R359-R366), the selection record and the set in use
(R369, R371). -/

namespace Sys2Proof.Machine

def State.lcrSet (s : State) (f : LcrSt → LcrSt) : State := { s with lcr := f s.lcr }

/-! ### Images (R361, R362, R366) -/

def imgW (l : List Byte) : Nat := numAt l 0x0C 2
def imgH (l : List Byte) : Nat := numAt l 0x0E 2
/-- CRC-32C over an image with its CRC field 0 (R361). -/
def imgCrcOk (l : List Byte) : Bool := crc32c (putAt l 0x3C (zeros 4)) = numAt l 0x3C 4
/-- W and H as R361 allows. -/
def sizeOk (w h : Nat) : Bool := decide (0 < w ∧ w % 32 = 0 ∧ 0 < h ∧ h % 16 = 0 ∧ w * h ≤ 65536)
def boardLen (l : List Byte) : Nat := 0x40 + 4 * (imgW l * imgH l)
def setLen (l : List Byte) : Nat := 0x40 + 18 * (imgW l * imgH l)
/-- Three channel trims at `o`, 0-16,384. -/
def trimsOk (l : List Byte) (o : Nat) : Bool := (List.range 3).all fun c => decide (numAt l (o + 2 * c) 2 ≤ 16384)

/-- Lamp map entry `i` (R365). -/
def mapEntry (l : List Byte) (i : Nat) : Nat := numAt l (0x40 + 4 * i) 4
/-- Mapped pixels: pixel, row, column. -/
def mapped (l : List Byte) : List (Nat × Nat × Nat) :=
  (List.range (imgW l * imgH l)).filterMap fun i =>
    let e := mapEntry l i
    if e.testBit 31 then none else some (i, e % 64, e / 64 % 1024)

/-- The first pixel whose place an earlier pixel names (R366). -/
def mapDup (m : List (Nat × Nat × Nat)) : Option Nat :=
  (m.foldl (fun (q : List (Nat × Nat) × Option Nat) x =>
    if q.2.isSome then q else if q.1.contains x.2 then (q.1, some x.1) else (x.2 :: q.1, none)) ([], none)).2

/-- Scan-store lines that a place's three lamps lie in (R341, R365). -/
def placeLines (r p : Nat) : List Nat := (List.range 3).map fun c => (r * 3072 + 3 * p + c) / 32

/-- The first pixel that shares a scan-store line with a pixel of another slice (R366). -/
def mapSplit (m : List (Nat × Nat × Nat)) (w h : Nat) : Option Nat :=
  (m.foldl (fun (q : List (Nat × Nat) × Option Nat) x =>
    let sl := x.1 / w / (h / 16)
    let ls := placeLines x.2.1 x.2.2
    if q.2.isSome then q
    else if ls.any (fun n => q.1.any fun y => y.1 = n && y.2 ≠ sl) then (q.1, some x.1)
    else (ls.map (fun n => (n, sl)) ++ q.1, none)) ([], none)).2

/-- Why a board record is refused: REASON and pixel (R366, R383). -/
def boardRefusal (l : List Byte) : Option (Nat × Nat) :=
  if numAt l 0 4 ≠ 0x504D424C || numAt l 4 2 ≠ 1 || !sizeOk (imgW l) (imgH l) || l.length ≠ boardLen l || !imgCrcOk l ||
      !trimsOk l 0x22 then some (2, 0)
  else match (List.range (imgW l * imgH l)).find? (fun i => mapEntry l i / 2 ^ 16 % 2 ^ 15 ≠ 0) with
    | some i => some (2, i)
    | none =>
      match mapDup (mapped l) with
      | some i => some (5, i)
      | none => (mapSplit (mapped l) (imgW l) (imgH l)).map fun i => (4, i)

/-! ### Stored records (R360) -/

/-- The board records stored, with their numbers. -/
def State.boards (s : State) : List (Nat × List Byte) :=
  (List.range 2).filterMap fun n => (s.recData (recBoard n)).map fun l => (n, l)
/-- The calibration sets stored. -/
def State.sets (s : State) : List (Nat × List Byte) :=
  (List.range 8).filterMap fun n => (s.recData (recSet n)).map fun l => (n, l)
def imgBtype (l : List Byte) : Nat := numAt l 8 4
def setLbsn (l : List Byte) : Nat := numAt l 0x10 8

/-- LBSN in force. -/
def State.lbsn (s : State) : Nat := (s.rd (LCR_LBSN 0)).toNat + 2 ^ 32 * (s.rd (LCR_LBSN 1)).toNat
def State.btype (s : State) : Nat := (s.rd LCR_BTYPE).toNat

/-- The board record in use: that of BTYPE, or with BTYPE 0 the only one stored (R364). -/
def State.board (s : State) : Option (List Byte) :=
  match s.boards.find? (fun x => imgBtype x.2 = s.btype) with
  | some x => some x.2
  | none => if s.btype = 0 then (match s.boards with | [x] => some x.2 | _ => none) else none

/-- A stored set whose BTYPE and LBSN match the present board (R363). -/
def State.keyed (s : State) (l : List Byte) : Bool := imgBtype l = s.btype && setLbsn l = s.lbsn

/-- A mask of numbers. -/
def maskOf (l : List Nat) : Nat := l.foldl (fun a n => if a.testBit n then a else a + 2 ^ n) 0

/-- The set image that STORESET refuses (R362). -/
def State.setBad (s : State) (l : List Byte) : Bool :=
  numAt l 0 4 ≠ 0x54434C43 || numAt l 4 2 ≠ 1 || l.length ≠ setLen l || !imgCrcOk l || !trimsOk l 0x18 ||
  !s.boards.any (fun x => imgBtype x.2 = imgBtype l && imgW x.2 = imgW l && imgH x.2 = imgH l)

/-! ### Identity (R359) -/

/-- What the lamp-board EEPROM returned, 16 bytes; anything else is a failed read. -/
def State.identity (s : State) (ee : List Byte) : State :=
  let ok := ee.length = 16 && crc32c (ee.take 12) = numAt ee 12 4
  let n := if ok then numAt ee 0 8 else 0
  let s := (s.wr (LCR_LBSN 0) (BitVec.ofNat 32 n)).wr (LCR_LBSN 1) (BitVec.ofNat 32 (n / 2 ^ 32))
  (s.wr LCR_BTYPE (BitVec.ofNat 32 (if ok then numAt ee 8 4 else 0))).set LCR_STAT_EEFAIL (if ok then 0 else 1)

/-! ### Staging (R363, R364) -/

/-- Address of the selection record in PE00's store (R369). -/
abbrev selBase : Nat := lsBase 0 + 0x3FFC0

/-- The nominal set of a board record: header and its matrix for every pixel (R363). -/
def nominalSet (l : List Byte) : List Byte :=
  putAt (putAt (putAt (zeros 64) 8 (slice l 8 4)) 0x0C (slice l 0x0C 4)) 0x18 (slice l 0x22 6) ++
    (List.range (imgW l * imgH l)).flatMap fun _ => slice l 0x10 18

/-- An image copied into DRAM (R127, R363): staging number 0-7 a set, 8 the nominal set, 9 the board record. -/
def State.stageOne (s : State) (k : Nat) (l : List Byte) : Bool × State :=
  match s.allocWide l.length (.staging k) with
  | some (off, s) => (true, s.dramWrite off l)
  | none => (false, s)

/-- DRAM offset ÷ 64 of a staged set; 0xFF names the nominal one. -/
def State.setBase (s : State) (n : Nat) : Nat := (s.ownerOff (.staging (if n = 0xFF then 8 else n))).getD 0 / 64

/-- Words 0 and 3-4 of the selection record: the set in use and the lamp map (R369). -/
def State.writeSelection (s : State) : State :=
  let s := s.putWord selBase (BitVec.ofNat 32 (s.setBase (s.get LCR_STAT_SETINUSE)))
  match s.ownerOff (.staging 9), s.board with
  | some o, some l => (s.putWord (selBase + 12) (BitVec.ofNat 32 ((o + 0x40) / 64))).putWord (selBase + 16)
      (BitVec.ofNat 32 (imgW l + 2 ^ 16 * imgH l))
  | _, _ => s

/-- STORED and KEYED (R383). -/
def State.setsRefresh (s : State) : State :=
  s.setAll [(LCR_SETS_STORED, maskOf (s.sets.map Prod.fst)),
    (LCR_SETS_KEYED, maskOf ((s.sets.filter (fun x => s.keyed x.2)).map Prod.fst))]

/-- No staged set matches: the nominal set, with CAL_MISMATCH (R364). -/
def State.calMismatch (s : State) : State :=
  ((s.setAll [(LCR_STAT_CALMIS, 1), (LCR_STAT_SETINUSE, 0xFF)]).notify nCALMIS (s.lbsn % 2 ^ 32))

/-- Every staged image is dropped. -/
def State.unstageAll (s : State) : State := (List.range 10).foldl (fun (q : State) k => q.freeOwner (.staging k)) s

/-- No lamp map is in force (R364). -/
def State.noMap (s : State) : State :=
  (s.setAll [(LCR_STAT_NOMAP, 1), (LCR_SETS_STAGED, 0)]).lcrSet fun l => { l with map := [] }

/-- The keyed sets staged, lowest number first, and the numbers that found room. -/
def State.stageSets (s : State) : List (Nat × List Byte) → List Nat × State
  | [] => ([], s)
  | x :: l =>
    match s.stageOne x.1 x.2 with
    | (true, s') => match s'.stageSets l with
      | (g, s'') => (x.1 :: g, s'')
    | (false, s') => s'.stageSets l

/-- The set in use after staging found `got` (log entry 50). -/
def State.settleSet (s : State) (got : List Nat) : State :=
  match got with
  | [] => s.calMismatch
  | n :: _ => if s.bit LCR_STAT_CALMIS || got.contains (s.get LCR_STAT_SETINUSE) then s else s.set LCR_STAT_SETINUSE n

/-- Board record `b` staged with the sets of its key (R363). -/
def State.stageBoard (s : State) (b : List Byte) : State :=
  let m := (mapped b).map fun x => x.2.1 * 1024 + x.2.2
  let s1 : State := (s.set LCR_STAT_NOMAP 0).lcrSet fun l => { l with map := m }
  let s2 : State := ((s1.stageOne 9 b).2.stageOne 8 (nominalSet b)).2
  match s2.stageSets (s2.sets.filter fun x => s2.keyed x.2) with
  | (got, s3) => ((s3.set LCR_SETS_STAGED (maskOf got)).settleSet got).writeSelection

/-- Staging (R363, R364). A set in use that is staged again stays in use; without one the lowest staged set is taken,
and a set that matches after a mismatch waits for R364 (log entry 50). -/
def State.stage (s : State) : State :=
  if !s.lampSide || !s.dramUp then s.setsRefresh
  else match s.board with
    | none => s.setsRefresh.unstageAll.noMap
    | some b => if (boardRefusal b).isSome then s.setsRefresh.unstageAll.noMap else s.setsRefresh.unstageAll.stageBoard b

/-- Set `n` is selected (R364, R371). -/
def State.selectSet (s : State) (n : Nat) : State :=
  ((s.setAll [(LCR_STAT_SETINUSE, n), (LCR_STAT_CALMIS, 0)]).lcrSet fun l => { l with auto := none }).writeSelection

/-! ### CALSET (R371) -/

/-- CLOSEDSEQ, if VALID (R369). -/
def State.closedSeq (s : State) : Option Nat :=
  let w := (s.word (selBase + 20)).toNat
  if w.testBit 16 then some (w % 2 ^ 16) else none

/-- SWITCHSEQ of a CALSET entry with action time `w` (R371). -/
def State.switchSeq (s : State) (w : Nat) (late : Bool) : Nat :=
  match late, s.closedSeq with
  | true, some c => (c + 1) % 65536
  | _, _ => nextSlot s.grid w % 65536

/-- The selection record's words 1 and 2. -/
def State.writeSwitch (s : State) (base seq : Nat) : State :=
  (s.putWord (selBase + 4) (BitVec.ofNat 32 base)).putWord (selBase + 8) (BitVec.ofNat 32 (seq + 65536))

/-- A CALSET entry with action time `w` is queued: NEXTBASE, SWITCHSEQ and PEND. Slots from SWITCHSEQ on of which a slice
is already corrected are counted (R371). -/
def State.calArm (s : State) (n w : Nat) (late : Bool) : State :=
  let q : Nat := s.switchSeq w late
  let s : State := s.setAll [(LCR_SWITCH_SEQ, q), (LCR_SWITCH_PEND, 1), (LCR_SWITCH_NEXTSET, n)]
  let s : State := s.writeSwitch (s.setBase n) q
  let lates := s.fw.dones.filter fun d => decide ((d.1 + 65536 - q) % 65536 < 32768)
  s.bumpN LCR_CNT_SETLATE lates.length

/-- A CALSET entry executes: CURBASE takes NEXTBASE and PEND = 0 (R371). -/
def State.calSwitch (s : State) : State :=
  if !s.bit LCR_SWITCH_PEND then s
  else
    let s := s.selectSet (s.get LCR_SWITCH_NEXTSET)
    (s.set LCR_SWITCH_PEND 0).putWord (selBase + 8) (BitVec.ofNat 32 (s.get LCR_SWITCH_SEQ))

/-! ### LCR_CMD: records (R360-R366, R383) -/

/-- LCR_CMD refused with a reason. -/
def State.lcrRefuse (s : State) (r pixel : Nat) : State :=
  (s.setAll [(LCR_RES_REASON, r), (LCR_RES_PIXEL, pixel)]).setStat LCR_CMD stREFUSED

/-- LCR reasons of R383. -/
abbrev lrNOLAMP : Nat := 1
abbrev lrBADIMG : Nat := 2
abbrev lrNOSPACE : Nat := 3
abbrev lrSTATE : Nat := 6
abbrev lrWINDOW : Nat := 7
abbrev lrINUSE : Nat := 8

/-- DRAM offset of LCR_SRC. -/
def State.lcrSrc (s : State) : Nat := pageOff (s.rd LCR_SRC)

/-- A store begins: BUSY until LCR_STORE_DONE. -/
def State.storeBegin (s : State) (id : Nat) (l : List Byte) : State :=
  if !s.calRoom id l.length then s.lcrRefuse lrNOSPACE 0
  else (s.lcrSet fun c => { c with store := some ⟨id, l⟩ }).setStat LCR_CMD stBUSY

/-- STORESET (R360, R362): memory must be up (log entry 53). -/
def State.lcrStoreset (s : State) (n : Nat) : State :=
  s.command LCR_CMD (1 + 16 * n) fun s =>
    if !s.dramUp then s.lcrRefuse lrSTATE 0
    else
      let hd := s.bytes (dramBase + s.lcrSrc) 64
      if !sizeOk (imgW hd) (imgH hd) then s.lcrRefuse lrBADIMG 0
      else
        let (l, s) := s.dramRead s.lcrSrc (setLen hd)
        if s.setBad l then s.lcrRefuse lrBADIMG 0 else s.storeBegin (recSet n) l

/-- ERASESET (R383). -/
def State.lcrEraseset (s : State) (n : Nat) : State :=
  s.command LCR_CMD (2 + 16 * n) fun s =>
    if s.get LCR_STAT_SETINUSE = n || (s.bit LCR_SWITCH_PEND && s.get LCR_SWITCH_NEXTSET = n) then s.lcrRefuse lrINUSE 0
    else (s.eraseRec (recSet n)).stage.setStat LCR_CMD stDONE

/-- STOREMAP (R360, R366): it replaces the record of its BTYPE, or takes a free one. -/
def State.lcrStoremap (s : State) : State :=
  s.command LCR_CMD 3 fun s =>
    if !s.dramUp then s.lcrRefuse lrSTATE 0
    else
      let hd := s.bytes (dramBase + s.lcrSrc) 64
      if !sizeOk (imgW hd) (imgH hd) then s.lcrRefuse lrBADIMG 0
      else
        let (l, s) := s.dramRead s.lcrSrc (boardLen hd)
        match boardRefusal l with
        | some (r, i) => s.lcrRefuse r i
        | none =>
          match s.boards.find? (fun x => imgBtype x.2 = imgBtype l) with
          | some x => s.storeBegin (recBoard x.1) l
          | none => match (List.range 2).find? (fun n => (s.recData (recBoard n)).isNone) with
            | some n => s.storeBegin (recBoard n) l
            | none => s.lcrRefuse lrNOSPACE 0

/-- RESCAN (R359): the EEPROM is read again, and records are staged for what it says. -/
def State.lcrRescan (s : State) (ee : List Byte) : State :=
  s.command LCR_CMD 4 fun s =>
    if !s.lampSide then s.lcrRefuse lrNOLAMP 0 else (s.identity ee).stage.setStat LCR_CMD stDONE

/-- The flash copy and staging are complete (R360, R363, R364). -/
def State.storeDone (s : State) : State :=
  match s.lcr.store with
  | none => s
  | some x =>
    let mis := s.bit LCR_STAT_CALMIS
    let s := ((s.writeRec x.id x.data).lcrSet fun c => { c with store := none }).stage
    let n := x.id - 16
    let s := if mis && decide (16 ≤ x.id) && (s.get LCR_SETS_STAGED).testBit n then
      s.lcrSet fun c => { c with auto := some (n, s.now + 20000000) } else s
    s.setStat LCR_CMD stDONE

/-- STORESET (R362). -/
def execStoreset (n : Nat) (s : State) : Host.Outcome State Fault Refusal :=
  settled (if s.running && decide (n < 8) then s.lcrStoreset n else s)
/-- ERASESET (R383). -/
def execEraseset (n : Nat) (s : State) : Host.Outcome State Fault Refusal :=
  settled (if s.running && decide (n < 8) then s.lcrEraseset n else s)
/-- STOREMAP (R366). -/
def execStoremap (s : State) : Host.Outcome State Fault Refusal := settled (if s.running then s.lcrStoremap else s)
/-- LCR_STORE_DONE (R363). -/
def execLcrStoreDone (s : State) : Host.Outcome State Fault Refusal := settled (if s.running then s.storeDone else s)
/-- RESCAN (R359); `ee`: what the EEPROM returns. -/
def execRescan (ee : List Byte) (s : State) : Host.Outcome State Fault Refusal :=
  settled (if s.running then s.lcrRescan ee else s)

end Sys2Proof.Machine
end

