-- ==== Sys2Proof/Machine/Lamp.lean ====
section
/-! DEFINITION. Lamp faults, probe passes, the pin-short test, sink calibration and lamp-board sensors (R372-R382). -/

namespace Sys2Proof.Machine

/-! ### Verdicts and the fault list (R377, R380, R381) -/

abbrev vUNKNOWN : Nat := 0
abbrev vGOOD : Nat := 1
abbrev vOPEN : Nat := 2
abbrev vLSHORT : Nat := 3
abbrev vPINSHORT : Nat := 4

/-- The record of lamp `k` = row × 3,072 + sink. -/
def State.lamp (s : State) (k : Nat) : Lamp := mget ⟨0, 0, 0, false⟩ s.lcr.lamps k
def State.setLamp (s : State) (k : Nat) (x : Lamp) : State :=
  s.lcrSet fun l => { l with lamps := mput ⟨0, 0, 0, false⟩ l.lamps k x }

/-- A fault enters the list, or is counted as unlisted, and is notified (R381, R441). -/
def State.listFault (s : State) (row sink v : Nat) : State :=
  let n : Nat := s.get LCR_FLCNT_COUNT
  let w : Nat := row % 64 + 64 * (sink % 4096) + 2 ^ 18 * v
  let s : State := if n < 1024 then (s.wr (LCR_FLIST n) (BitVec.ofNat 32 w)).set LCR_FLCNT_COUNT (n + 1)
    else s.setAll [(LCR_FLCNT_OVF, 1), (LCR_FLCNT_UNLISTED, min 65535 (s.get LCR_FLCNT_UNLISTED + 1))]
  s.notify nLAMPFLT w

/-- Slots that confirm OPEN or LSHORT; 0 is treated as 1 (R383). -/
def State.confirm (s : State) : Nat := max 1 (s.get LCR_DET_CONF)

/-- A bad slot toward verdict `v` (R377). -/
def State.badSlot (s : State) (k v : Nat) (x : Lamp) : State :=
  let n : Nat := min 15 (x.streak + 1)
  if s.confirm ≤ n && x.verdict ≠ v then
    let s : State := s.setLamp k { x with streak := n, verdict := v }
    (s.bump (if v = vOPEN then LCR_CNT_OPENS else LCR_CNT_SHORTS)).listFault (k / 3072) (k % 3072) v
  else s.setLamp k { x with streak := n }

/-- The verdict of lamp `k` after a slot with samples `b`: 1 good, 2 open, 4 shorted, 8 by a probe (R377, R379). -/
def State.judgeLamp (s : State) (k b : Nat) : State :=
  let x : Lamp := { s.lamp k with last := s.lcr.slots, probed := b.testBit 3 }
  match b % 8 with
  | 1 => s.setLamp k { x with verdict := vGOOD, streak := 0 }
  | 2 => s.badSlot k vOPEN x
  | 4 => s.badSlot k vLSHORT x
  | _ => (s.setLamp k { x with streak := 0 }).bump LCR_CNT_INTERMIT

/-- VERDICT_UPDATE (R377): every lamp sampled in the slot just ended. -/
def State.verdicts (s : State) : State :=
  let l := s.lcr.samp
  let s : State := s.lcrSet fun c => { c with slots := c.slots + 1, samp := [] }
  l.foldl (fun (s : State) x => s.judgeLamp x.1 x.2) s

/-- AGE of a lamp, slots without a sample (R377). -/
def State.lampAge (s : State) (k : Nat) : Nat := min 65535 (s.lcr.slots - (s.lamp k).last)

/-- LCR_LAMP of the selected lamp (R381, R383). -/
def State.lampWord (s : State) : Word :=
  let k : Nat := s.get LCR_LSEL_ROW * 3072 + s.get LCR_LSEL_SINK
  let x := s.lamp k
  let a := s.lampAge k
  BitVec.ofNat 32 (x.verdict + (if a = 0 then 0 else 8) + 16 * a + 2 ^ 20 * x.streak + (if x.probed then 2 ^ 24 else 0))

/-- A sample `b` of lamp `k` in the present slot. -/
def State.sampled (s : State) (k b : Nat) : State :=
  s.lcrSet fun l => { l with samp := mput 0 l.samp k (mget 0 l.samp k ||| b) }

/-- What the detector reads at a pin of `mv` mV (R376). -/
def State.pinReads (s : State) (vled mv : Nat) : Nat :=
  if mv < s.get LCR_DET_VOPEN then 2 else if vled < mv + 10 * s.get LCR_DET_VLS then 4 else 1

/-- An LCR command of a unit with a lamp side (R2). -/
def State.lcrCommand (s : State) (v : Nat) (op : State → State) : State :=
  s.command LCR_CMD v fun s => if !s.lampSide then s.lcrRefuse lrNOLAMP 0 else op s

/-- CLRFLT (R381). -/
def State.clrflt (s : State) : State :=
  s.lcrCommand 9 fun s =>
    let s : State := s.lcrSet fun l =>
      { l with lamps := l.lamps.filterMap fun x =>
                if { x.2 with verdict := vUNKNOWN } = (⟨0, 0, 0, false⟩ : Lamp) then none
                else some (x.1, { x.2 with verdict := vUNKNOWN }) }
    let s : State := (List.range (s.get LCR_FLCNT_COUNT)).foldl (fun (s : State) i => s.wr (LCR_FLIST i) 0) s
    (s.setAll [(LCR_FLCNT_COUNT, 0), (LCR_FLCNT_OVF, 0)]).setStat LCR_CMD stDONE

/-! ### Probe passes (R379) -/

/-- Lamps of the map, row × 3,072 + sink. -/
def State.mappedLamps (s : State) : List Nat :=
  s.lcr.map.flatMap fun m => (List.range 3).map fun c => m / 1024 * 3072 + 3 * (m % 1024) + c

/-- Lamps a pass would take: all, or those unverified for MINAGE slots; of scanned rows. -/
def State.probeSel (s : State) : List Nat :=
  s.mappedLamps.filter fun k =>
    decide (k / 3072 ≤ s.get LDU_GEOM0A_ROWS) &&
    (s.get LCR_PROBE_SEL = 0 || (decide (0 < s.lampAge k) && decide (s.get LCR_PROBE_MINAGE ≤ s.lampAge k)))

/-- The lamps probed, and whether some remain. -/
def State.passUpdate (s : State) (start : Nat) (todo : List Nat) (n : Nat) : State :=
  (s.lcrSet fun l => { l with pass := if todo.isEmpty then none else some (start, todo, n), lastPass := some start }).setAll
    [(LCR_PROBEST_PASS, if todo.isEmpty then 0 else 1), (LCR_PROBEST_COUNT, n / 16)]

/-- A pass starts, no sooner than 1 s after the last one started. -/
def State.passStart (s : State) : State :=
  s.passUpdate (match s.lcr.lastPass with | some t => max s.now (t + 10 ^ 9) | none => s.now) s.probeSel 0

/-- Blanking leaves 16 cycles and 60 ns for a probe. -/
def State.probeFits (s : State) : Bool :=
  let b : Nat := s.get LDU_GEOM1A_BLANK
  let d : Nat := s.get LDU_GEOM1A_DEAD
  let g := s.grid
  decide (d + 16 ≤ b ∧ 60 * (g.cyc * g.num * g.slots) ≤ (b - d) * g.den * 10 ^ 9)

/-- PROBE (R379, R383); the reason of a refusal for PER = 0 is not stated. -/
def State.lcrProbe (s : State) : State :=
  s.lcrCommand 6 fun s =>
    if !s.bit LDU_STAT_LIT then s.lcrRefuse lrSTATE 0
    else if !s.probeFits then s.lcrRefuse lrWINDOW 0
    else if s.get LCR_PROBE_PER = 0 then
      let r := s.draw
      r.2.lcrRefuse (r.1.toNat % 16) 0
    else (s.set LCR_PROBEST_REPEATING (s.get LCR_PROBE_REP)).passStart.setStat LCR_CMD stDONE

/-- PROBESTOP (R379). -/
def State.lcrProbestop (s : State) : State :=
  s.lcrCommand 7 fun s => (s.set LCR_PROBEST_REPEATING 0).setStat LCR_CMD stDONE

/-- The lamp of sink `k` in row `r` is probed with pin voltage `mv`. -/
def State.probeOne (s : State) (vled k mv : Nat) : State :=
  match s.lcr.pass with
  | some (t, todo, n) =>
    ((s.sampled k (s.pinReads vled mv + 8)).bump LCR_CNT_PROBES).passUpdate t (todo.erase k) (n + 1)
  | none => s

/-- Probes of row `r`, as the environment presents them: sink and pin voltage, one for each sink group, of lamps still
to be probed (R379). -/
def State.probeRow (s : State) (vled r : Nat) (l : List (Nat × Nat)) : State :=
  (l.foldl (fun (q : List Nat × State) x =>
    let ok := match q.2.lcr.pass with
      | some (t, todo, _) => decide (t ≤ s.now) && todo.contains (r * 3072 + x.1)
      | none => false
    if ok && decide (x.1 < 3072) && !q.1.contains (x.1 / 128) then
      (x.1 / 128 :: q.1, q.2.probeOne vled (r * 3072 + x.1) x.2)
    else q) ([], s)).2

/-! ### Pin shorts (R380) -/

/-- The pin-short test starts. -/
def State.shortStart (s : State) : State :=
  (s.set LCR_STAT_SHORTRUN 1).lcrSet fun l => { l with shortEnd := s.now + 1500000 }

/-- SHORTTEST (R380). -/
def State.lcrShorttest (s : State) : State :=
  s.lcrCommand 8 fun s =>
    if s.bit LDU_STAT_LIT then s.lcrRefuse lrSTATE 0 else s.shortStart.setStat LCR_CMD stBUSY

/-- Sinks `k` and `k` + 1 are neighbours: within one dielet. -/
def neighbours (k : Nat) : Bool := decide (k + 1 < 3072) && k ≠ 1535

/-- Sink `k` is on the fault list for a pin short. -/
def State.shortListed (s : State) (k : Nat) : Bool :=
  (List.range (s.get LCR_FLCNT_COUNT)).any fun i =>
    s.get (LCR_FLIST_SINK i) = k && s.get (LCR_FLIST_VERDICT i) = vPINSHORT

/-- A sink of a shorted pair takes verdict PINSHORT in every row, and is listed once; the row listed is not stated. -/
def State.pinShort (s : State) (k : Nat) : State :=
  let s : State := (List.range 64).foldl (fun (s : State) r =>
    s.setLamp (r * 3072 + k) { s.lamp (r * 3072 + k) with verdict := vPINSHORT }) s
  if s.shortListed k then s
  else
    let d := s.draw
    (d.2.bump LCR_CNT_PINSHORTS).listFault (d.1.toNat % 64) k vPINSHORT

/-- The test ends; `l`: sinks found shorted to the next one. -/
def State.shortDone (s : State) (l : List Nat) : State :=
  let ks := ((l.filter neighbours).flatMap fun k => [k, k + 1]).eraseDups
  let s : State := (s.set LCR_STAT_SHORTRUN 0).lcrSet fun c => { c with short := ks }
  let s : State := ks.foldl (fun (s : State) k => s.pinShort k) s
  if s.stat LCR_CMD = stBUSY && s.get LCR_CMD_OP = 8 then s.setStat LCR_CMD stDONE else s

/-- The sink is held off for a pin short. -/
def State.heldOff (s : State) (k : Nat) : Bool := s.bit LCR_CFG_SHORTOFF && s.lcr.short.contains k

/-! ### Sink calibration (R373-R375) -/

/-- Local ns of a piece, and pieces of a run. -/
abbrev pieceNs : Nat := 1600
abbrev calPieces : Nat := 48

/-- A run starts; while the lamps are dark its pieces run back to back (R374). -/
def State.calStart (s : State) : State :=
  (s.setAll [(LCR_SCALQ_RUNNING, 1), (LCR_SCALQ_PIECES, 0)]).lcrSet fun l => { l with calEnd := s.now + calPieces * pieceNs }

/-- A run that falls due: at once in interrupt mode, held in hold mode (R374). -/
def State.sinkCalDue (s : State) : State :=
  if s.bit LCR_SCALQ_RUNNING then s
  else if s.get LCR_SCAL_MODE = 1 then s.set LCR_SCALQ_STALE 1 else s.calStart

/-- The lamps light during a run: the pieces done so far (R374). -/
def State.calPause (s : State) : State :=
  if s.bit LCR_SCALQ_RUNNING then
    s.set LCR_SCALQ_PIECES (calPieces - min calPieces ((s.lcr.calEnd - s.now + pieceNs - 1) / pieceNs))
  else s

/-- The lamps turn off during a run: the rest runs back to back (R374). -/
def State.calResume (s : State) : State :=
  if s.bit LCR_SCALQ_RUNNING then
    s.lcrSet fun l => { l with calEnd := s.now + (calPieces - s.get LCR_SCALQ_PIECES) * pieceNs }
  else s

/-- Temperature of a sensor, 1/16 °C, if valid. -/
def State.tempOf (s : State) (n : Nat) : Option Int :=
  if s.bit (THM_SENS_VALID n) then some (s.getS (THM_SENS_T n)) else none

/-- LASTT after a run: the temperature both dielets read to the whole degree, else a free value (log entry 55). -/
def State.setLastT (s : State) : State :=
  match s.tempOf 24, s.tempOf 25 with
  | some a, some b =>
    if a = b ∧ a % 16 = 0 then s.set LCR_SCAL_LASTT (ofInt 8 (a / 16))
    else
      let d := s.draw
      d.2.set LCR_SCAL_LASTT (d.1.toNat % 256)
  | _, _ =>
    let d := s.draw
    d.2.set LCR_SCAL_LASTT (d.1.toNat % 256)

/-- A trim as the 12-bit field holds it: -2,047 to 2,047 (R372). -/
def trimCode (i : Int) : Nat := ofInt 12 (boundInt (-2047) 2047 i)

/-- A run completes with the trims and the residual error it found (R373, R374). -/
def State.calComplete (s : State) (trims : List Int) (resid : Nat) : State :=
  let s : State := (trims.take 3072).zipIdx.foldl (fun (s : State) x => s.set (LCR_TRIM_TARGET x.2) (trimCode x.1)) s
  let s : State := (s.setAll [(LCR_SCALQ_RESID, min 65535 resid), (LCR_SCALQ_STALE, 0), (LCR_SCALQ_RUNNING, 0),
    (LCR_SCALQ_PIECES, calPieces)]).setLastT.bump LCR_CNT_CALRUN
  if s.stat LCR_CMD = stBUSY && s.get LCR_CMD_OP = 5 then s.setStat LCR_CMD stDONE else s

/-- CAL (R374): written while a run is in progress it follows R11. -/
def State.lcrCal (s : State) : State :=
  if s.bit LCR_SCALQ_RUNNING then s.answer rBUSY
  else s.lcrCommand 5 fun s => s.calStart.setStat LCR_CMD stBUSY

/-- A dielet's temperature differs from LASTT by more than DT (R374). -/
def State.sinkCalTrigger (s : State) : Bool :=
  let far (n : Nat) : Bool := match s.tempOf n with
    | some t => decide ((16 * s.get LCR_SCAL_DT : Nat) < (t - 16 * s.getS LCR_SCAL_LASTT).natAbs)
    | none => false
  s.get LCR_SCAL_DT ≠ 0 && (far 24 || far 25)

/-- A calibration piece in a slot pad of `ns` nanoseconds; the last one completes the run (R374). -/
def State.calPiece (s : State) (ns : Nat) (trims : List Int) (resid : Nat) : State :=
  if !s.bit LCR_SCALQ_RUNNING || !s.bit LDU_STAT_LIT then s
  else if ns < 1700 then s.set LCR_SCALQ_STALE 1
  else if calPieces ≤ s.get LCR_SCALQ_PIECES + 1 then s.calComplete trims resid
  else s.set LCR_SCALQ_PIECES (s.get LCR_SCALQ_PIECES + 1)

/-- APPLIED of one sink moves toward TARGET by at most `n` steps (R375). -/
def State.trimStep (s : State) (n : Int) (k : Nat) : State :=
  let a := s.getS (LCR_TRIM_APPLIED k)
  let t := s.getS (LCR_TRIM_TARGET k)
  if a = t then s else s.set (LCR_TRIM_APPLIED k) (ofInt 12 (a + boundInt (-n) n (t - a)))

/-- Trims at a launch time: 100 steps, all of the way while no lamp is lit or nothing has been shown (R375). -/
def State.trimAll (s : State) : State :=
  let n : Int := if !s.bit LDU_STAT_LIT || !s.bit LDU_SHOW_VALID then 4096 else 100
  (List.range 3072).foldl (fun (s : State) k => s.trimStep n k) s

/-! ### Lamp-board sensors (R382) -/

/-- A reading of input `i`, 1/16 °C; `ok`: it counts. -/
def State.lbRead (s : State) (i : Nat) (t : Int) (ok : Bool) : State :=
  let s : State := s.setAll [(LCR_LBT_T i, ofInt 16 t), (LCR_LBT_VALID i, if ok then 1 else 0)]
  if ok then s else s.set LCR_STAT_SENSFAIL 1

/-- The lamp-board temperature: the highest valid enabled input, else FAILT (R382). -/
def State.lbtMax (s : State) : Int :=
  let on (i : Nat) : Bool := s.bit (LCR_LBT_VALID i) && (decide (4 ≤ i) || (s.get LCR_NTCCFG_EN).testBit i)
  (((List.range 8).filter on).map fun i => s.getS (LCR_LBT_T i)).foldl (fun (b : Option Int) t =>
    match b with | none => some t | some m => some (max m t)) none |>.getD (16 * s.get LCR_NTCCFG_FAILT)

/-- The enabled NTC inputs are converted while VDRV is in range; `l`: temperatures, 1/16 °C (R382, R527; log entry 51). -/
def State.ntcConvert (s : State) (l : List Int) : State :=
  let s : State := s.lcrSet fun c => { c with nextNtc := s.now + 10000000 }
  (l.take 4).zipIdx.foldl (fun (s : State) x =>
    if (s.get LCR_NTCCFG_EN).testBit x.2 && s.bit LDU_HV_VDRVOK then s.lbRead x.2 x.1 (decide (-640 ≤ x.1 ∧ x.1 ≤ 2400))
    else s.set (LCR_LBT_VALID x.2) 0) s

/-- The digital sensors are read; none: the read failed (R382). -/
def State.lbSensors (s : State) (l : List (Option Int)) : State :=
  let s : State := s.lcrSet fun c => { c with nextDig := s.now + 100000000 }
  (l.take 4).zipIdx.foldl (fun (s : State) x =>
    match x.1 with
    | some t => s.lbRead (4 + x.2) t true
    | none => (s.set (LCR_LBT_VALID (4 + x.2)) 0).set LCR_STAT_SENSFAIL 1) s

/-! ### Commands and events -/

/-- SINK_CAL (R374). -/
def execSinkCal (s : State) : Host.Outcome State Fault Refusal := settled (if s.running then s.lcrCal else s)
/-- SINK_CAL_DUE (R374). -/
def execSinkCalDue (s : State) : Host.Outcome State Fault Refusal :=
  settled (if s.ready && s.lampSide && s.sinkCalTrigger then s.sinkCalDue else s)
/-- SINK_CALIBRATION_RUN_END (R374): the 48 pieces ran back to back. -/
def execSinkCalibrationRunEnd (trims : List Int) (resid : Nat) (s : State) : Host.Outcome State Fault Refusal :=
  settled (if s.ready && s.bit LCR_SCALQ_RUNNING && !s.bit LDU_STAT_LIT && decide (s.lcr.calEnd ≤ s.now) then
      s.calComplete trims resid else s)
/-- PROBE (R379). -/
def execLcrProbe (s : State) : Host.Outcome State Fault Refusal := settled (if s.running then s.lcrProbe else s)
/-- PROBE_REPEAT (R379): PER seconds after the last start, once that pass is over. -/
def execProbeRepeat (s : State) : Host.Outcome State Fault Refusal :=
  settled (if s.ready && s.bit LDU_STAT_LIT && s.bit LCR_PROBEST_REPEATING && s.lcr.pass.isNone && (match s.lcr.lastPass with
      | some t => decide (t + s.get LCR_PROBE_PER * 10 ^ 9 ≤ s.now)
      | none => false) then s.passStart else s)
/-- PROBESTOP (R379). -/
def execProbestop (s : State) : Host.Outcome State Fault Refusal := settled (if s.running then s.lcrProbestop else s)
/-- SHORTTEST (R380). -/
def execShorttest (s : State) : Host.Outcome State Fault Refusal := settled (if s.running then s.lcrShorttest else s)
/-- SHORTTEST_DONE (R380); `pairs`: lower sinks of the shorted pairs. -/
def execShorttestDone (pairs : List Nat) (s : State) : Host.Outcome State Fault Refusal :=
  settled (if s.running && s.bit LCR_STAT_SHORTRUN then s.shortDone pairs else s)
/-- CLRFLT (R381). -/
def execClrflt (s : State) : Host.Outcome State Fault Refusal := settled (if s.running then s.clrflt else s)
/-- NTC_CONVERT (R382). -/
def execNtcConvert (temps : List Int) (s : State) : Host.Outcome State Fault Refusal :=
  settled (if s.ready && s.lampSide && decide (s.lcr.nextNtc ≤ s.now) then s.ntcConvert temps else s)
/-- LB_SENSOR_READ (R382). -/
def execLbSensorRead (temps : List (Option Int)) (s : State) : Host.Outcome State Fault Refusal :=
  settled (if s.ready && s.lampSide && decide (s.lcr.nextDig ≤ s.now) then s.lbSensors temps else s)

end Sys2Proof.Machine
end

