-- ==== Sys2Proof/Machine/Ldu.lean ====
section
/-! DEFINITION. The lamp drive unit: armed geometry and drive sets (R344, R353, R354), row periods (R339-R348), flip,
hold and black (R349-R351), events (R352) and lamp-side supplies (R355). -/

namespace Sys2Proof.Machine

def State.lduSet (s : State) (f : LduSt → LduSt) : State := { s with ldu := f s.ldu }

/-! ### Events (R352) -/

abbrev evSOB : Nat := 0
abbrev evLINE : Nat := 1
abbrev evSDONE : Nat := 2
abbrev evHOLD : Nat := 3
abbrev evBLACK : Nat := 4
abbrev evAPPLY : Nat := 5
abbrev evGAPPLY : Nat := 6
abbrev evHVOFF : Nat := 7

/-- Event `b` is raised, and reported if its bit of LDU_IE is set. -/
def State.lduEvent (s : State) (b : Nat) : State :=
  let s : State := s.wr LDU_EVT (s.rd LDU_EVT ||| BitVec.ofNat 32 (2 ^ b))
  if (s.rd LDU_IE).toNat.testBit b then s.notify nLDUEVT (2 ^ b) else s

/-! ### LDU_CMD (R344, R353, R354) -/

/-- LDU_CMD refused with a reason. -/
def State.lduRefuse (s : State) (r : Nat) : State := (s.set LDU_RES_REASON r).setStat LDU_CMD stREFUSED

/-- LDU_CMD `op`; without a lamp side it is refused (R340). -/
def State.lduCommand (s : State) (v : Nat) (op : State → State) : State :=
  s.command LDU_CMD v fun s => if !s.lampSide then s.lduRefuse 8 else op s

/-- The limit of R344 that shadow geometry `w0`, `w1` breaks under grid `g`, in the order of the table (log entry 54). -/
def geomBad (g : GridSet) (w0 w1 : Word) : Option Nat :=
  let n : Nat := getBits w0 0 6 + 1
  let l : Nat := getBits w0 6 3
  let stag : Nat := getBits w0 10 2
  let r : Nat := getBits w0 16 16
  let b : Nat := getBits w1 0 8
  let d : Nat := getBits w1 8 8
  let hz : Nat := g.num * g.slots
  if l = 7 then some 2
  else if b < 32 || decide (r < b + 7 * stag + 1023) then some 3
  else if g.cyc < 2 ^ l * n * r then some 4
  else if 7680 * g.den < 2 ^ l * hz then some 5
  else if d < 8 || decide (b < d + 8) || decide (d * g.den * 10 ^ 9 < 30 * (g.cyc * hz)) then some 6
  else none

/-- A GRID change is staged for an entry or a command, or waits for its boundary. -/
def State.gridChanging (s : State) : Bool :=
  s.tm.gridPend.isSome || (List.range 4).any fun i => s.bit (TMU_GSTG_W0_VALID i)

/-- ARMGEOM (R344, R353). -/
def State.armGeom (s : State) : State :=
  s.lduCommand 1 fun s =>
    if s.ldu.geom.isSome then s.lduRefuse 7
    else if s.gridChanging then s.lduRefuse 9
    else match geomBad s.grid (s.rd LDU_GEOM0) (s.rd LDU_GEOM1) with
      | some r => s.lduRefuse r
      | none => (s.lduSet fun l => { l with geom := some (s.rd LDU_GEOM0, s.rd LDU_GEOM1, s.now) }).setStat LDU_CMD stDONE

/-- ARMDRV (R354). -/
def State.armDrv (s : State) : State :=
  s.lduCommand 2 fun s =>
    if s.ldu.drv.isSome then s.lduRefuse 7
    else if s.get LDU_GEOM0A_ROWS < s.get LDU_LINE_APPLY then s.lduRefuse 1
    else if (List.range 3).any (fun c => decide (s.get (LDU_ICUR_BASE c) < 32 ∨ 1536 < s.get (LDU_ICUR_BASE c))) then
      s.lduRefuse 3
    else (s.lduSet fun l => { l with drv := some s.now }).setStat LDU_CMD stDONE

/-- DISARM (R353). -/
def State.lduDisarm (s : State) : State :=
  s.lduCommand 3 fun s => (s.lduSet fun l => { l with geom := none, drv := none }).setStat LDU_CMD stDONE

/-- ARMGEOM (R344). -/
def execArmgeom (s : State) : Host.Outcome State Fault Refusal := settled (if s.running then s.armGeom else s)
/-- ARMDRV (R354). -/
def execArmdrv (s : State) : Host.Outcome State Fault Refusal := settled (if s.running then s.armDrv else s)
/-- DISARM (R353). -/
def execLduDisarm (s : State) : Host.Outcome State Fault Refusal := settled (if s.running then s.lduDisarm else s)

/-! ### Currents (R339, R499) -/

/-- The stop factor `t` ns after an orderly stop began (R499). -/
def stopFactor (t : Nat) : Nat := 65536 * (200000000 - t) / 200000000

/-- STOPF at a row start: 1.0 outside an orderly stop. -/
def State.stopf (s : State) : Nat :=
  match s.thm.stopAt with
  | some t => stopFactor (s.now - t)
  | none => 65536

/-- I_c and F_c from BASE and K (R339). -/
def current (base k : Nat) : Nat × Nat :=
  let t := base * k
  if 32 * 65536 ≤ t then (t / 65536, 65536) else (32, t / 32)

/-- Currents at a row start (R339). -/
def State.setCurrents (s : State) : State :=
  let f := s.stopf
  let s : State := s.set THM_STAT_STOPF f
  let k : Nat := s.get LDU_SCALE_SCALE * f / 65536
  (List.range 3).foldl (fun (s : State) c =>
    let x := current (s.get (LDU_ICURA_BASE c)) k
    s.setAll [(LDU_ICURA_IC c, x.1), (LDU_FFAC_F c, x.2)]) s

/-! ### Light (R340, R355) -/

/-- The conditions under which sinks conduct and gates switch, with a lamp map (R340, R364) and a position in range. -/
def State.mayLight (s : State) : Bool :=
  s.power = psSHOW && s.gridRuns && s.ldu.hvOk && s.bit LDU_HV_VLEDOK && s.bit LDU_HV_VDRVOK && s.bit LDU_HV_VGATEOK &&
  !s.bit THM_STAT_TRIPPED && !s.bit LCR_STAT_NOMAP && !s.bit SKD_TILE_STAT_OVER && s.lampSide

/-- The lamps turn off (R340). -/
def State.unlight (s : State) : State :=
  if s.bit LDU_STAT_LIT then (((s.set LDU_STAT_LIT 0).lduSet fun l => { l with on := [] }).calResume) else s

/-- Lamp-side supplies at a row start: VLED in mV, and whether VDRV and VGATE are in range (R355). -/
def State.hvSense (s : State) (vled : Nat) (vdrv vgate : Bool) : State :=
  let v : Bool := decide (2600 ≤ vled ∧ vled ≤ 9000)
  let s : State := s.setAll [(LDU_HV_VLED, min 16383 vled), (LDU_HV_VLEDOK, if v then 1 else 0),
    (LDU_HV_VDRVOK, if vdrv then 1 else 0), (LDU_HV_VGATEOK, if vgate then 1 else 0)]
  if v && vdrv && vgate then
    (s.set LDU_STAT_HVOFF 0).lduSet fun l =>
      { l with hvSince := if l.hvOk then none else some (l.hvSince.getD s.now) }
  else
    let first := !s.bit LDU_STAT_HVOFF
    let s : State := (s.set LDU_STAT_HVOFF 1).lduSet fun l => { l with hvOk := false, hvSince := none }
    if first then ((s.set LDU_STAT_HVFLT 1).bump LDU_CNT_HVOFF).lduEvent evHVOFF else s

/-- HV_RECOVER (R355): in range for 10 ms. -/
def execHvRecover (s : State) : Host.Outcome State Fault Refusal :=
  settled (if s.running && (match s.ldu.hvSince with | some t => decide (t + 10000000 ≤ s.now) | none => false) then
      s.lduSet (fun l => { l with hvOk := true, hvSince := none }) else s)

/-! ### Segment dispersion (R347) -/

/-- On-time and residue after it, from an LD16 value, F_c and the residue before it (R347). -/
def onTime (v f a : Nat) : Nat × Nat :=
  let x : Nat := a + (v - v / 1024) * f / 65536
  (x / 64, x % 64)

/-- The LD16 value of sink `k` in row `r` of the shown buffer (R341). -/
def State.lampValue (s : State) (r k : Nat) : Nat :=
  s.half (scanBase + s.get LDU_SHOW_BUF * 0x60000 + (r * 3072 + k) * 2)

/-- The residue of sink `k` in row `r`. -/
def State.residue (s : State) (r k : Nat) : Nat := (s.byte (residueBase + r * 3072 + k)).toNat

/-- Every residue takes its seed (R347). -/
def State.residueReset (s : State) : State :=
  let sp : Bool := s.bit LDU_GEOM0A_SPREAD
  { s with
    mem := s.mem.filter fun x => decide (x.1 < residueBase ∨ residueEnd ≤ x.1)
    memc := { s.memc with seed := sp } }

/-- The on-times of row `r`, for the sinks that have any; every residue of the row advances (R347). -/
def State.rowTimes (s : State) (r : Nat) : List (Nat × Nat) × State :=
  (List.range 3072).foldl (fun (q : List (Nat × Nat) × State) k =>
    let x := onTime (q.2.lampValue r k) (q.2.get (LDU_FFAC_F (k % 3))) (q.2.residue r k)
    (if 0 < x.1 then q.1 ++ [(k, x.1)] else q.1, q.2.putByte (residueBase + r * 3072 + k) (BitVec.ofNat 8 x.2))) ([], s)

/-- Row period `n` of a slot: the reset of a segment with m mod 64 = 0, then the on-times; in black and while no lamp
is lit every on-time is 0 and no residue moves (R347). -/
def State.rowPeriod (s : State) (c : Scan) (n : Nat) : List (Nat × Nat) × State :=
  let s : State := if n % c.rows = 0 && (c.j * c.segs + n / c.rows) % 64 = 0 then s.residueReset else s
  if s.bit LDU_STAT_LIT && s.bit LDU_SHOW_VALID && !s.bit LDU_SHOW_BLACK then s.rowTimes (n % c.rows) else ([], s)

/-- Row periods `n` on, `m` of them, that the end of the slot cuts off: the residues advance (R549). -/
def State.cutRows (s : State) (c : Scan) (n : Nat) : Nat → State
  | 0 => s
  | m + 1 => ((s.rowPeriod c n).2).cutRows c (n + 1) m

/-! ### Row start (R346) -/

/-- A channel of which nothing has been sampled. -/
def chan0 : Chan := ⟨[0, 0, 0, 0], 0, 1, none, none, 0, 0, 0, 0⟩
/-- Channel `c` of the loop engine. -/
def State.lpeChan (s : State) (c : Nat) : Chan := mget chan0 s.lpe.chans c
def State.setLpeChan (s : State) (c : Nat) (x : Chan) : State :=
  { s with lpe := { s.lpe with chans := mput chan0 s.lpe.chans c x } }

/-- A sink pin voltage enters the headroom of every channel's sample period (R390). -/
def State.headroom (s : State) (mv : Nat) : State :=
  let s : State := (List.range 16).foldl (fun (s : State) c =>
    let x := s.lpeChan c
    s.setLpeChan c { x with hdrm := some (match x.hdrm with | some m => min m mv | none => mv) }) s
  { s with lpe := { s.lpe with seen := true } }

/-- `e` cycles of grid `g` cover 120 ns (R376). -/
def covers (g : GridSet) (e : Nat) : Bool := decide (120 * (g.cyc * g.num * g.slots) ≤ e * g.den * 10 ^ 9)

/-- The pin voltage of sink `k`: listed, or the common one. -/
def pinOf (mv : Nat) (l : List (Nat × Nat)) (k : Nat) : Nat :=
  match l.find? (fun x => x.1 = k) with | some x => x.2 | none => mv

/-- The detector sample of a sink that conducts in row `r` (R376, R378). -/
def State.sampleSink (s : State) (vled r k mv : Nat) : State :=
  let b := s.pinReads vled mv
  let s : State := s.sampled (r * 3072 + k) b
  if b = 2 || (s.lamp (r * 3072 + k)).verdict = vOPEN then s else s.headroom mv

/-- The drive set armed becomes active at row APPLY of a segment that starts 2 us or more after the ARM (R354). -/
def State.drvApply (s : State) (c : Scan) (n : Nat) : State :=
  let seg : Nat := c.at0 + cyclesTime c.grid (n / c.rows * c.rows * c.rcyc)
  match s.ldu.drv with
  | some t =>
    if n % c.rows = s.get LDU_LINE_APPLY ∧ t + 2000 + (s.tm.wall - seg) / wNs ≤ s.now then
      let s : State := (List.range 3).foldl (fun (s : State) i => s.set (LDU_ICURA_BASE i) (s.get (LDU_ICUR_BASE i))) s
      ((s.wr LDU_DRVA (s.rd LDU_DRV)).lduSet fun l => { l with drv := none }).lduEvent evAPPLY
    else s
  | none => s

/-- A dielet whose row transfer failed (R356). -/
def State.dielink (s : State) (fail : Bool) : State :=
  if fail then (s.set LDU_STAT_DLKERR 1).bump LDU_CNT_DLKERR else s

/-- What a row start measures and is told by its surroundings: VLED in mV, VDRV and VGATE in range, failed transfers to
dielets A and B, the sink pin voltage in mV with the sinks that differ from it, and the probes made. -/
def State.rowStart (s : State) (c : Scan) (vled : Nat) (vdrv vgate failA failB : Bool) (mv : Nat) (pins probes : List (Nat × Nat)) :
    State :=
  let n := c.row
  let r := n % c.rows
  let s : State := s.hvSense vled vdrv vgate
  let s : State := s.drvApply c n
  let s : State := if s.mayLight then s else s.unlight
  let s : State := s.setCurrents
  let line := !c.line && s.get LDU_LINE_MATCH = r && s.get LDU_LINE_MSEG = n / c.rows
  let s : State := if line then s.lduEvent evLINE else s
  let q := s.rowPeriod c n
  let s : State := (q.2.dielink failA).dielink failB
  let on := q.1.filter fun x => !(if x.1 < 1536 then failA else failB) && !s.heldOff x.1
  let s : State := s.lduSet fun l => { l with cur := some { c with row := n + 1, line := c.line || line }, on := on }
  let s : State := if s.bit LDU_STAT_LIT then s.probeRow vled r probes else s
  on.foldl (fun (s : State) x => if covers c.grid x.2 then s.sampleSink vled r x.1 (pinOf mv pins x.1) else s) s

/-- Wall time of row period `n` (R345). -/
def Scan.rowAt (c : Scan) (n : Nat) : Nat := c.at0 + cyclesTime c.grid (n * c.rcyc)

/-- The scan start of slot `j` under the present grid, and the phase offset then in force (R549). -/
def State.scanOf (s : State) (j : Nat) : Nat :=
  scanStart s.grid j (match s.tm.phaseNew with
    | some (p, k) => if k ≤ j then p else s.get TMU_PHASE_P
    | none => s.get TMU_PHASE_P)

/-- A new phase offset is in force from the launch time it waits for, before the scan start of that slot (R549). -/
def State.phaseInForce (s : State) : State :=
  match s.tm.phaseNew with
  | some (p, k) =>
    if launchTime s.grid k ≤ s.tm.wall then (s.set TMU_PHASE_P p).tmSet fun t => { t with phaseNew := none } else s
  | none => s

/-- A grid change takes effect at or before the next launch time of the present grid (R51). -/
def State.gridFirst (s : State) : Bool :=
  match s.tm.gridPend with
  | some (g, j) => decide (launchTime g j ≤ launchTime s.grid s.tm.nextJ)
  | none => false

/-- The launch time of the next slot has come: it is launched, though its scan start may lie ahead (R50, R549). -/
def State.launchedNext (s : State) : Bool :=
  s.running && s.gridRuns && decide (launchTime s.grid s.tm.nextJ ≤ s.tm.wall) && !s.gridFirst

/-- Where the slot being scanned ends: the next scan start. -/
def State.nextScan (s : State) : Nat :=
  match s.tm.gridPend with
  | some (g, j) => if s.gridFirst then scanStart g j (s.get TMU_PHASE_P % max 1 g.cyc) else s.scanOf s.tm.nextJ
  | none => s.scanOf s.tm.nextJ

/-- ROW_START (R346): the next row period of the slot being scanned has come. -/
def execRowStart (vled : Nat) (vdrv vgate failA failB : Bool) (mv : Nat) (pins probes : List (Nat × Nat)) (s : State) :
    Host.Outcome State Fault Refusal :=
  settled <| match s.ldu.cur with
    | some c =>
      if s.running && s.gridRuns && decide (c.row < c.rows * c.segs) && decide (c.rowAt c.row ≤ s.tm.wall) &&
          decide (c.rowAt c.row < s.nextScan) then
        s.rowStart c vled vdrv vgate failA failB mv pins probes
      else s
    | none => s

/-- Wall time of the start of the slot pad, or of the last cycle of the slot when there is none (R352). -/
def Scan.padAt (c : Scan) : Nat := c.at0 + cyclesTime c.grid (min (c.rows * c.segs * c.rcyc) (c.grid.cyc - 1))

/-- The slot pad starts: SOB, gates and sinks off, a calibration piece (R345, R352, R374). -/
def State.slotPad (s : State) (c : Scan) (trims : List Int) (resid : Nat) : State :=
  let s : State := (s.lduEvent evSOB).lduSet fun l => { l with cur := some { c with pad := true }, on := [] }
  s.calPiece (if c.rows * c.segs * c.rcyc < c.grid.cyc then (s.nextScan - c.padAt) / wNs else 0) trims resid

/-- SLOT_PAD_START (R352); `trims`, `resid`: what a calibration run that ends here finds. -/
def execSlotPadStart (trims : List Int) (resid : Nat) (s : State) : Host.Outcome State Fault Refusal :=
  settled <| match s.ldu.cur with
    | some c =>
      if s.running && s.gridRuns && !c.pad && decide (c.padAt ≤ s.tm.wall) && decide (c.padAt < s.nextScan) then
        s.slotPad c trims resid
      else s
    | none => s

/-! ### Launch (R349-R353, R375, R377) -/

/-- The slot being scanned ends: rows not scanned, SDONE (R352, R549). -/
def State.scanEnd (s : State) : State :=
  match s.ldu.cur with
  | some c =>
    let s : State := s.cutRows c c.row (c.rows * c.segs - c.row)
    ((s.lduSet fun l => { l with cur := none, on := [] }).bump LDU_CNT_SLOTS).lduEvent evSDONE
  | none => s

/-- An armed geometry becomes active 10 us or more after its ARM (R353). -/
def State.geomApply (s : State) : State :=
  match s.ldu.geom with
  | some (a, b, t) =>
    if t + 10000 ≤ s.now then
      (((s.wr LDU_GEOM0A a).wr LDU_GEOM1A b).lduSet fun l => { l with geom := none }).lduEvent evGAPPLY
    else s
  | none => s

/-- A FLIP takes effect (R349). -/
def State.flipTo (s : State) (q b : Nat) : State :=
  (s.setAll [(LDU_SHOW_SEQ, q), (LDU_SHOW_BUF, b), (LDU_SHOW_VALID, 1), (LDU_SHOW_BLACK, 0), (LDU_SHOW_HCNT, 1)]).bump
    LDU_CNT_FLIPS

/-- A launch time without a FLIP: hold, and black after HOLDMAX launch times (R350, R351). -/
def State.holdSlot (s : State) : State :=
  if !s.bit LDU_SHOW_VALID then s
  else
    let h : Nat := s.get LDU_SHOW_HCNT
    let m : Nat := s.get LDU_HOLD_HOLDMAX
    let s : State := (s.bump LDU_CNT_HOLDS).lduEvent evHOLD
    let s : State := if m ≠ 0 && decide (m ≤ h) && !s.bit LDU_SHOW_BLACK then
      ((s.set LDU_SHOW_BLACK 1).bump LDU_CNT_BLACKS).lduEvent evBLACK else s
    s.set LDU_SHOW_HCNT (min 255 (h + 1))

/-- The last FLIP executed for slot `j` stands (R349). -/
def State.flipOrHold (s : State) (j : Nat) : State :=
  let l := (s.ldu.flips.filter fun x => decide (x.1 ≤ j)).getLast?
  let s : State := s.lduSet fun d => { d with flips := d.flips.filter fun x => decide (j < x.1) }
  match l with
  | some (_, q, b) => s.flipTo q b
  | none => s.holdSlot

/-- A set that waits for its launch time is selected (R364). -/
def State.autoSet (s : State) : State :=
  match s.lcr.auto with
  | some (n, t) => if t ≤ s.now then
      (if (s.get LCR_SETS_STAGED).testBit n then s.selectSet n else s.lcrSet fun l => { l with auto := none }) else s
  | none => s

/-- Lamps light at a launch time (R340, R355, R490). -/
def State.lightUp (s : State) : State :=
  if !s.bit LDU_STAT_LIT && s.mayLight && decide (s.ldu.showAt ≤ s.now) then s.calPause.set LDU_STAT_LIT 1 else s

/-- Scan-out at the launch of slot `j`. -/
def State.lduLaunch (s : State) (j : Nat) : State :=
  if !s.lampSide then s
  else
    let at0 := s.scanOf j
    let s : State := s.scanEnd
    let s : State := s.verdicts
    let s : State := s.geomApply
    let s : State := s.flipOrHold j
    let s : State := s.trimAll
    let s : State := s.autoSet
    let s : State := s.lightUp
    s.lduSet fun l => { l with cur := some ⟨j, at0, s.grid, s.get LDU_GEOM0A_ROWS + 1, 2 ^ s.get LDU_GEOM0A_SEGL,
      s.get LDU_GEOM0A_RCYC, 0, false, false⟩ }

/-- The launch of the next slot: the launch tick, a new phase offset, scan-out (R50, R349, R549). -/
def State.launch (s : State) : State :=
  let j := s.tm.nextJ
  let s : State := (s.wr TMU_LAUNCH_L (BitVec.ofNat 32 j)).wr TMU_LAUNCH_H (BitVec.ofNat 32 (j / 2 ^ 32))
  let s : State := s.lduLaunch j
  let s : State := match s.tm.phaseNew with
    | some (p, k) => if k ≤ j then (s.set TMU_PHASE_P p).tmSet fun t => { t with phaseNew := none } else s
    | none => s
  s.tmSet fun t => { t with nextJ := j + 1 }

end Sys2Proof.Machine
end

