-- ==== Sys2Proof/Machine/Lpe.lean ====
section
/-! DEFINITION. The loop engine: Q16.16 arithmetic (R385), samples (R386-R395), the profile generator (R397-R400),
launched ramps and modes (R401). -/

namespace Sys2Proof.Machine

def State.lpeSet (s : State) (f : LpeSt → LpeSt) : State := { s with lpe := f s.lpe }

/-! ### Numbers (R385) -/

/-- A value bounded to Q16.16; the state counts the bounds that applied. -/
def qb (v : Int) : StateM Nat Int := fun n => (boundInt (-2147483648) 2147483647 v,
  if -2147483648 ≤ v ∧ v ≤ 2147483647 then n else n + 1)
def qadd (a b : Int) : StateM Nat Int := qb (a + b)
def qsub (a b : Int) : StateM Nat Int := qb (a - b)
/-- Products round to nearest, ties away from zero. -/
def qmul (a b : Int) : StateM Nat Int := qb (roundDiv (a * b) 65536)

/-- A register read as Q16.16. -/
def State.q (s : State) (a : Nat) : Int := (s.rd a).toInt
/-- A register that holds a Q16.16 value. -/
def State.wq (s : State) (a : Nat) (v : Int) : State := s.wr a (BitVec.ofNat 32 (ofInt 32 v))

/-! ### Inputs (R389, R390) -/

/-- Millivolts in volts, Q16.16 (log entry 59). -/
def voltQ (mv : Nat) : Int := roundDiv (mv * 65536 : Nat) 1000
/-- 1/16 °C in °C, Q16.16. -/
def degQ (t : Int) : Int := t * 4096

/-- The value of source `i` for channel `c` (R389). -/
def State.lpeInput (s : State) (c i : Nat) : Int :=
  match i with
  | 1 => voltQ (s.get LPE_STAT_HDRM)
  | 2 => degQ s.lbtMax
  | 3 => degQ (max (s.getS (THM_SENS_T 24)) (s.getS (THM_SENS_T 25)))
  | 4 => voltQ (s.get LDU_HV_VLED)
  | 5 => degQ (toInt 16 (s.get THM_MAX_T))
  | 6 => s.q (LPE_CH_OUT (s.get (LPE_CH_CFG_INCH c)))
  | 7 => s.q (LPE_CH_HIN c)
  | _ => 0

/-- The lowest-numbered channel whose IN is 1 (R390). -/
def State.hdrmChan (s : State) : Option Nat := (List.range 16).find? fun c => s.get (LPE_CH_CFG_IN c) = 1

/-- LPE_STAT.HDRSTALE (R390). -/
def State.hdrStale (s : State) : Bool :=
  !s.lpe.seen || (match s.hdrmChan with | some c => (s.lpeChan c).hdrm.isNone | none => false)

/-- The headroom measured in the sample period of channel `c`, taken for its sample: whether there is a new value. -/
def State.takeHeadroom (s : State) (c : Nat) : Bool × State :=
  let x := s.lpeChan c
  let s' : State := s.setLpeChan c { x with hdrm := none }
  match x.hdrm with
  | some m => (true, if s.get (LPE_CH_CFG_IN c) = 1 then s'.set LPE_STAT_HDRM (min 65535 m) else s')
  | none => (false, s')

/-! ### Profile generator (R397-R401); exact (log entry 57) -/

/-- Stopping travel S(v, a) from v ≥ 0 lies within `room` (R397). -/
def stopFits (v a al jl room : Rat) : Bool :=
  let t : Rat := (if a < 0 then -a else a) / jl
  let w : Rat := v + a * a / (2 * jl)
  let jt : Rat := jl * t * t * t / 6
  let room : Rat := room - (if a < 0 then jt - w * t else v * t + a * t * t / 2 - jt)
  if al * al / jl ≤ w then decide (w * (w / (2 * al) + al / (2 * jl)) ≤ room)
  else decide (0 ≤ room) && decide (w * w * w / jl ≤ room * room)

/-- Units of x, v and a in a unit of the channel. -/
abbrev unitX : Nat := 65536 * (6 * 10 ^ 15)
abbrev unitV : Nat := 65536 * (2 * 10 ^ 10)
abbrev unitA : Nat := 65536 * 10 ^ 5

/-- A step with jerk `j` (Q16.16) over `n` times 10 us: a', v' and dx in the frame in which the target lies ahead. -/
def profStep (v a j : Int) (n : Nat) (vl al : Int) : Int × Int × Int :=
  let a1 := boundInt (-al * 10 ^ 5) (al * 10 ^ 5) (a + j * n)
  (a1, boundInt (-vl * (2 * 10 ^ 10)) (vl * (2 * 10 ^ 10)) (v + (a + a1) * n), 3 * v * n + (2 * a + a1) * n * n)

/-- The step keeps the velocity limit and the stop (R397). -/
def profOk (q : Int × Int × Int) (d vl al jl : Int) : Bool :=
  let a : Rat := (q.1 : Rat) / unitA
  let v : Rat := (q.2.1 : Rat) / unitV
  let vlr : Rat := (vl : Rat) / 65536
  let alr : Rat := (al : Rat) / 65536
  let jlr : Rat := (jl : Rat) / 65536
  (decide (q.1 ≤ 0) || decide (v + a * a / (2 * jlr) ≤ vlr)) &&
  (decide (q.2.1 < 0) || stopFits v a alr jlr ((d - q.2.2 : Int) / (unitX : Rat)))

/-- The first of +J, 0, -J that keeps the stop reachable, else -J (R397). -/
def profPick (v a d : Int) (n : Nat) (vl al jl : Int) : Int × Int × Int :=
  match [jl, 0, -jl].find? (fun j => profOk (profStep v a j n vl al) d vl al jl) with
  | some j => profStep v a j n vl al
  | none => profStep v a (-jl) n vl al

/-- An exact position as it reads. -/
def profRead (unit : Nat) (v : Int) : Int := roundDiv v (unit / 65536)

/-- The generator's state written back, with the bounds of R385 counted. -/
def State.profPut (s : State) (c : Nat) (x v a side : Int) (done : Bool) : State :=
  let m := profRead unitX x
  let sat := decide (m < -2147483648 ∨ 2147483647 < m)
  let xb : Int := if sat then boundInt (-2147483648) 2147483647 m * (6 * 10 ^ 15) else x
  let s : State := s.setLpeChan c { s.lpeChan c with x := xb, v := v, a := a, side := side }
  let s : State := ((s.wq (LPE_PROF_X c) (profRead unitX xb)).wq (LPE_PROF_VEL c) (profRead unitV v)).wq (LPE_PROF_ACC c)
    (profRead unitA a)
  let s : State := s.set (LPE_PROF_DONE c) (if done then 1 else 0)
  if sat then (s.set (LPE_CH_SAT c) 1).bump (LPE_CH_SATCNT c) else s

/-- The distance beyond the target (R399). -/
def State.overshoot (s : State) (c : Nat) (d : Int) : State :=
  let o := (profRead unitX (d.natAbs : Int)).toNat
  s.setAll [(LPE_PROF_OVS c, min (2 ^ 24 - 1) (max o (s.get (LPE_PROF_OVS c)))), (LPE_PROF_OVSF c, 1)]

/-- A RAMP entry is loaded at the sample (R401); limits of zero or below are not taken (log entry 58). -/
def State.rampLoad (s : State) (c : Nat) : State :=
  let x := s.lpeChan c
  match x.ramp with
  | none => s
  | some i =>
    let s : State := (s.setLpeChan c { x with ramp := none, side := 0 }).wr (LPE_PROF_TGT c) (s.rd (LPE_TGT i 0))
    let s : State := if 0 < s.q (LPE_TGT i 1) ∧ 0 < s.q (LPE_TGT i 2) ∧ 0 < s.q (LPE_TGT i 3) then
      ((s.wr (LPE_PROF_V c) (s.rd (LPE_TGT i 1))).wr (LPE_PROF_AL c) (s.rd (LPE_TGT i 2))).wr (LPE_PROF_JL c) (s.rd (LPE_TGT i 3))
      else s
    s.setAll [(LPE_TGT_W0_VALID i, 0), (LPE_TGT_W0_HELD i, 0)]

/-- New limits are adopted once v and a lie within them (R400). -/
def State.limitLoad (s : State) (c : Nat) : State :=
  let x := s.lpeChan c
  if s.rd (LPE_PROF_V c) = s.rd (LPE_PROF_VA c) ∧ s.rd (LPE_PROF_AL c) = s.rd (LPE_PROF_AA c) ∧
      s.rd (LPE_PROF_JL c) = s.rd (LPE_PROF_JA c) then s.set (LPE_PROF_LIMPEND c) 0
  else if (x.v.natAbs : Int) ≤ s.q (LPE_PROF_V c) * (2 * 10 ^ 10) ∧ (x.a.natAbs : Int) ≤ s.q (LPE_PROF_AL c) * 10 ^ 5 then
    (((s.wr (LPE_PROF_VA c) (s.rd (LPE_PROF_V c))).wr (LPE_PROF_AA c) (s.rd (LPE_PROF_AL c))).wr (LPE_PROF_JA c)
      (s.rd (LPE_PROF_JL c))).set (LPE_PROF_LIMPEND c) 0
  else s.set (LPE_PROF_LIMPEND c) 1

/-- The generator's step of a sample (R397). -/
def State.profile (s : State) (c : Nat) : State :=
  let s : State := (s.rampLoad c).limitLoad c
  let x := s.lpeChan c
  let tgt := s.q (LPE_PROF_TGT c) * (6 * 10 ^ 15)
  let vl := s.q (LPE_PROF_VA c)
  let al := s.q (LPE_PROF_AA c)
  let jl := s.q (LPE_PROF_JA c)
  let n := x.per
  let sg : Int := if tgt < x.x then -1 else 1
  let d := (tgt - x.x) * sg
  if d < 6 * jl * n * n * n ∧ x.v.natAbs < 2 * jl.natAbs * n * n ∧ x.a.natAbs ≤ jl.natAbs * n then s.profPut c tgt 0 0 0 true
  else
    let q := profPick (x.v * sg) (x.a * sg) d n vl al jl
    let x1 := x.x + sg * q.2.2
    let d1 := tgt - x1
    let side : Int := if d1 = 0 then 0 else if d1 * sg < 0 then (if d1 < 0 then -1 else 1)
      else if x.side ≠ 0 ∧ 0 < d1 * x.side then x.side else 0
    let s : State := s.profPut c x1 (sg * q.2.1) (sg * q.1) side false
    if side ≠ 0 then s.overshoot c d1 else s

/-! ### A sample (R388, R392-R395) -/

/-- Modes (R392). -/
abbrev lmOFF : Nat := 0
abbrev lmMANUAL : Nat := 1
abbrev lmFEED : Nat := 2
abbrev lmPIA : Nat := 3
abbrev lmPIB : Nat := 4

/-- The coefficient set of a mode: KP, KI, OMIN, OMAX (R392). -/
def State.coefs (s : State) (c m : Nat) : Int × Int × Int × Int :=
  if m = lmPIB then (s.q (LPE_CH_KPB c), s.q (LPE_CH_KIB c), s.q (LPE_CH_OMINB c), s.q (LPE_CH_OMAXB c))
  else (s.q (LPE_CH_KPA c), s.q (LPE_CH_KIA c), s.q (LPE_CH_OMINA c), s.q (LPE_CH_OMAXA c))

/-- The integrator of a mode. -/
def Chan.int (x : Chan) (m : Nat) : Int := lget 0 x.integ (m - 1)

/-- What a controller gives: y0, the integrator, LIM, HOSAT. -/
structure Ctl where
  y0  : Int
  i   : Int
  lim : Bool
  ho  : Bool

/-- The hand-over to mode `m`: y_p bounded, the integrator preloaded so that u equals it (R394). -/
def handOver (m : Nat) (yp r e man : Int) (k : Int × Int × Int × Int) : StateM Nat Ctl := do
  let lo := min k.2.2.1 k.2.2.2
  let y := boundInt lo k.2.2.2 yp
  let p ← if m = lmMANUAL then pure man else if m = lmFEED then pure r else qmul k.1 e
  let i ← qsub y p
  pure ⟨y, i, decide (k.2.2.2 < k.2.2.1), decide (y ≠ yp)⟩

/-- A controller's step (R392, R393): I of MANUAL and FEED moves toward 0 by at most `st`. -/
def control (m : Nat) (i r e man st : Int) (k : Int × Int × Int × Int) : StateM Nat Ctl := do
  let lo := min k.2.2.1 k.2.2.2
  if m = lmPIA ∨ m = lmPIB then
    let ki ← qmul k.2.1 e
    let i1 ← qadd i ki
    let kp ← qmul k.1 e
    let u ← qadd kp i1
    let y := boundInt lo k.2.2.2 u
    pure ⟨y, if y = u then i1 else i, decide (y ≠ u ∨ k.2.2.2 < k.2.2.1), false⟩
  else
    let i1 := if 0 < i then i - min st i else i + min st (-i)
    let u ← qadd (if m = lmMANUAL then man else r) i1
    let y := boundInt lo k.2.2.2 u
    pure ⟨y, i1, decide (y ≠ u ∨ k.2.2.2 < k.2.2.1), false⟩

/-- Filter and Error (R388): f and e from the input, the previous f and the reference. -/
def filterError (filt neg : Bool) (alpha x f r : Int) : StateM Nat (Int × Int) := do
  let f1 ← if filt then (do let d ← qsub x f; let p ← qmul alpha d; qadd f p) else pure x
  let e ← if neg then qsub f1 r else qsub r f1
  pure (f1, e)

/-- Combine (R388). -/
def combine (comb : Nat) (y o : Int) : StateM Nat Int :=
  match comb with
  | 1 => pure (min y o)
  | 2 => qmul y o
  | _ => pure y

/-- RATE × Ts, at least 0 (R392). -/
def rateTs (rate : Int) (per : Nat) : StateM Nat Int := do
  let p ← qb (roundDiv (rate * per) 100000)
  pure (max 0 p)

/-- The stages from Filter to Combine: f, e, what the controller gives, y. -/
def State.stages (s : State) (c : Nat) : StateM Nat (Int × Int × Ctl × Int) := do
  let x := s.lpeChan c
  let r := if s.bit (LPE_CH_CFG_REFSRC c) then s.q (LPE_PROF_X c) else s.q (LPE_CH_REF c)
  let fe ← filterError (s.bit (LPE_CH_CFG_FILT c)) (s.bit (LPE_CH_CFG_NEG c)) (s.q (LPE_CH_ALPHA c))
    (s.lpeInput c (s.get (LPE_CH_CFG_IN c))) (s.q (LPE_CH_IN c)) r
  let m := s.get (LPE_CH_MODE_REQ c)
  let k := s.coefs c m
  let st ← rateTs (s.q (LPE_CH_RATE c)) x.per
  let g ← if m = lmOFF then pure ⟨x.y0, 0, false, false⟩
    else if m = s.get (LPE_CH_CUR c) then control m (x.int m) r fe.2 (s.q (LPE_CH_MAN c)) st k
    else handOver m x.y0 r fe.2 (s.q (LPE_CH_MAN c)) k
  let y ← combine (s.get (LPE_CH_CFG_COMB c)) g.y0 (s.q (LPE_CH_OUT (s.get (LPE_CH_CFG_CMBCH c))))
  pure (fe.1, fe.2, g, y)

/-- MODE_HANDOVER and the mode in force (R394, R395). -/
def State.setMode (s : State) (c m : Nat) : State :=
  if s.get (LPE_CH_CUR c) = m then s
  else (s.setAll [(LPE_CH_CUR c, m), (LPE_CH_MODE_CUR c, m)]).bump (LPE_CH_HOCNT c)

/-- The stages run, and their results kept. -/
def State.runStages (s : State) (c : Nat) : State :=
  let r := s.stages c 0
  let f := r.1.1
  let e := r.1.2.1
  let g := r.1.2.2.1
  let m := s.get (LPE_CH_MODE_REQ c)
  let x := s.lpeChan c
  let s : State := s.setMode c m
  let s : State := s.setLpeChan c { x with y0 := g.y0, integ := if m = lmOFF then x.integ else lset x.integ (m - 1) g.i }
  let s : State := (((s.wq (LPE_CH_IN c) f).wq (LPE_CH_ERR c) e).wq (LPE_CH_INTEG c) (if m = lmOFF then 0 else g.i)).wq
    (LPE_CH_OUT c) r.1.2.2.2
  let s : State := if g.lim then s.set (LPE_CH_LIM c) 1 else s
  let s : State := if g.ho then s.set (LPE_CH_HOSAT c) 1 else s
  if r.2 = 0 then s else (s.set (LPE_CH_SAT c) 1).bumpN (LPE_CH_SATCNT c) r.2

/-- The output of channel `c`, delivered at wall time `w` to its destination, bounded (R391). -/
def State.lpeOut (s : State) (c w : Nat) : State :=
  let d := s.get (LPE_CH_CFG_DEST c)
  if d = 1 ∨ d = 2 then s.lpeSet fun l => { l with outs := l.outs ++ [(w, d, boundInt 0 65536 (s.q (LPE_CH_OUT c)))] } else s

/-- The sample of channel `c` at instant `t` (R388): with no new input the channel holds. -/
def State.lpeChannel (s : State) (t c : Nat) : State :=
  let s : State := s.profile c
  let q := s.takeHeadroom c
  let stale := s.get (LPE_CH_CFG_IN c) = 1 && !q.1
  let s : State := q.2.set (LPE_CH_INSTALE c) (if stale then 1 else 0)
  let s : State := if stale then s else s.runStages c
  (s.setLpeChan c { s.lpeChan c with per := s.get (LPE_CH_SPER_SPER c) }).lpeOut c (t + 5000 * wNs)

/-- The loop engine evaluates channels (R384). -/
def State.lpeRuns (s : State) : Bool := s.ready && s.bit LPE_STAT_RUNNING

/-- The channels due at the next instant, in ascending order (R386). -/
def State.lpeSample (s : State) : State :=
  let t := s.lpe.next
  let due := (List.range 16).filter fun c => t / wNs % ((s.lpeChan c).per * 10000) = 0
  (due.foldl (fun (s : State) c => s.lpeChannel t c) s).lpeSet fun l => { l with next := t + 10000 * wNs }

/-- An output reaches its destination; without a lamp side none does (R384, R391). -/
def State.deliver (s : State) (d : Nat) (v : Int) : State :=
  if !s.lampSide then s
  else if d = 1 then (s.set LPE_SUP_DUTY_DUTY v.toNat).set LPE_STAT_SAFE 0
  else s.set LDU_SCALE_SCALE v.toNat

/-- Every output whose time has come, in order (R386). -/
def State.lpeDeliver (s : State) : State :=
  let l := s.lpe.outs.filter fun o => decide (o.1 ≤ s.tm.wall)
  let s : State := s.lpeSet fun x => { x with outs := x.outs.filter fun o => decide (s.tm.wall < o.1) }
  l.foldl (fun (s : State) o => s.deliver o.2.1 o.2.2) s

/-- The duty in force on SUPCTL (R384). -/
def State.supDuty (s : State) : Nat := if s.bit LPE_STAT_SAFE then s.get LPE_SUP_SAFE else s.get LPE_SUP_DUTY_DUTY

/-- LPE_OUTPUT_DELIVER (R386). -/
def execLpeOutputDeliver (s : State) : Host.Outcome State Fault Refusal := settled (if s.lpeRuns then s.lpeDeliver else s)

/-! ### Start and stop (R384) -/

/-- Channel `c` at an entry to READY; its OINIT is delivered at once. -/
def State.lpeInitChan (s : State) (c : Nat) : State :=
  let o := s.q (LPE_CH_OINIT c)
  let m := s.get (LPE_CH_MODE_REQ c)
  let s : State := s.setLpeChan c { chan0 with integ := [o, o, o, o], y0 := o, x := o * (6 * 10 ^ 15), per := s.get (LPE_CH_SPER_SPER c) }
  let s : State := ((((s.wq (LPE_CH_OUT c) o).wq (LPE_PROF_TGT c) o).wq (LPE_PROF_X c) o).wq (LPE_PROF_VEL c) 0).wq (LPE_PROF_ACC c) 0
  let s : State := ((s.wq (LPE_CH_INTEG c) (if m = lmOFF then 0 else o)).wr (LPE_PROF_VA c) (s.rd (LPE_PROF_V c))).wr (LPE_PROF_AA c) (s.rd (LPE_PROF_AL c))
  let s : State := s.wr (LPE_PROF_JA c) (s.rd (LPE_PROF_JL c))
  let s : State := s.setAll [(LPE_CH_CUR c, m), (LPE_CH_MODE_CUR c, m), (LPE_PROF_DONE c, 1), (LPE_PROF_LIMPEND c, 0)]
  let d := s.get (LPE_CH_CFG_DEST c)
  if d = 1 ∨ d = 2 then s.deliver d (boundInt 0 65536 o) else s

/-- The loop engine starts (R384). -/
def State.lpeStart (s : State) : State :=
  let s : State := s.set LPE_STAT_RUNNING 1
  let s : State := (List.range 16).foldl (fun (s : State) c => s.lpeInitChan c) s
  let s : State := (List.range 16).foldl (fun (s : State) c => s.wq (LPE_CH_IN c) (s.lpeInput c (s.get (LPE_CH_CFG_IN c)))) s
  s.lpeSet fun l => { l with next := nextInstant s.tm.wall, outs := [] }

/-- The loop engine stops: SUPCTL at SAFE (R384). -/
def State.lpeStop (s : State) : State :=
  (s.setAll [(LPE_STAT_RUNNING, 0), (LPE_STAT_SAFE, 1)]).lpeSet fun l => { l with outs := [] }

/-! ### Launch-queue actions (R401) -/

/-- A RAMP entry executes. -/
def State.rampAction (s : State) (arg : Nat) : State :=
  let c : Nat := arg % 16
  let i : Nat := arg / 16 % 4096
  if i < 64 && s.bit (LPE_TGT_W0_VALID i) && s.get (LPE_TGT_W0_CH i) = c then
    s.setLpeChan c { s.lpeChan c with ramp := some i }
  else s.bump LPE_QREF

/-- An LPEMODE entry executes (R392, R401). -/
def State.modeAction (s : State) (arg : Nat) : State :=
  let m : Nat := arg / 16 % 16
  if m ≤ 4 then s.set (LPE_CH_MODE_REQ (arg % 16)) m else s.bump LPE_QREF

end Sys2Proof.Machine
end

