-- ==== Sys2Proof/Machine/Lq.lean ====
section
/-! DEFINITION. The launch queues (R52-R56, R549), the grid change (R51) and the wall-time step (R41). -/

namespace Sys2Proof.Machine

/-! ### Entries (R52, R53): key = queue × 256 + slot -/

def State.lqWord (s : State) (k i : Nat) : Nat := (s.rd (TMU_LQE (4 * k + i))).toNat
/-- ACTION, LC and STATE of word 3. -/
def lqAction (w : Nat) : Nat := w / 2 ^ 16 % 256
def lqLC (w : Nat) : Bool := w.testBit 24

abbrev aFLIP : Nat := 0x01
abbrev aPHASE : Nat := 0x02
abbrev aGRID : Nat := 0x03
abbrev aRAMP : Nat := 0x10
abbrev aLPEMODE : Nat := 0x11
abbrev aCALSET : Nat := 0x20
abbrev aMCLK : Nat := 0x30
abbrev aPIN : Nat := 0x31
abbrev aMARK : Nat := 0x3F

/-- The queue of an action code; none: no such action (R53). -/
def lqQueue (a : Nat) : Option Nat :=
  if a = aFLIP ∨ a = aPHASE ∨ a = aGRID then some 0
  else if a = aRAMP ∨ a = aLPEMODE then some 1
  else if a = aCALSET then some 2
  else if a = aMCLK ∨ a = aPIN ∨ a = aMARK then some 3
  else none

/-- Lock-critical: by action, or as written for PIN and MARK (R53). -/
def lqForced (a : Nat) (lc : Bool) : Bool :=
  if a = aPIN ∨ a = aMARK then lc else decide (a = aFLIP ∨ a = aPHASE ∨ a = aGRID)

/-- Setup time (R53). -/
def lqSetup (a : Nat) : Nat := if a = aFLIP ∨ a = aPHASE ∨ a = aGRID then 1000 * wNs else 0

/-- The action time of words 0, 1 and 3. -/
def lqTimeOf (w0 w1 w3 : Nat) : Nat := wallOf (w1 + 2 ^ 32 * (w3 % 2 ^ 16)) (w0 % 2 ^ 30)
def State.lqTime (s : State) (k : Nat) : Nat := lqTimeOf (s.lqWord k 0) (s.lqWord k 1) (s.lqWord k 3)

/-- Pending entries, in order of insertion. -/
def State.lqPending (s : State) : List Nat := s.tm.lqOrd.map Prod.fst
/-- Pending entries of queue `q`. -/
def State.lqIn (s : State) (q : Nat) : List Nat := s.lqPending.filter fun k => k / 256 = q
/-- PEND of TMU_LQ_INS (R60). -/
def State.lqPend (s : State) : Nat := (s.lqIn (s.get TMU_LQ_INS_QUEUE)).length

/-- STATE of an entry set; one that is no longer pending leaves the order. -/
def State.lqClose (s : State) (k st : Nat) : State :=
  let s : State := s.wr (TMU_LQE (4 * k + 3)) (putBits (s.rd (TMU_LQE (4 * k + 3))) 28 4 st)
  s.tmSet fun t => { t with lqOrd := t.lqOrd.filter fun x => x.1 ≠ k }

/-- The pending entry that executes next: least action time, then queue, then insertion (R55). -/
def State.lqLeast (s : State) : Option Nat :=
  s.lqPending.foldl (fun (b : Option Nat) k => match b with
    | none => some k
    | some m => if s.lqTime k < s.lqTime m ∨ (s.lqTime k = s.lqTime m ∧ k / 256 < m / 256) then some k else b) none

/-- Some entry of queue `q` is due by wall time `w`. -/
def State.lqDue (s : State) (q w : Nat) : Bool := (s.lqIn q).any fun k => decide (s.lqTime k ≤ w)

/-! ### Effects (R53) -/

/-- A staged-grid record (R51). -/
def State.stagedGrid (s : State) (i : Nat) : GridSet :=
  ⟨s.get (TMU_GSTG_W0_NUM i), s.get (TMU_GSTG_W1_DEN i), s.get (TMU_GSTG_W2_SLOTS i), s.get (TMU_GSTG_W3_CYC i)⟩

/-- The first slot that an entry of time `w` can affect (R349, R549). -/
def State.slotFor (s : State) (w : Nat) : Nat := max s.tm.nextJ (nextSlot s.grid w)

/-- FLIP (R349). -/
def State.flipAction (s : State) (arg w : Nat) : State :=
  s.lduSet fun l => { l with flips := l.flips ++ [(s.slotFor w, arg % 2 ^ 16, arg / 2 ^ 16 % 8)] }

/-- PHASE (R549). -/
def State.phaseAction (s : State) (arg w : Nat) : State :=
  s.phaseInForce.tmSet fun t => { t with phaseNew := some (arg % 2 ^ 24, s.slotFor w) }

/-- GRID: it takes effect at the first boundary of the new grid at or after its time; its record is freed (R51). -/
def State.gridAction (s : State) (arg w : Nat) : State :=
  let g := s.stagedGrid (arg % 4)
  (s.tmSet fun t => { t with gridPend := some (g, nextSlot g w), gridAnn := false }).set (TMU_GSTG_W0_VALID (arg % 4)) 0

/-- PIN (R53). -/
def State.pinAction (s : State) (arg : Nat) : State :=
  { s with pins := { s.pins with gp := lset s.pins.gp (arg % 16) ((arg / 16).testBit 0) } }

/-- The effect of an action with argument `arg` and time `w` (R53). -/
def State.lqEffect (s : State) (a arg w : Nat) : State :=
  if a = aFLIP then s.flipAction arg w
  else if a = aPHASE then s.phaseAction arg w
  else if a = aGRID then s.gridAction arg w
  else if a = aRAMP then s.rampAction arg
  else if a = aLPEMODE then s.modeAction arg
  else if a = aCALSET then s.calSwitch
  else if a = aMCLK then s.setMclk (arg % 2) (arg / 2 % 16)
  else if a = aPIN then s.pinAction arg
  else if a = aMARK then s.trace0 0x28 6 arg
  else s

/-- An entry leaves without effect: a GRID record it held is freed, an armed set is dropped (R51, R371). -/
def State.lqDrop (s : State) (k : Nat) : State :=
  let a := lqAction (s.lqWord k 3)
  if a = aGRID then s.set (TMU_GSTG_W0_VALID (s.lqWord k 2 % 4)) 0
  else if a = aCALSET then
    (s.set LCR_SWITCH_PEND 0).putWord (selBase + 8) (BitVec.ofNat 32 (s.get LCR_SWITCH_SEQ))
  else s

/-- A past lock-critical entry is discarded and counted (R54). -/
def State.lqDiscard (s : State) (k : Nat) : State := ((s.lqDrop k).lqClose k 3).bump TMU_LQ

/-- A late execution is recorded (R54). -/
def State.lqLate (s : State) (k : Nat) : State :=
  let n := min (2 ^ 30 - 1) ((s.tm.wall - s.lqTime k) / wNs)
  ((s.setAll [(TMU_LQ_LAST_LATENS, n), (TMU_LQ_LAST_QUEUE, k / 256)]).bump TMU_LQX).trace0 0x29 6 n

/-- Entry `k` executes and is stored in state `st`; one of queue 0 whose time comes while the slot grid does not run is
discarded (R36). -/
def State.lqExecute (s : State) (k st : Nat) : State :=
  if k / 256 = 0 ∧ !s.gridRuns then s.lqDiscard k
  else (s.lqClose k st).lqEffect (lqAction (s.lqWord k 3)) (s.lqWord k 2) (s.lqTime k)

/-- The least entry executes if it is due and of action `a`. -/
def State.lqRun (s : State) (a : Nat) : State :=
  match s.lqLeast with
  | some k => if s.running && decide (s.lqTime k ≤ s.tm.wall) && lqAction (s.lqWord k 3) = a then s.lqExecute k 2 else s
  | none => s

/-- FLIP (R349). -/
def execLqFlip (s : State) : Host.Outcome State Fault Refusal := settled (s.lqRun aFLIP)
/-- PHASE (R549). -/
def execLqPhase (s : State) : Host.Outcome State Fault Refusal := settled (s.lqRun aPHASE)
/-- GRID (R51). -/
def execLqGrid (s : State) : Host.Outcome State Fault Refusal := settled (s.lqRun aGRID)
/-- RAMP (R401). -/
def execLqRamp (s : State) : Host.Outcome State Fault Refusal := settled (s.lqRun aRAMP)
/-- LPEMODE (R401). -/
def execLqLpemode (s : State) : Host.Outcome State Fault Refusal := settled (s.lqRun aLPEMODE)
/-- CALSET (R371). -/
def execLqCalset (s : State) : Host.Outcome State Fault Refusal := settled (s.lqRun aCALSET)
/-- MCLK (R59). -/
def execLqMclk (s : State) : Host.Outcome State Fault Refusal := settled (s.lqRun aMCLK)
/-- PIN (R53). -/
def execLqPin (s : State) : Host.Outcome State Fault Refusal := settled (s.lqRun aPIN)
/-- MARK (R53). -/
def execLqMark (s : State) : Host.Outcome State Fault Refusal := settled (s.lqRun aMARK)

/-! ### Insertion (R52-R56, R549) -/

/-- An insertion that stores nothing: a bad time, an unknown action, a phase offset or record that its rule refuses. -/
def State.lqRefused (s : State) (w0 arg a : Nat) : Bool :=
  decide (999999999 < w0 % 2 ^ 30) || (lqQueue a).isNone ||
  (a = aPHASE && decide (s.grid.cyc ≤ arg)) ||
  (a = aGRID && (decide (4 ≤ arg) || !s.bit (TMU_GSTG_W0_VALID arg)))

/-- The lowest slot of queue `q` that is not pending. -/
def State.lqFree (s : State) (q : Nat) : Option Nat :=
  ((List.range 256).map fun i => q * 256 + i).find? fun k => !s.lqPending.contains k

/-- An entry stored at `k` with the four words; it is pending. -/
def State.lqStore (s : State) (k w0 w1 arg w3 : Nat) : State :=
  let s : State := (((s.wr (TMU_LQE (4 * k)) (BitVec.ofNat 32 (w0 % 2 ^ 30))).wr (TMU_LQE (4 * k + 1)) (BitVec.ofNat 32 w1)).wr
    (TMU_LQE (4 * k + 2)) (BitVec.ofNat 32 arg)).wr (TMU_LQE (4 * k + 3)) (BitVec.ofNat 32 w3)
  s.tmSet fun t => { t with lqCount := t.lqCount + 1, lqOrd := t.lqOrd ++ [(k, t.lqCount)] }

/-- What becomes of a stored entry at its insertion: its state. A past one is discarded, or executes at once (R54). -/
def State.lqPlace (s : State) (k : Nat) : State :=
  let w3 := s.lqWord k 3
  let a := lqAction w3
  let past := decide (s.lqTime k < s.tm.wall + lqSetup a)
  let n := s.lqWord k 2 % 256
  let s : State := if a = aCALSET && (n = 255 || (s.get LCR_SETS_STAGED).testBit n) then s.calArm n (s.lqTime k) past else s
  if !past then s
  else if lqLC w3 then s.lqDiscard k
  else (s.lqLate k).lqExecute k 4

/-- An insertion of four words (R52): its entry, unless it is refused. -/
def State.lqInsertWords (s : State) (w0 w1 arg w3 : Nat) : Option Nat × State :=
  let a := lqAction w3
  if s.lqRefused w0 arg a then (none, s)
  else
    let q := (lqQueue a).getD 0
    match s.lqFree q with
    | none => (none, s.bump TMU_LQFULL)
    | some k =>
      let lc := lqForced a (lqLC w3)
      let s : State := s.lqStore k w0 w1 arg (w3 % 2 ^ 24 + (if lc then 2 ^ 24 else 0) + 2 ^ 28)
      let s : State := s.lqPlace k
      (some k, s.setAll [(TMU_LQ_INS_SLOT, k % 256), (TMU_LQ_INS_QUEUE, q), (TMU_LQ_INS_STATE, s.lqWord k 3 / 2 ^ 28)])

/-- An insertion by firmware for a wall time `w` of whole nanoseconds. -/
def State.lqPost (s : State) (a arg w : Nat) : Option Nat × State :=
  s.lqInsertWords (wallNs w) (wallSec w % 2 ^ 32) arg (wallSec w / 2 ^ 32 + 2 ^ 16 * a)

/-- A write of TMU_LQ_IN3 inserts the entry of TMU_LQ_IN0-IN3 (R52, R54). -/
def State.lqInsert (s : State) (w3 : Word) : State :=
  s.command TMU_LQ_IN3 w3.toNat fun s =>
    match s.lqInsertWords (s.rd TMU_LQ_IN0).toNat (s.rd TMU_LQ_IN1).toNat (s.rd TMU_LQ_IN2).toNat w3.toNat with
    | (some _, s) => s.setStat TMU_LQ_IN3 stDONE
    | (none, s) => s.setStat TMU_LQ_IN3 stREFUSED

/-- LQ_INSERT (R54). -/
def execLqInsert (w3 : Word) (s : State) : Host.Outcome State Fault Refusal := settled (if s.running then s.lqInsert w3 else s)

/-- CANCEL of entry `slot` of queue `q` (R56). -/
def State.lqCancel (s : State) (q slot : Nat) : State :=
  s.command TMU_CMD (4 + 16 * (q * 256 + slot)) fun s =>
    let k := q * 256 + slot
    if s.lqPending.contains k then ((s.lqDrop k).lqClose k 5).setStat TMU_CMD stDONE else s.setStat TMU_CMD stREFUSED

/-- CANCEL (R56). -/
def execLqCancel (q slot : Nat) (s : State) : Host.Outcome State Fault Refusal :=
  settled (if s.running && decide (q < 4 ∧ slot < 256) then s.lqCancel q slot else s)

/-! ### A new grid takes effect (R51, R549) -/

/-- What waits for the next launch waits for slot `j`. -/
def State.retarget (s : State) (j : Nat) : State :=
  let s : State := s.lduSet fun l => { l with flips := l.flips.map fun x => (j, x.2) }
  s.tmSet fun t => { t with nextJ := j, phaseNew := t.phaseNew.map fun p => (p.1, j) }

/-- Grid `g` takes effect at its slot boundary `j`: P becomes P mod CYC (R549), and pacing follows (log entry 40). -/
def State.takeNewGrid (s : State) (g : GridSet) (j : Nat) : State :=
  let s : State := s.gridDrop.setGrid g
  let s : State := s.tmSet fun t => { t with goodGrid := g, phaseNew := t.phaseNew.map fun p => (p.1 % max 1 g.cyc, p.2) }
  let s : State := s.set TMU_PHASE_P (s.get TMU_PHASE_P % max 1 g.cyc)
  (s.retarget j).paceFrom s.tm.wall

/-- GRID_TAKE_EFFECT (R51): the boundary has come. -/
def execGridTakeEffect (s : State) : Host.Outcome State Fault Refusal :=
  settled <| match s.tm.gridPend with
    | some (g, j) => if s.running && s.gridRuns && decide (launchTime g j ≤ s.tm.wall) then s.takeNewGrid g j else s
    | none => s

/-! ### The step of wall time (R41) -/

/-- At most `n` entries whose time is now past: each is discarded or executes late, in order (R41, R55). -/
def State.lqSweep (s : State) : Nat → State
  | 0 => s
  | n + 1 =>
    match s.lqLeast with
    | some k =>
      if s.lqTime k < s.tm.wall then
        (if lqLC (s.lqWord k 3) then s.lqDiscard k else (s.lqLate k).lqExecute k 4).lqSweep n
      else s
    | none => s

/-- Wall time steps: the slot grid is recomputed, past entries are dealt with; a step that was commanded here ends REJECT
(R35, R41). -/
def State.stepWall (s : State) (d : Int) (cmd : Bool) : State :=
  let s : State := s.servoOp fun s =>
    let s : State := ((s.shiftWall d).stepDrop).set TMU_SRV_STAT_STEPPED 1
    if cmd && s.servo = svREJECT then s.enter svLOCKED else s
  let s : State := (s.retarget (nextSlot s.grid s.tm.wall)).paceFrom s.tm.wall
  s.lqSweep s.lqPending.length

/-- STEP_EXECUTE (R41): the effective time has come. -/
def execStepExecute (s : State) : Host.Outcome State Fault Refusal :=
  settled <| match s.tm.step with
    | some (d, w) => if s.running && decide (w ≤ s.tm.wall) then s.stepWall d (!s.tm.stepAnn) else s
    | none => s

/-! ### A sample of the loop engine (R386) -/

/-- LPE_SAMPLE (R386): entries of the instant come first (R395). -/
def execLpeSample (s : State) : Host.Outcome State Fault Refusal :=
  settled (if s.lpeRuns && decide (s.lpe.next ≤ s.tm.wall) && !s.lqDue 1 s.lpe.next then s.lpeSample else s)

end Sys2Proof.Machine
end

