-- ==== Sys2Proof/Machine/Boot.lean ====
section
/-! DEFINITION. Starts, images and updates: verification (R458-R462), the boot-selection record and the decision of the ROM
(R452-R454, R463, R464), downloads (R469-R471), BOOT_CMD (R472-R476, R479) and recovery mode (R481-R483). -/

namespace Sys2Proof.Machine

/-! ### Images (R458, R469) -/

/-- Byte `o` of the image in slot `k`: erased where nothing was written, free on a slot that came with the board. -/
def State.imgByte (s : State) (k o : Nat) : Byte :=
  match s.boot.img.find? (fun x => x.1 = 1024 * k + o / 16384) with
  | some x => x.2.getD (o % 16384) 0xFF#8
  | none => if lget 16 s.boot.chk k < 16 then Config.freeByte (2 ^ 60 + 2 ^ 40 * k + o) else 0xFF#8

/-- `n` bytes at `o`. -/
def State.imgAt (s : State) (k o n : Nat) : List Byte := (List.range n).map fun i => s.imgByte k (o + i)
/-- A little-endian header field. -/
def State.hdr (s : State) (k o n : Nat) : Nat := leNat (s.imgAt k o n)

def State.imgVersion (s : State) (k : Nat) : Nat := s.hdr k 8 8
def State.imgBuild (s : State) (k : Nat) : Nat := s.hdr k 8 2
def State.imgSecver (s : State) (k : Nat) : Nat := s.hdr k 0x10 4
def State.imgSetver (s : State) (k : Nat) : Nat := s.hdr k 0x14 2
def State.imgLen (s : State) (k : Nat) : Nat := s.hdr k 0x18 4
def State.imgRevoke (s : State) (k : Nat) : Nat := s.hdr k 0x1C 1 % 16
def State.imgKey (s : State) (k : Nat) : Nat := s.hdr k 0x440 1

/-- The sections of an image: TYPE, OFFSET, LEN, and the place of the hash in the header. -/
def State.sections (s : State) (k : Nat) : List (Nat × Nat × Nat × Nat) :=
  (List.range (min 16 (s.hdr k 0x17 1))).map fun n =>
    let o := 0x40 + 64 * n
    (s.hdr k o 2, s.hdr k (o + 4) 4, s.hdr k (o + 8) 4, o + 16)

/-- Bytes of image slot `k`, if a flash directory is in force (log entry 52). -/
def State.slotSize (s : State) (k : Nat) : Option Nat := if (s.tag 6).isSome then some (s.areaSize k) else none
def State.fitsSlot (s : State) (k n : Nat) : Bool := match s.slotSize k with | some z => decide (n ≤ z) | none => true

/-- MAGIC, FORMAT, NSECT, section layout and types, IMGLEN within the slot (R459, R461). -/
def State.imgLayout (s : State) (k : Nat) : Bool :=
  let secs := s.sections k
  let has (t : Nat) : Bool := secs.any fun x => x.1 = t
  s.hdr k 0 4 = 0x4D494D4B && s.hdr k 4 2 = 1 && decide (1 ≤ s.hdr k 0x17 1 ∧ s.hdr k 0x17 1 ≤ 16) &&
  secs.all (fun x => decide (1 ≤ x.1 ∧ x.1 ≤ 6) && x.2.1 % 4096 = 0 && decide (x.2.1 + x.2.2.1 ≤ s.imgLen k) &&
    (x.1 ≠ 1 || decide (x.2.2.1 ≤ 3 * 2 ^ 19))) &&
  has 1 && has 3 && s.fitsSlot k (s.imgLen k)

/-- What a cryptographic check finds: computed from the bytes, or as the board was when it came (log entry 49). -/
def State.crypto (s : State) (k bit : Nat) (computed : Bool) : Bool :=
  let c := lget 16 s.boot.chk k
  if c < 16 then c.testBit bit else computed

/-- KEYIDX names a programmed, unrevoked slot whose hash equals the SHA-384 of PUBKEY. -/
def State.imgKeyOk (s : State) (k : Nat) : Bool :=
  let i := s.imgKey k
  decide (i < 4) && lget 0 s.boot.keys i ≠ 0 && !s.boot.revoked.contains i &&
  s.crypto k 0 (beNat (sha384 (s.imgAt k 0x448 97)) = lget 0 s.boot.keys i)

/-- The signature over bytes 0x000-0x4AF (R459). -/
def State.imgSigOk (s : State) (k : Nat) : Bool :=
  s.crypto k 1 (ecdsaOk (sha384 (s.imgAt k 0 0x4B0)) (s.imgAt k 0x448 97) (beNat (s.imgAt k 0x4B0 48)) (beNat (s.imgAt k 0x4E0 48)))

/-- The sections that `p` selects match their SHA-384. -/
def State.hashesOk (s : State) (k bit : Nat) (p : Nat → Bool) : Bool :=
  s.crypto k bit (((s.sections k).filter (fun x => p x.1)).all fun x => sha384 (s.imgAt k x.2.1 x.2.2.1) = s.imgAt k x.2.2.2 48)

/-- The reason of R461 for which an image fails, 0 if it passes; a start check hashes the type 1 section alone. -/
def State.verifyImage (s : State) (k : Nat) (full : Bool) : Nat :=
  if !s.imgLayout k then 1
  else if !s.imgKeyOk k then 3
  else if !s.imgSigOk k then 2
  else if s.imgSecver k < s.boot.fsec then 4
  else if !(s.hdr k 0x16 1).testBit (if s.head then 1 else 0) then 5
  else if Config.stepping.toNat < s.hdr k 0x1D 1 then 6
  else if !s.hashesOk k 2 (· = 1) || (full && !s.hashesOk k 3 (· ≠ 1)) then 7
  else 0

/-! ### Boot-selection record (R463) -/

/-- The record in force; without one, a record that names no candidate. -/
def State.bsrBytes (s : State) : List Byte := (s.recData recBSR).getD (putAt (zeros 64) 9 [0xFF#8])
/-- A field of the record in force. -/
def State.bsr (s : State) (o n : Nat) : Nat := numAt s.bsrBytes o n
def State.bsrRun (s : State) : Nat := s.bsr 8 1 % 2
/-- The candidate slot. -/
def State.bsrCand (s : State) : Option Nat := if s.bsr 9 1 = 0xFF then none else some (s.bsr 9 1 % 2)
def State.slotState (s : State) (k : Nat) : Nat := s.bsr (0x0C + k) 1
/-- The slot that RUN does not name. -/
def State.inactive (s : State) : Nat := 1 - s.bsrRun

/-- SLOTST codes, and CSTATE codes. -/
abbrev slEMPTY : Nat := 0
abbrev slGOOD : Nat := 1
abbrev slDOWN : Nat := 2
abbrev slREJ : Nat := 3
abbrev csPENDING : Nat := 1
abbrev csTRIAL : Nat := 2

/-- A new record with fields (offset, bytes, value) changed (R456, R463). -/
def State.bsrWrite (s : State) (edits : List (Nat × Nat × Nat)) : State :=
  let l := edits.foldl (fun l e => putAt l e.1 (natLE e.2.1 e.2.2)) s.bsrBytes
  let q := match s.copyIn recBSR with | some x => x.seq + 1 | none => 0
  let l := putAt (putAt l 0 (natLE 4 0x5253424C)) 4 (natLE 4 q)
  s.writeRec recBSR (putAt l 0x3C (natLE 4 (crc32c (l.take 0x3C))))

/-- A candidate is rejected with a reason (R464). -/
def State.bsrReject (s : State) (k reason : Nat) : State :=
  s.bsrWrite [(0x0C + k, 1, slREJ), (0x0E + k, 1, reason), (9, 1, 0xFF)]

/-- REJ codes beyond those of R461 (R463). -/
abbrev rejTRIALS : Nat := 8
abbrev rejSETINC : Nat := 9
abbrev rejCORRUPT : Nat := 10

/-- Events of the BOOT notification (R484), and one kept until firmware runs. -/
abbrev bnTRIAL : Nat := 1
abbrev bnCONFIRMED : Nat := 2
abbrev bnREJECTED : Nat := 3
abbrev bnCORRUPT : Nat := 4
abbrev bnCOMPLETE : Nat := 5
abbrev bnSETINC : Nat := 6
def State.bootNews (s : State) (ev reason k : Nat) : State :=
  let n := s.imgBuild k
  s.bootSet fun b => { b with news := b.news ++ [(ev, reason, n)] }
def State.bootNotify (s : State) (ev reason build : Nat) : State :=
  s.notify nBOOT (ev + 2 ^ 8 * reason + 2 ^ 16 * build)

/-! ### The decision of the ROM (R453, R464) -/

def State.enterRecovery (s : State) : State := { s with phase := .recovery }

/-- The image in slot `k` is loaded; firmware starts next. -/
def State.romTake (s : State) (k : Nat) (trial : Bool) : State :=
  let s : State := { s with phase := .rom }
  let s : State := if trial then s.bootNews bnTRIAL 0 k else s
  s.bootSet fun b => { b with run := k, trial := trial }

/-- RUN is corrupt: the other slot if it is GOOD, else recovery mode (R464). -/
def State.romFallback (s : State) : State :=
  let x := s.bsrRun
  let y := 1 - x
  if s.slotState y ≠ slGOOD then s.enterRecovery
  else
    let s : State := (s.bsrWrite [(0x0C + x, 1, slREJ), (0x0E + x, 1, rejCORRUPT), (8, 1, y)]).bootNews bnCORRUPT rejCORRUPT x
    let s : State := s.set BOOT_STAT_CORRUPT 1
    if s.verifyImage y false = 0 then s.romTake y false else s.enterRecovery

/-- Start RUN (R464). -/
def State.romStartRun (s : State) : State :=
  if s.verifyImage s.bsrRun false = 0 then s.romTake s.bsrRun false else s.romFallback

/-- Candidate `k` is rejected and RUN starts. -/
def State.romReject (s : State) (k reason : Nat) : State := ((s.bsrReject k reason).bootNews bnREJECTED reason k).romStartRun

/-- Start the candidate in trial `n` (R464). -/
def State.romTrial (s : State) (k n : Nat) : State :=
  let s : State := s.bsrWrite [(0x0A, 1, csTRIAL), (0x0B, 1, n)]
  match s.verifyImage k false with
  | 0 => s.romTake k true
  | r => s.romReject k r

/-- The candidate's turn (R464). -/
def State.romCandidate (s : State) (k : Nat) : State :=
  if s.bsr 0x0A 1 = csPENDING then
    match s.verifyImage k true with
    | 0 => s.romTrial k 1
    | r => s.romReject k r
  else if s.bsr 0x0A 1 = csTRIAL then
    if 3 ≤ s.bsr 0x0B 1 then s.romReject k rejTRIALS else s.romTrial k (s.bsr 0x0B 1 + 1)
  else s.romStartRun

/-- ROM_BOOT_DECISION (R464). -/
def State.romDecide (s : State) : State :=
  match s.recData recBSR with
  | none =>
    if s.verifyImage 0 false = 0 then (s.bsrWrite [(8, 1, 0), (0x0C, 1, slGOOD)]).romStartRun else s.enterRecovery
  | some _ => match s.bsrCand with
    | some k => s.romCandidate k
    | none => s.romStartRun

/-- The ROM runs: the path that BOOTSEL selects, unless firmware fell back (R452, R453). -/
def State.romStart (s : State) (normal : Bool) : State :=
  if !normal && (s.get GLB_STRAP_BOOTSEL) % 2 = 1 then s.enterRecovery else s.romDecide

/-! ### Starts (R452, R491) -/

/-- Everything but flash, fuses, role and what waits is as after reset; time starts at 0. -/
def State.blank (s : State) : State :=
  { State.reset with
    head := s.head
    phase := .held
    fresh := s.fresh
    resp := s.resp
    pending := s.pending
    skd := { SkdSt.reset with out := s.skd.out }
    pins := { Pins.reset with porst := s.pins.porst }
    boot := { s.boot with
      run := 0
      trial := false
      busy := none
      piece := none
      bd := none
      sett := []
      conv := none
      news := []
      baud := 115200
      erased := []
      lampAt := some 5000000 } }

/-- The straps as a word (R451). -/
def strapWord (head : Bool) (headnum bootsel : Nat) : Nat :=
  (if head then 1 else 0) + 2 * (bootsel % 4) + 8 * (headnum % 64)

/-- The unit with its straps latched; a head takes its number from HEADNUM (R1, R3, R312). -/
def State.latchStraps (s : State) (head : Bool) (headnum bootsel : Nat) : State :=
  let s : State := ({ s with head := head } : State).wr GLB_STRAP (BitVec.ofNat 32 (strapWord head headnum bootsel))
  if head then s.setHeadNum (headnum % 64) else s

/-- Entries of `l` whose key group is not held. -/
def notHeld {α : Type} (grp : Nat → Nat) (held l : List (Nat × α)) : List (Nat × α) :=
  l.filter fun x => !held.any fun y => grp y.1 = grp x.1

/-- Entries put into a map, one after another. -/
def addAll {α : Type} (m l : List (Nat × α)) : List (Nat × α) := l.foldl (fun m x => minsert x.1 x.2 (merase x.1 m)) m

/-- What the device holds is taken for what the model does not hold; fuses only ever gain (R460; log entry 49). -/
def State.meetDevice (s : State) (d : Device) : State :=
  let b := s.boot
  let fresh (k : Nat) : Bool := !b.img.any fun x => x.1 / 1024 = k
  let chk := (List.range 2).map fun k =>
    if fresh k && d.img.any (fun x => x.1 / 1024 = k) then lget 16 d.chk k else lget 16 b.chk k
  let keys := (List.range 4).map fun k => if lget 0 b.keys k = 0 then lget 0 d.keys k else lget 0 b.keys k
  { s with boot := { b with
    recs := addAll b.recs (notHeld (· / 2) b.recs d.recs),
    img := addAll b.img (notHeld (· / 1024) b.img d.img),
    chk := chk, keys := keys, fsec := max b.fsec (min 32 d.fsec), prod := (b.prod || d.prod),
    revoked := b.revoked ++ d.revoked.filter (fun k => decide (k < 4) && !b.revoked.contains k), burn := (b.burn || d.burn) } }

/-- A board description as stored: its CRC checks (R457). -/
def bdOk (l : List Byte) : Bool :=
  numAt l 0 4 = 0x44424D4B && numAt l 4 2 = 1 && l.length = numAt l 0x0C 4 && crc32c (putAt l 0x1C (zeros 4)) = numAt l 0x1C 4

/-- The start reads both copies of the board description; a copy that recovery wrote counts if its CRC checks (R457, R482). -/
def State.readBd (s : State) : State :=
  let l := s.boot.recs.map fun x => if x.1 / 2 = recBD && bdOk x.2.data then (x.1, { x.2 with ok := true }) else x
  let s : State := s.bootSet fun b => { b with recs := l }
  s.bootSet fun b => { b with bd := s.recData recBD }

/-- A start: straps latched, wall time reset, the boot ROM runs (R452); an unusable flash device leads to recovery mode
(R454). -/
def State.start (s : State) (head : Bool) (headnum bootsel : Nat) (dev : Device) : State :=
  let s : State := ((s.blank.latchStraps head headnum bootsel).meetDevice dev).readBd
  if dev.flashOk then s.romStart false else s.enterRecovery

/-- A restart keeps the strap latches; `normal`: written by firmware that falls back, or by recovery BOOT (R452, R482). -/
def State.restart (s : State) (normal : Bool) : State :=
  let n := s.get GLB_STRAP_HEADNUM
  let b := s.get GLB_STRAP_BOOTSEL
  (s.blank.latchStraps s.head n b).readBd.romStart normal

/-- The unit is held in reset (R491): PORST_N low, or a logic supply out of range. -/
def State.hold (s : State) : State := s.blank

/-- PORST_RISE (R452): PORST_N rises; with a logic supply out of range the unit stays held (R491). -/
def execPorstRise (head : Bool) (headnum bootsel : Nat) (dev : Device) (s : State) : Host.Outcome State Fault Refusal :=
  settled <|
    if s.pins.porst then s
    else
      let up : State := { s with pins := { s.pins with porst := true } }
      if s.pwr.supply.isSome then up else up.start head headnum bootsel dev

/-- PORST_N_FALL (R491), from any power state. -/
def execPorstNFall (s : State) : Host.Outcome State Fault Refusal :=
  settled (let q : State := s.hold; { q with pins := { q.pins with porst := false }, pwr := { q.pwr with supply := s.pwr.supply } })

/-- SUPPLY_FAULT (R491): a logic supply has been out of range for 10 us. -/
def execSupplyFault (s : State) : Host.Outcome State Fault Refusal :=
  settled (let q : State := s.hold; { q with pwr := { q.pwr with supply := some 0 } })

/-- SUPPLY_RECOVER (R491): every logic supply has been in range for 1 ms; the unit starts anew unless PORST_N is low. -/
def execSupplyRecover (head : Bool) (headnum bootsel : Nat) (dev : Device) (s : State) : Host.Outcome State Fault Refusal :=
  settled <|
    if s.pwr.supply.isNone then s
    else
      let up : State := { s with pwr := { s.pwr with supply := none } }
      if s.pins.porst then up.start head headnum bootsel dev else up

/-- LAMP_SIDE_TEST (R521, R528): VDRV and VGATE in mV, 5 ms after the edge. -/
def execLampSideTest (vdrv vgate : Nat) (s : State) : Host.Outcome State Fault Refusal :=
  settled <| match s.boot.lampAt with
    | none => s
    | some t =>
      if s.phase = .held || decide (s.now < t) then s
      else
        let d : Bool := decide (vdrv < 200)
        let g : Bool := decide (vgate < 200)
        let b (x : Bool) : Nat := if x then 1 else 0
        (s.bootSet fun b => { b with lampAt := none }).setAll [(PWR_LSDET_DONE, 1), (PWR_LSDET_VDRVT, b d), (PWR_LSDET_VGATET, b g),
          (PWR_LSDET_NOLAMP, b (d && g)), (PWR_LSDET_VDRVMV, min 255 (vdrv / 10)), (PWR_LSDET_VGATEMV, min 255 (vgate / 10)),
          (GLB_STRAP_NOLAMP, b (d && g))]

/-! ### Downloads (R469-R471) -/

/-- BOOT_RES.REASON codes (R485). -/
abbrev boSTATE : Nat := 1
abbrev boNOTCOMPLETE : Nat := 2
abbrev boNOSPACE : Nat := 4
abbrev boBADIMG : Nat := 5
abbrev boBADSIG : Nat := 6
abbrev boBADPIECE : Nat := 7
abbrev boEXISTS : Nat := 8
abbrev boRANGE : Nat := 9
abbrev boFLASH : Nat := 10

/-- A command of `reg` refused with a reason. -/
def State.bootRefuse (s : State) (reg r : Nat) : State := (s.set BOOT_RES_REASON r).setStat reg stREFUSED

/-- Pieces of an image of `n` bytes, and the bytes of piece `i` (R469). -/
def pieceCount (n : Nat) : Nat := (n + 16383) / 16384
def pieceLen (n i : Nat) : Nat := min 16384 (n - i * 16384)

/-- A download is complete. -/
def Download.complete (d : Download) : Bool := decide (d.n ≤ d.held.length)

/-- OPEN (R470): the reason of a refusal, or the download opened or resumed. -/
def State.dlOpen (s : State) (id len : Nat) : Except Nat State :=
  let k := s.inactive
  let n := pieceCount len
  if s.bsrCand.isSome then .error boSTATE
  else match s.boot.dl with
    | some d => if d.id = id then .ok s else .error boEXISTS
    | none =>
      if !s.fitsSlot k len then .error boNOSPACE
      else if len < 0x1000 ∨ 1024 < n then .error boRANGE
      else .ok ((s.bsrWrite [(0x0C + k, 1, slEMPTY)]).bootSet fun b =>
        { b with dl := some ⟨id, len, n, k, []⟩, chk := lset b.chk k 16 })

/-- PIECE `i` with its CRC and the bytes that arrived (R470): a refusal, already held, or programming starts. -/
def State.dlPiece (s : State) (i crc : Nat) (l : List Byte) (src : Option (Nat × Nat × Nat)) : Except Nat (Option State) :=
  match s.boot.dl with
  | none => .error boSTATE
  | some d =>
    let l := l.take (pieceLen d.len i)
    if d.n ≤ i then .error boRANGE
    else if d.held.contains i then .ok none
    else if crc32c l ≠ crc then .error boBADPIECE
    else .ok (some (s.bootSet fun b => { b with piece := some (i, l, src) }))

/-- A piece is in flash and its map word is programmed; the last one completes the download (R469, R484). -/
def State.pieceHeld (s : State) (i : Nat) (l : List Byte) : State :=
  match s.boot.dl with
  | none => s
  | some d =>
    let d' : Download := { d with held := if d.held.contains i then d.held else d.held ++ [i] }
    let s : State := s.bootSet fun b =>
      { b with dl := some d', img := minsert (1024 * d.slot + i) l (merase (1024 * d.slot + i) b.img) }
    if d'.complete then s.bootNotify bnCOMPLETE 0 (s.imgBuild d.slot) else s

/-- Downloads are served in HALT, READY and SHOW (R470). -/
def State.dlServed (s : State) : Bool := s.power = psHALT || decide (psREADY ≤ s.power)

/-- The bytes of BOOT_PBUF. -/
def State.pieceBuffer (s : State) (n : Nat) : List Byte :=
  ((List.range ((n + 3) / 4)).flatMap fun i => wordBytes (s.rd (BOOT_PBUF i))).take n

/-- BOOT_DLCMD OPEN (R470). -/
def State.bootDlOpen (s : State) : State :=
  s.command BOOT_DLCMD 1 fun s =>
    if !s.dlServed then s.bootRefuse BOOT_DLCMD boSTATE
    else match s.dlOpen (s.rd BOOT_DLARG0).toNat (s.rd BOOT_DLARG1).toNat with
      | .error r => s.bootRefuse BOOT_DLCMD r
      | .ok s => s.setStat BOOT_DLCMD stDONE

/-- BOOT_DLCMD PIECE (R470). -/
def State.bootDlPiece (s : State) : State :=
  s.command BOOT_DLCMD 2 fun s =>
    if !s.dlServed then s.bootRefuse BOOT_DLCMD boSTATE
    else match s.dlPiece (s.get BOOT_DLARG2_PIECE) (s.rd BOOT_DLARG3).toNat (s.pieceBuffer 16384) none with
      | .error r => (if r = boBADPIECE then s.bump BOOT_PIECEBAD else s).bootRefuse BOOT_DLCMD r
      | .ok none => s.setStat BOOT_DLCMD stDONE
      | .ok (some s) => s.setStat BOOT_DLCMD stBUSY

/-- BOOT_DLCMD ABORT (R470). -/
def State.bootDlAbort (s : State) : State :=
  s.command BOOT_DLCMD 3 fun s =>
    if !s.dlServed then s.bootRefuse BOOT_DLCMD boSTATE
    else
      let s : State := match s.boot.dl with
        | some d => (s.bsrWrite [(0x0C + d.slot, 1, slEMPTY)]).bootSet fun b => { b with dl := none }
        | none => s
      s.setStat BOOT_DLCMD stDONE

/-- DL_OPEN, DL_PIECE, DL_ABORT (R470). -/
def execDlOpen (s : State) : Host.Outcome State Fault Refusal := settled (if s.running then s.bootDlOpen else s)
def execDlPiece (s : State) : Host.Outcome State Fault Refusal := settled (if s.running then s.bootDlPiece else s)
def execDlAbort (s : State) : Host.Outcome State Fault Refusal := settled (if s.running then s.bootDlAbort else s)

/-! ### Images down a chain at a tile (R335, R471) -/

/-- ACK STATUS codes (R291). -/
abbrev akOK : Nat := 0
abbrev akBUSY : Nat := 1
abbrev akREFUSED : Nat := 2
abbrev akBADPIECE : Nat := 3

/-- An ACK toward unit address `a` (R291). -/
def State.sendAck (s : State) (a tag status atype piece : Nat) : State :=
  s.sendTo a (mkFrame fACK a s.srcAddr false false (natLE 2 tag ++ natLE 1 status ++ natLE 1 atype ++ natLE 4 piece) [])

/-- DOWNLOAD_PIECE_DONE (R470): programming and readback end; `ok`: the readback agrees. A chain's piece is acknowledged
(R471; log entry 62). -/
def execDownloadPieceDone (ok : Bool) (s : State) : Host.Outcome State Fault Refusal :=
  settled <| match s.boot.piece with
    | none => s
    | some (i, l, src) =>
      let s : State := s.bootSet fun b => { b with piece := none }
      let s : State := if ok then s.pieceHeld i l else s.bump BOOT_FLERR
      match src with
      | some (_, a, tag) => s.sendAck a tag (if ok then akOK else akREFUSED) fIMG i
      | none => if ok then s.setStat BOOT_DLCMD stDONE else s.bootRefuse BOOT_DLCMD boFLASH

/-- IMGANN_RX (R334, R471): the announcement acts as OPEN. -/
def execImgannRx (p : Nat) (s : State) : Host.Outcome State Fault Refusal :=
  settled (if s.running && !s.head && decide (p < 4) then match s.takeRx p (isSvc vIMGANN) with
      | some (i, s) =>
        let b := svcPay i.f
        match s.dlOpen (numAt b 0 4) (numAt b 4 4) with
        | .ok s' => if s.dlServed then s' else s
        | .error _ => s
      | none => s
    else s)

/-- A piece arrives at a tile (R335, R471): frames of another image are ignored. -/
def State.imgPiece (s : State) (p : Nat) (f : Frame) : State :=
  let id := f.fld 10 4
  let i := f.fld 14 4
  match s.boot.dl with
  | none => s
  | some d =>
    if d.id ≠ id || d.held.contains i then s
    else if crc32c f.pay ≠ f.fld 22 4 then s.sendAck f.src (id % 65536) akBADPIECE fIMG i
    else if s.boot.piece.isSome || s.boot.busy.isSome || s.busy BOOT_DLCMD || !s.dlServed then s.sendAck f.src (id % 65536) akBUSY fIMG i
    else match s.dlPiece i (f.fld 22 4) f.pay (some (p, f.src, id % 65536)) with
      | .ok (some s) => s
      | .ok none => s
      | .error _ => s.sendAck f.src (id % 65536) akREFUSED fIMG i

/-- IMG_RX (R335, R471). -/
def execImgRx (p : Nat) (s : State) : Host.Outcome State Fault Refusal :=
  settled (if s.running && !s.head && decide (p < 4) then match s.takeRx p (fun f => f.typ = fIMG) with
      | some (i, s) => s.imgPiece p i.f
      | none => s
    else s)

/-! ### BOOT_CMD (R472-R476, R479, R485) -/

/-- A command of BOOT_CMD; `bit` its SLOT. -/
def State.bootCommand (s : State) (op : Nat) (bit : Bool) (f : State → State) : State :=
  s.command BOOT_CMD (op + (if bit then 16 else 0)) f

/-- BOOT_CMD reads BUSY until BOOT_COMMAND_DONE. -/
def State.bootBusy (s : State) (op : Nat) (l : List Byte) : State :=
  (s.bootSet fun b => { b with busy := some (op, l) }).setStat BOOT_CMD stBUSY

/-- ACTIVATE (R472). -/
def State.bootActivate (s : State) : State :=
  s.bootCommand 1 false fun s =>
    match s.boot.dl with
    | some d =>
      if !d.complete then s.bootRefuse BOOT_CMD boNOTCOMPLETE
      else
        let v := s.imgVersion d.slot
        ((s.bsrWrite [(9, 1, d.slot), (0x0A, 1, csPENDING), (0x0B, 1, 0), (0x0C + d.slot, 1, slDOWN), (0x10 + 8 * d.slot, 8, v)]).bootSet
          fun b => { b with dl := none }).setStat BOOT_CMD stDONE
    | none => s.bootRefuse BOOT_CMD boNOTCOMPLETE

/-- RESTART (R473). -/
def State.bootRestart (s : State) : State :=
  s.bootCommand 2 false fun s =>
    if s.power = psHALT || s.power = psREADY then s.restart false else s.bootRefuse BOOT_CMD boSTATE

/-- CONFIRM (R476). -/
def State.bootConfirm (s : State) : State :=
  s.bootCommand 3 false fun s => if s.boot.trial then s.bootBusy 3 [] else s.bootRefuse BOOT_CMD boSTATE

/-- REVERT (R474). -/
def State.bootRevert (s : State) : State :=
  s.bootCommand 4 false fun s =>
    if s.bsrCand.isSome || s.slotState s.inactive ≠ slGOOD then s.bootRefuse BOOT_CMD boSTATE
    else (s.bsrWrite [(9, 1, s.inactive), (0x0A, 1, csPENDING), (0x0B, 1, 0)]).setStat BOOT_CMD stDONE

/-- DRAM offset of BOOT_ARG. -/
def State.bootSrc (s : State) : Nat := pageOff (s.rd BOOT_ARG)

/-- The settings record format (R477; log entry 52): MAGIC, SETVER, SEQ, entry count, CRC. -/
def settCount (l : List Byte) : Nat := numAt l 0x0C 4
def settLen (l : List Byte) : Nat := 32 + 16 * settCount l
def settVer (l : List Byte) : Nat := numAt l 4 2
def settOk (l : List Byte) : Bool :=
  numAt l 0 4 = 0x5453454B && l.length = settLen l && crc32c (putAt l 0x1C (zeros 4)) = numAt l 0x1C 4
/-- The entries: address, value, mask. -/
def settEntries (l : List Byte) : List (Nat × Nat × Nat) :=
  (List.range (settCount l)).map fun i => (numAt l (32 + 16 * i) 6, numAt l (40 + 16 * i) 4, numAt l (44 + 16 * i) 4)

/-- SAVE (R479): memory must be up (log entry 53). -/
def State.bootSave (s : State) : State :=
  s.bootCommand 5 false fun s =>
    if s.boot.trial || s.power = psHALT || !s.dramUp then s.bootRefuse BOOT_CMD boSTATE
    else
      let hd := s.bytes (dramBase + s.bootSrc) 32
      if numAt hd 0 4 ≠ 0x5453454B || decide (s.areaSize (2 + s.boot.run) / 2 < settLen hd) then s.bootRefuse BOOT_CMD boBADIMG
      else
        let (l, s) := s.dramRead s.bootSrc (settLen hd)
        if !settOk l || settVer l ≠ s.imgSetver s.boot.run then s.bootRefuse BOOT_CMD boBADIMG else s.bootBusy 5 l

/-- STAGE (R471). -/
def State.bootStage (s : State) (running : Bool) : State :=
  s.bootCommand 6 running fun s =>
    if s.power = psHALT || !s.dramUp then s.bootRefuse BOOT_CMD boSTATE
    else if running then s.bootBusy 6 [1#8]
    else match s.boot.dl with
      | some d => if d.complete then s.bootBusy 6 [0#8] else s.bootRefuse BOOT_CMD boNOTCOMPLETE
      | none => s.bootRefuse BOOT_CMD boNOTCOMPLETE

/-- STOREBD (R457): at most 64 KiB. -/
def State.bootStorebd (s : State) : State :=
  s.bootCommand 7 false fun s =>
    if !s.dramUp then s.bootRefuse BOOT_CMD boSTATE
    else
      let hd := s.bytes (dramBase + s.bootSrc) 32
      let (l, s) := s.dramRead s.bootSrc (min 65536 (max 32 (numAt hd 0x0C 4)))
      s.bootBusy 7 l

/-- STORECOR (R468). -/
def State.bootStorecor (s : State) : State :=
  s.bootCommand 8 false fun s =>
    if !s.dramUp then s.bootRefuse BOOT_CMD boSTATE
    else
      let n := 0xC0 + imgWord (s.bytes (dramBase + s.bootSrc) 0xC0) 8
      if s.areaSize 5 / 2 < n then s.bootRefuse BOOT_CMD boNOSPACE
      else
        let (l, s) := s.dramRead s.bootSrc n
        if !imgOk l || (imgProg l).mon then s.bootRefuse BOOT_CMD boBADIMG else s.bootBusy 8 l

/-! ### The end of a BUSY command -/

/-- FUSE_BURN (R462): FSECVER up to SECVER, and the revoke bits but for the image's own key slot. -/
def State.burnFuses (s : State) : State :=
  if !s.bit BOOT_CFG_SECBURN then s
  else
    let k := s.boot.run
    let rev := (List.range 4).filter fun i => (s.imgRevoke k).testBit i && i ≠ s.imgKey k && !s.boot.revoked.contains i
    s.bootSet fun b => { b with fsec := max b.fsec (min 32 (s.imgSecver k)), revoked := b.revoked ++ rev, burn := false }

/-- Confirmation (R476): settings, record, fuses. -/
def State.confirmImage (s : State) : State :=
  let k := s.boot.run
  let s : State := match s.boot.conv with | some l => s.writeRec (recSettings k) l | none => s
  let s : State := s.bsrWrite [(0x0C + k, 1, slGOOD), (8, 1, k), (9, 1, 0xFF), (0x0B, 1, 0)]
  let s : State := s.bootSet fun b => { b with trial := false, conv := none }
  s.burnFuses.bootNotify bnCONFIRMED 0 (s.imgBuild k)

/-- The reason of BOOT_RES for a reason of R461; the spec names none for most (log entry 63). -/
def State.stageRefuse (s : State) (r : Nat) : State :=
  let (n, s) := s.drawNat
  (s.set BOOT_RES_R461 r).bootRefuse BOOT_CMD (if r = 1 then boBADIMG else if r = 2 then boBADSIG else n)

/-- STAGE ends (R471): IMGID of the running image is free (log entry 63). -/
def State.stageDone (s : State) (k : Nat) (id : Option Nat) : State :=
  match s.verifyImage k true with
  | 0 =>
    let n := s.imgLen k
    let (w, s) := s.draw
    let s : State := s.dramWrite s.bootSrc (s.imgAt k 0 n)
    let s : State := ((s.wr SKD_IMG_SRC (s.rd BOOT_ARG)).wr SKD_IMG_LEN (BitVec.ofNat 32 n)).wr SKD_IMG_ID
      (match id with | some i => BitVec.ofNat 32 i | none => w)
    s.setStat BOOT_CMD stDONE
  | r => s.stageRefuse r

def State.bootDone (s : State) (op : Nat) (l : List Byte) : State :=
  match op with
  | 3 => s.confirmImage.setStat BOOT_CMD stDONE
  | 5 => (s.writeRec (recSettings s.boot.run) l).setStat BOOT_CMD stDONE
  | 6 =>
    if l.head? = some 1#8 then s.stageDone s.boot.run none
    else match s.boot.dl with
      | some d => s.stageDone d.slot (some d.id)
      | none => s.bootRefuse BOOT_CMD boNOTCOMPLETE
  | 7 => (if bdOk l then s.writeRec recBD l else s.tornRec recBD l).setStat BOOT_CMD stDONE
  | _ => (s.writeRec recCOR l).setStat BOOT_CMD stDONE

/-- BOOT_COMMAND_DONE (R476): the flash writes or the verification of a BUSY command are finished. -/
def execBootCommandDone (s : State) : Host.Outcome State Fault Refusal :=
  settled <| match s.boot.busy with
    | none => s
    | some (op, l) => (s.bootSet fun b => { b with busy := none }).bootDone op l

/-- ACTIVATE (R472), RESTART (R473), CONFIRM (R476), REVERT (R474). -/
def execBootActivate (s : State) : Host.Outcome State Fault Refusal := settled (if s.running then s.bootActivate else s)
def execBootRestart (s : State) : Host.Outcome State Fault Refusal := settled (if s.running then s.bootRestart else s)
def execBootConfirm (s : State) : Host.Outcome State Fault Refusal := settled (if s.running then s.bootConfirm else s)
def execBootRevert (s : State) : Host.Outcome State Fault Refusal := settled (if s.running then s.bootRevert else s)
/-- SAVE (R479), STAGE (R471), STOREBD (R457), STORECOR (R468). -/
def execBootSave (s : State) : Host.Outcome State Fault Refusal := settled (if s.running then s.bootSave else s)
def execBootStage (running : Bool) (s : State) : Host.Outcome State Fault Refusal :=
  settled (if s.running then s.bootStage running else s)
def execStorebd (s : State) : Host.Outcome State Fault Refusal := settled (if s.running then s.bootStorebd else s)
def execStorecor (s : State) : Host.Outcome State Fault Refusal := settled (if s.running then s.bootStorecor else s)

/-! ### Recovery mode (R481-R483) -/

/-- Status bytes of a response (R481). -/
abbrev rcOK : Nat := 0
abbrev rcBADCRC : Nat := 1
abbrev rcREFUSED : Nat := 2
abbrev rcFAILED : Nat := 3

/-- A response frame on the UART console (R481). -/
def uartFrame (typ seq : Nat) (l : List Byte) : List Byte :=
  let b := [BitVec.ofNat 8 (typ + 0x80), BitVec.ofNat 8 seq] ++ natLE 2 l.length ++ l
  0xA5#8 :: b ++ natLE 2 (crc16 b)

def State.uartAnswer (s : State) (typ seq st : Nat) (l : List Byte) : State :=
  s.skdSet fun k => { k with out := .bus 2 (uartFrame typ seq (BitVec.ofNat 8 st :: l)) :: k.out }

/-- A recovery request: only in recovery mode, and only with a CRC that checks (R481). -/
def State.recoveryRow (s : State) (typ seq : Nat) (crc : Bool) (f : State → State) : State :=
  if s.phase ≠ .recovery then s else if !crc then s.uartAnswer typ seq rcBADCRC [] else f s

/-- BOOT_FUSE (R485). -/
def State.fuseWord (s : State) : Nat :=
  let bits (p : Nat → Bool) : Nat := ((List.range 4).map fun i => if p i then 2 ^ i else 0).sum
  (if s.boot.prod then 1 else 0) + 2 * bits (fun i => lget 0 s.boot.keys i ≠ 0) + 32 * bits (fun i => s.boot.revoked.contains i) +
    512 * s.boot.fsec

/-- GLB_ID (R451). -/
def State.idWord (s : State) : Nat := (s.rd GLB_ID).toNat % 65536 + 65536 * Config.stepping.toNat

/-- RECOVERY_INFO (R482): its items in the order of the table (log entry 64). -/
def execRecoveryInfo (seq : Nat) (crc : Bool) (s : State) : Host.Outcome State Fault Refusal :=
  settled (s.recoveryRow 1 seq crc fun s => s.uartAnswer 1 seq rcOK (natLE 4 s.idWord ++ natLE 8 Config.unitSN.toNat ++
    natLE 4 s.fuseWord ++ s.bsrBytes ++ natLE 8 (s.imgVersion 0) ++ natLE 8 (s.imgVersion 1)))

/-- RECOVERY_BAUD (R482): the rate changes after the response. -/
def execRecoveryBaud (seq : Nat) (crc : Bool) (rate : Nat) (s : State) : Host.Outcome State Fault Refusal :=
  settled (s.recoveryRow 2 seq crc fun s =>
    if decide (rate < 115200 ∨ 3000000 < rate) then s.uartAnswer 2 seq rcREFUSED []
    else (s.uartAnswer 2 seq rcOK []).bootSet fun b => { b with baud := rate })

/-- A slot is marked EMPTY before its first piece (R482). -/
def State.recoveryEmpty (s : State) (k : Nat) : State :=
  if s.boot.erased.contains k then s
  else (s.bsrWrite [(0x0C + k, 1, slEMPTY)]).bootSet fun b =>
    { b with erased := k :: b.erased, chk := lset b.chk k 16, img := b.img.filter fun x => x.1 / 1024 ≠ k }

/-- RECOVERY_WRITE (R482); `ok`: the readback agrees. -/
def execRecoveryWrite (seq : Nat) (crc : Bool) (slot piece pcrc : Nat) (data : List Byte) (ok : Bool) (s : State) :
    Host.Outcome State Fault Refusal :=
  settled (s.recoveryRow 3 seq crc fun s =>
    if decide (2 ≤ slot ∨ 1024 ≤ piece ∨ 16384 < data.length) || crc32c data ≠ pcrc then s.uartAnswer 3 seq rcREFUSED []
    else
      let s : State := s.recoveryEmpty slot
      if ok then (s.bootSet fun b => { b with img := minsert (1024 * slot + piece) data (merase (1024 * slot + piece) b.img) }).uartAnswer
        3 seq rcOK []
      else s.uartAnswer 3 seq rcFAILED [])

/-- RECOVERY_COMMIT (R482, R483): full verification, then the record. -/
def execRecoveryCommit (seq : Nat) (crc : Bool) (slot len : Nat) (s : State) : Host.Outcome State Fault Refusal :=
  settled (s.recoveryRow 4 seq crc fun s =>
    if 2 ≤ slot then s.uartAnswer 4 seq rcREFUSED []
    else match (if s.imgLen slot ≠ len then 1 else s.verifyImage slot true) with
      | 0 => (s.bsrWrite [(8, 1, slot), (0x0C + slot, 1, slGOOD), (9, 1, 0xFF), (0x10 + 8 * slot, 8, s.imgVersion slot)]).uartAnswer
          4 seq rcOK []
      | r => s.uartAnswer 4 seq rcFAILED [BitVec.ofNat 8 r])

/-- RECOVERY_ERASE (R483): only with BOOTSEL 0b11. -/
def execRecoveryErase (seq : Nat) (crc : Bool) (mask : Nat) (s : State) : Host.Outcome State Fault Refusal :=
  settled (s.recoveryRow 5 seq crc fun s =>
    if s.get GLB_STRAP_BOOTSEL ≠ 3 then s.uartAnswer 5 seq rcREFUSED []
    else
      let s : State := if mask.testBit 0 then s.eraseRec recKEYS else s
      let s : State := if mask.testBit 1 then (s.eraseRec (recSettings 0)).eraseRec (recSettings 1) else s
      let s : State := if mask.testBit 2 then s.bootSet fun b => { b with dl := none } else s
      s.uartAnswer 5 seq rcOK [])

/-- RECOVERY_WRITEBD (R482): bytes of the copy not in force, whose CRC decides at the next start. -/
def execRecoveryWritebd (seq : Nat) (crc : Bool) (offset : Nat) (data : List Byte) (s : State) :
    Host.Outcome State Fault Refusal :=
  settled (s.recoveryRow 6 seq crc fun s =>
    if 65536 < offset + data.length then s.uartAnswer 6 seq rcREFUSED []
    else
      let c := match s.copyNum recBD with | some 0 => 1 | _ => 0
      let old := match s.boot.recs.find? (fun x => x.1 = 2 * recBD + c) with | some x => x.2.data | none => []
      let l := putAt (padTo (max old.length offset) old) offset data
      (s.bootSet fun b => { b with recs := minsert (2 * recBD + c) ⟨numAt l 8 4, false, l⟩ (merase (2 * recBD + c) b.recs) }).uartAnswer
        6 seq rcOK [])

/-- RECOVERY_BOOT (R482): a restart on the normal path. -/
def execRecoveryBoot (seq : Nat) (crc : Bool) (s : State) : Host.Outcome State Fault Refusal :=
  settled (s.recoveryRow 7 seq crc fun s => (s.uartAnswer 7 seq rcOK []).restart true)

end Sys2Proof.Machine
end

