-- ==== Sys2Proof/Machine/Pwr.lean ====
section
/-! DEFINITION. Power commands (R488, R489), core voltage (R493), temperature (R494-R503) and ALERT_N (R548). -/

namespace Sys2Proof.Machine

def State.pwrSet (s : State) (f : PwrSt → PwrSt) : State := { s with pwr := f s.pwr }
def State.thmSet (s : State) (f : ThmSt → ThmSt) : State := { s with thm := f s.thm }

/-! ### Sensors (R494, R495) -/

/-- A sensor of a domain that the role powers (R494). -/
def State.sensorValid (s : State) (n : Nat) : Bool :=
  if 24 ≤ n then decide (n < 26) && s.lampSide
  else s.head || n = 0 || decide (8 ≤ n ∧ n ≤ 12) || decide (14 ≤ n ∧ n ≤ 19)

/-- Samples of a sensor, newest first. -/
def State.sensorHist (s : State) (n : Nat) : List (Nat × Int) :=
  match s.thm.hist.find? (fun x => x.1 = n) with | some x => x.2 | none => []

/-- The last sample of each valid sensor. -/
def State.readings (s : State) : List (Nat × Int) :=
  (List.range 26).filterMap fun n => if s.sensorValid n then (s.sensorHist n).head?.map fun x => (n, x.2) else none

/-- A level in 1/16 °C is reached: the last two samples lie at or above it (R495). -/
def reached (h : List (Nat × Int)) (lvl : Int) : Bool :=
  match h with | a :: b :: _ => decide (lvl ≤ a.2 ∧ lvl ≤ b.2) | _ => false
/-- It is reached now and was not before. -/
def newly (h : List (Nat × Int)) (lvl : Int) : Bool := reached h lvl && !reached (h.drop 1) lvl

/-- The sum of 16 samples from the one at the front. -/
def sum16 (h : List (Nat × Int)) : Option Int := if 16 ≤ h.length then some ((h.take 16).map Prod.snd).sum else none

/-- Sixteen times the rise of R498: the mean of the last 16 samples minus the same mean 1 s earlier; 0 without that history. -/
def rise16 (h : List (Nat × Int)) : Int :=
  match h with
  | [] => 0
  | a :: _ =>
    match sum16 h, sum16 (h.dropWhile fun x => decide (a.1 < x.1 + 1000000000)) with
    | some x, some y => x - y
    | _, _ => 0

/-- A sample enters the history of its sensor, which holds a little more than 1 s. -/
def State.pushSample (s : State) (n : Nat) (t : Int) : State :=
  let h := (s.now, t) :: ((s.sensorHist n).filter fun x => decide (s.now ≤ x.1 + 1100000000))
  s.thmSet fun k => { k with hist := (n, h) :: k.hist.filter fun x => x.1 ≠ n }

/-- THM_SENS and, for a lane quad, its temperature (R494, R495). -/
def State.showSample (s : State) (n : Nat) (t : Int) : State :=
  let s : State := s.setAll [(THM_SENS_T n, ofInt 16 t), (THM_SENS_VALID n, 1), (THM_SENS_FAST n, if 1520 ≤ t then 1 else 0)]
  if 16 ≤ n ∧ n ≤ 23 then s.set (LNK_QSTAT_TEMP (n - 16)) (ofInt 16 t) else s

/-! ### Notifications and STATE (R502, R503) -/

/-- A THERMAL record (R503): event, sensor or supply channel, reading. -/
def State.thermal (s : State) (ev n : Nat) (v : Int) : State := s.notify nTHERMAL (ev + 16 * n + 65536 * ofInt 16 v)

/-- THM_STAT.STATE codes (R502). -/
abbrev thNORMAL : Nat := 0
abbrev thWARN : Nat := 1
abbrev thSTOPPING : Nat := 2
abbrev thSTOPPED : Nat := 3
abbrev thTRIPPED : Nat := 4

/-- STATE after a trip, a stop or a warning has ended (log entry 68). -/
def State.thmRest (s : State) : State := s.set THM_STAT_STATE (if s.thm.warn || s.bit THM_STAT_MEMOVERT then thWARN else thNORMAL)

/-- An orderly stop is in progress (R488, R499). -/
def State.inStop (s : State) : Bool := s.get THM_STAT_STATE = thSTOPPING

/-! ### Commands (R488, R489) -/

/-- PWR_STAT.REASON codes (R488). -/
abbrev prHOT : Nat := 1
abbrev prNOLAMP : Nat := 2
abbrev prSTATE : Nat := 3
abbrev prRANGE : Nat := 4

/-- HV_EN at level `b`; low without a lamp side (R487). -/
def State.hvDrive (s : State) (b : Bool) : State :=
  let b := b && s.lampSide
  ({ s with pins := { s.pins with hvEn := b } } : State).set PWR_STAT_HVEN (if b then 1 else 0)

/-- Some sensor reads at or above RESUME (R488). -/
def State.hot (s : State) : Bool := s.readings.any fun x => decide ((16 * s.get THM_CFG_RESUME : Nat) ≤ x.2)

/-- Why PWR_CMD is refused (R488; log entry 69). -/
def State.powerRefusal (s : State) (t : Nat) : Option Nat :=
  if psSHOW < t then some prRANGE
  else if decide (psSTANDBY < t) && (s.hot || s.bit THM_STAT_TRIPPED) then some prHOT
  else if t = psSHOW && !s.lampSide then some prNOLAMP
  else if s.inStop || (t = psOFF && s.power = psOFF) then some prSTATE
  else none

/-- The transition toward `t` begins; a stop that ended is over once the host commands a state above STANDBY (log entry 68). -/
def State.powerTo (s : State) (t : Nat) : State :=
  let s : State := (s.pwrSet fun p => { p with auto := none }).setAll [(PWR_STAT_TARGET, t), (PWR_STAT_TRANS, 1)]
  if psSTANDBY < t then
    let s : State := s.thmSet fun k => { k with stopAt := none, zero := false }
    (if s.get THM_STAT_STATE = thSTOPPED then s.thmRest else s).set THM_STAT_STOPF 65536
  else s

/-- PWR_CMD (R488). -/
def State.powerCommand (s : State) (t : Nat) : State :=
  s.command PWR_CMD t fun s =>
    match s.powerRefusal t with
    | some r => (s.set PWR_STAT_REASON r).setStat PWR_CMD stREFUSED
    | none => if t = s.power && !s.bit PWR_STAT_TRANS then s.setStat PWR_CMD stDONE else (s.powerTo t).setStat PWR_CMD stBUSY

/-- POWER_COMMAND (R488). -/
def execPowerCommand (target : Nat) (s : State) : Host.Outcome State Fault Refusal :=
  settled (if s.running then s.powerCommand (target % 8) else s)

/-- The transition in progress is abandoned for a thermal one: a command reads FAILED (R489). -/
def State.abandon (s : State) : State :=
  let s : State := (s.pwrSet fun p => { p with auto := none }).setAll [(PWR_STAT_TRANS, 0), (PWR_STAT_TARGET, 0)]
  if s.busy PWR_CMD then s.setStat PWR_CMD stFAILED else s

/-- A transition of the unit's own toward `t`. -/
def State.autoTo (s : State) (t : Nat) : State :=
  (s.pwrSet fun p => { p with auto := some t }).setAll [(PWR_STAT_TARGET, t), (PWR_STAT_TRANS, 1)]

/-! ### Core voltage (R493) -/

/-- The set point in force: the last step sent, before the first one the measured output. -/
def State.setPoint (s : State) : Nat :=
  match s.pwr.vcmd with
  | some v => v.2.1
  | none => if s.pwr.vset = 0 then s.get PWR_VMEAS_MV else s.pwr.vset

/-- PWR_VCMD: 700-800 mV in steps of 5 (R493). -/
def State.voltageCommand (s : State) (mv : Nat) : State :=
  let from0 := s.setPoint
  s.command PWR_VCMD mv fun s =>
    if mv < 700 ∨ 800 < mv ∨ mv % 5 ≠ 0 then (s.set PWR_STAT_REASON prRANGE).setStat PWR_VCMD stREFUSED
    else (s.pwrSet fun p => { p with vcmd := some (mv, from0, s.now) }).setStat PWR_VCMD stBUSY

/-- VCMD (R493): in every state except OFF. -/
def execVcmd (mv : Nat) (s : State) : Host.Outcome State Fault Refusal :=
  settled (if s.running then s.voltageCommand (mv % 1024) else s)

/-- The next set point on the way to `t`: a multiple of 5 mV at most 5 mV away. -/
def nextStep (t cur : Nat) : Nat := if cur < t then min t (cur / 5 * 5 + 5) else max t ((cur + 4) / 5 * 5 - 5)

/-- A PMBus VOUT_COMMAND on I2C1: address, command code, value in mV (log entry 70). -/
def State.sendStep (s : State) (mv : Nat) : State :=
  s.skdSet fun k => { k with out := .bus 1 ([BitVec.ofNat 8 (s.get PWR_VCFG_PMADDR), 0x21#8] ++ natLE 2 mv) :: k.out }

/-- The command ends; the voltage reached stays in force (R493). -/
def State.voltageEnd (s : State) (st mv : Nat) : State :=
  (s.pwrSet fun p => { p with vcmd := none, vset := mv }).setStat PWR_VCMD st

/-- VOLTAGE_STEP (R493): PWR_VMEAS reads `meas`; `ack`: the regulator acknowledges the next step. -/
def execVoltageStep (meas : Nat) (ack : Bool) (s : State) : Host.Outcome State Fault Refusal :=
  settled <| match s.pwr.vcmd with
    | none => s
    | some (t, cur, at0) =>
      let s : State := s.set PWR_VMEAS_MV (min 1023 meas)
      let slew := max 1 (s.get PWR_VCFG_SLEW)
      if decide (meas ≤ cur + 10 ∧ cur ≤ meas + 10) then
        if t = cur then s.voltageEnd stDONE t
        else if s.now * slew < at0 * slew + 5000000 then s
        else if !ack then s.voltageEnd stFAILED cur
        else
          let n := nextStep t cur
          (s.sendStep n).pwrSet fun p => { p with vcmd := some (t, n, s.now) }
      else if at0 + 5000000 ≤ s.now then s.voltageEnd stFAILED cur
      else s

/-! ### Warning, stop and trip (R497-R501) -/

/-- The warning level is reached (R497). -/
def State.warnAt (s : State) (n : Nat) (t : Int) : State :=
  if s.thm.warn then s
  else
    let s : State := (s.thmSet fun k => { k with warn := true }).setAll [(THM_STAT_WARN, 1), (THM_STAT_SENSOR, n)]
    let s : State := (s.bump THM_WARNS).thermal 1 n t
    if s.get THM_STAT_STATE = thNORMAL then s.set THM_STAT_STATE thWARN else s

/-- The warning clears once every sensor reads below 97 °C (R497). -/
def State.warnClear (s : State) (n : Nat) (t : Int) : State :=
  if !s.thm.warn || s.readings.any (fun x => decide (1552 ≤ x.2)) then s
  else
    let s : State := (s.thmSet fun k => { k with warn := false }).thermal 2 n t
    if s.get THM_STAT_STATE = thWARN then s.thmRest else s

/-- An orderly stop (R499): in STANDBY and HALT it only notifies. -/
def State.stopNow (s : State) (cause n : Nat) (t : Int) : State :=
  let s : State := (s.set THM_STAT_SENSOR n).thermal 3 n t
  if !s.ready then s
  else
    let s : State := (s.abandon.bump PWR_AUTO).setAll [(PWR_STAT_LASTAUTO, cause), (THM_STAT_STATE, thSTOPPING)]
    s.thmSet fun k => { k with stopAt := some s.now, zero := false }

/-- The stop may start: none is in progress or complete, no trip holds. -/
def State.mayStop (s : State) : Bool := s.thm.stopAt.isNone && !s.bit THM_STAT_TRIPPED

/-- What THM hardware cuts (R500): sinks and gates, SUPCTL at SAFE, HV_EN, engines and samplers. -/
def State.cutPower (s : State) : State :=
  let s : State := (s.unlight.lpeStop).hvDrive false
  let s : State := (List.range 64).foldl (fun (s : State) e => if s.engOn e then s.gateEngine e else s) s
  { s with cmp := { s.cmp with next := none, slots := [] } }

/-- The hardware trip (R500). -/
def State.tripNow (s : State) (n : Nat) (t : Int) : State :=
  let s : State := (s.abandon.cutPower.bump THM_TRIPS).bump PWR_AUTO
  let s : State := s.setAll [(PWR_STAT_LASTAUTO, 2), (THM_STAT_STATE, thTRIPPED), (THM_STAT_TRIPPED, 1), (THM_STAT_SENSOR, n)]
  let s : State := (s.thmSet fun k => { k with tripAt := some s.now, stopAt := none, zero := false }).thermal 5 n t
  if psSTANDBY < s.power then s.autoTo psSTANDBY else s

/-- A fast rise (R498): counted when it begins; a sensor at or above RORFLOOR stops the unit while RORACT = 1. -/
def State.riseCheck (s : State) (n : Nat) (t : Int) : State :=
  let h := s.sensorHist n
  let lim : Int := (16 * s.get THM_CFG_ROR : Nat)
  if rise16 h ≤ lim then s
  else
    let s : State := if rise16 (h.drop 1) ≤ lim then
      ((s.setAll [(THM_STAT_ROR, 1), (THM_STAT_SENSOR, n)]).bump THM_RORS).thermal 6 n t else s
    let stop : Bool := s.bit THM_CFG_RORACT && decide ((16 * s.get THM_CFG_RORFLOOR : Nat) ≤ t)
    if stop && s.mayStop && (s.ready || decide (rise16 (h.drop 1) ≤ lim)) then s.stopNow 3 n t else s

/-- A sample acts on the levels (R495, R497-R500). -/
def State.thmAct (s : State) (n : Nat) (t : Int) : State :=
  let h := s.sensorHist n
  let s : State := if reached h 1600 then s.warnAt n t else s
  let s : State := if reached h 1920 && !s.bit THM_STAT_TRIPPED then s.tripNow n t
    else if reached h 1760 && s.mayStop && (s.ready || newly h 1760) then s.stopNow 1 n t
    else s
  (s.riseCheck n t).warnClear n t

/-- The next sample of sensor `n` is due: 1 ms, or 0.1 ms while FAST (R495). -/
def State.sampleDue (s : State) (n : Nat) : Bool :=
  match s.sensorHist n with
  | [] => true
  | a :: _ => decide (a.1 + (if s.bit (THM_SENS_FAST n) then 100000 else 1000000) ≤ s.now)

/-- THM_SAMPLE (R495): sensor `n` reads `t`, 1/16 °C. -/
def execThmSample (n : Nat) (t : Int) (s : State) : Host.Outcome State Fault Refusal :=
  settled (if s.running && s.sensorValid n && s.sampleDue n then ((s.pushSample n t).showSample n t).thmAct n t else s)

/-- STOP_FACTOR_ZERO (R499): 200 ms into a stop; without launch times the steps down begin at once (log entry 68). -/
def execStopFactorZero (s : State) : Host.Outcome State Fault Refusal :=
  settled <| match s.thm.stopAt with
    | none => s
    | some t =>
      if !s.running || !s.inStop || s.thm.zero || decide (s.now < t + 200000000) then s
      else
        let s : State := (s.thmSet fun k => { k with zero := true }).set THM_STAT_STOPF 0
        let s : State := { s with cmp := { s.cmp with next := none } }
        if s.gridRuns then s else s.autoTo psSTANDBY

/-- The next launch time after the factor reached 0: the unit steps down to STANDBY (R499). -/
def State.stopDown (s : State) : State := if s.inStop && s.thm.zero && !s.bit PWR_STAT_TRANS then s.autoTo psSTANDBY else s

/-- STANDBY reached at the end of an orderly stop (R499). -/
def State.stopEnds (s : State) : State :=
  if !s.inStop then s
  else
    let n := s.get THM_STAT_SENSOR
    let t := match (s.sensorHist n).head? with | some x => x.2 | none => 0
    ((s.bump THM_STOPS).setAll [(THM_STAT_STOPPED, 1), (THM_STAT_STATE, thSTOPPED)]).thermal 4 n t

/-! ### Housekeeping (R496, R530) -/

/-- Recommended range of supply channel `k`, mV; VDD_CORE lies within 15 mV of its set point (R530). -/
def State.supplyRange (s : State) (k : Nat) : Nat × Nat :=
  match k with
  | 0 => (s.setPoint - 15, s.setPoint + 15)
  | 1 => (820, 880)
  | 2 => (870, 930)
  | 3 => (1164, 1236)
  | 4 => (1010, 1120)
  | 5 => (470, 570)
  | 6 => (1710, 1890)
  | 7 => (4750, 5250)
  | 8 => (11400, 12600)
  | _ => (2600, 9000)

/-- A supply reading (R496): a supply that leaves its range is reported (log entries 66, 67). -/
def State.supplyRead (s : State) (k v : Nat) : State :=
  let r := s.supplyRange k
  let ok : Bool := decide (r.1 ≤ v ∧ v ≤ r.2)
  let was := s.bit (THM_SUP_OK k) || !s.bit THM_STAT_SUPPLY
  let s : State := s.setAll [(THM_SUP_MV k, min 65535 v), (THM_SUP_OK k, if ok then 1 else 0)]
  if ok || (decide (7 ≤ k) && !s.lampSide) then s
  else
    let s : State := s.set THM_STAT_SUPPLY 1
    if was then s.thermal 8 k v else s

/-- The pair with the greatest second part. -/
def maxBy : List (Nat × Int) → Option (Nat × Int)
  | [] => none
  | x :: l => match maxBy l with | some y => some (if x.2 < y.2 then y else x) | none => some x

/-- THM_MAX and THM_RORMAX (R496, R502). -/
def State.thmMax (s : State) : State :=
  let s : State := match maxBy s.readings with
    | some x => s.setAll [(THM_MAX_T, ofInt 16 x.2), (THM_MAX_SENSOR, x.1)]
    | none => s
  match maxBy ((s.readings.map Prod.fst).map fun n => (n, rise16 (s.sensorHist n))) with
  | some x => s.setAll [(THM_RORMAX_RISE, ofInt 16 (x.2 / 16)), (THM_RORMAX_SENSOR, x.1)]
  | none => s

/-- MEMOVERT follows the channels; a device that rises above its range is a warning (R135, R496). -/
def State.memOver (s : State) : State :=
  let hot := (List.range 16).any fun c => s.bit (MEM_CH_STAT_OVERT c)
  let was := s.bit THM_STAT_MEMOVERT
  let s : State := s.set THM_STAT_MEMOVERT (if hot then 1 else 0)
  let s : State := if hot && !was then ((s.set THM_STAT_WARN 1).bump THM_WARNS).thermal 7 0 0 else s
  if s.get THM_STAT_STATE ≤ thWARN then s.thmRest else s

/-- HOUSEKEEPING_ROUND (R496): the ten supply channels in mV. -/
def execHousekeepingRound (mv : List Nat) (s : State) : Host.Outcome State Fault Refusal :=
  settled <|
    if s.running && decide (s.thm.nextRound ≤ s.now) && mv.length = 10 then
      let s : State := s.thmSet fun k => { k with nextRound := s.now + 50000000 }
      let s : State := if s.pwr.vcmd.isNone then s.set PWR_VMEAS_MV (min 1023 (mv.headD 0)) else s
      (mv.zipIdx.foldl (fun (s : State) x => s.supplyRead x.2 x.1) s).thmMax.memOver
    else s

/-! ### Pins -/

/-- Some tile is unplaced (R282). -/
def State.someUnplaced (s : State) : Bool := s.head && (List.range 1024).any fun t => s.tileState t = tUNPLACED

/-- ALERT_N is asserted (R548). -/
def State.alert (s : State) : Bool :=
  s.servo = svREJECT || (List.range 32).any (fun l => s.bit (LNK_LSTAT_BRFAIL l)) ||
  (List.range 16).any (fun c => s.bit (MEM_CH_STAT_OVERT c)) || s.someUnplaced || s.bit LDU_STAT_HVFLT ||
  decide (s.get LCR_DET_ALERTN < s.get LCR_FLCNT_COUNT) || (s.rdn.lost && s.rdnState = rdSOLO) || s.bit RDN_STAT_SELFBAD ||
  s.bit THM_STAT_SUPPLY || s.thm.warn

/-- TRIP_N is asserted (R500, R501). -/
def State.trip (s : State) : Bool := s.bit THM_STAT_TRIPPED

end Sys2Proof.Machine
end

