-- ==== Sys2Proof/Machine/Wall.lean ====
section
/-! DEFINITION. Wall commands (R328-R333): what a unit does with an arm, and what a head and the coordinator do. -/

namespace Sys2Proof.Machine

def State.wcSet (s : State) (f : WcSt → WcSt) : State := { s with wc := f s.wc }

/-! ### Messages (R328) -/

/-- OP codes. -/
abbrev woARM : Nat := 1
abbrev woARMED : Nat := 2
abbrev woREFUSED : Nat := 3
abbrev woCOMMIT : Nat := 4
abbrev woABORT : Nat := 5
abbrev woDONE : Nat := 6
abbrev woNOTARMED : Nat := 7
abbrev woHREPORT : Nat := 8

/-- REASON codes of SKD_WC_FAIL (R336); 0: none. -/
abbrev wrBUSY : Nat := 1
abbrev wrNOSET : Nat := 2
abbrev wrRANGE : Nat := 3
abbrev wrNOLAMP : Nat := 4
abbrev wrSTATE : Nat := 5
abbrev wrLATE : Nat := 6
abbrev wrNOREPLY : Nat := 7
abbrev wrNOTARMED : Nat := 8

/-- TYPE codes. -/
abbrev wtCALSET : Nat := 1
abbrev wtBRIGHT : Nat := 2
abbrev wtGRID : Nat := 3

/-- A WALLCMD payload (R328): OP, TYPE, FLAGS, REASON, CMDID, COORD, D_A, T, PARAM, HCOUNT. -/
def wcPayload (op typ flags reason id coord dead t : Nat) (par : List Byte) (hc : Nat) : List Byte :=
  [BitVec.ofNat 8 op, BitVec.ofNat 8 typ, BitVec.ofNat 8 flags, BitVec.ofNat 8 reason] ++ natLE 2 id ++ natLE 2 coord ++
  timeBytes dead ++ timeBytes t ++ padTo 32 par ++ natLE 4 hc

/-- A payload read back. -/
structure WcMsg where
  op : Nat
  typ : Nat
  flags : Nat
  reason : Nat
  id : Nat
  coord : Nat
  dead : Nat
  t : Nat
  par : List Byte
  hc : Nat

def readWc (l : List Byte) : WcMsg :=
  ⟨numAt l 0 1, numAt l 1 1, numAt l 2 1, numAt l 3 1, numAt l 4 2, numAt l 6 2, timeAt l 8, timeAt l 18, slice l 28 32, numAt l 60 4⟩

/-- A head's own unit address. -/
def State.headAddr (s : State) : Nat := s.headNum * 1024

/-- A frame of service `svc` to head `h` whose body names unit `a` (log entry 60). -/
def State.sendVia (s : State) (h a : Nat) (pl : List Byte) : State :=
  let (f, s) := s.svcFrame vWALLCMD a false pl
  s.sendTo (h * 1024) { f with dest := h * 1024 }

/-! ### A unit and its arm (R330, R332, R333) -/

/-- PARAM words. -/
def wcPar (par : List Byte) (i : Nat) : Nat := numAt par (4 * i) 4

/-- CALSET: a set stored, keyed and staged (R330, R333). -/
def State.armCalset (s : State) (par : List Byte) : Nat × Nat × State :=
  let n := wcPar par 0 % 256
  if !s.lampSide then (wrNOLAMP, 0, s)
  else if decide (n < 8) && (s.get LCR_SETS_KEYED).testBit n && (s.get LCR_SETS_STAGED).testBit n then (0, n, s)
  else (wrNOSET, 0, s)

/-- BRIGHT: values within R402, staged in the lowest free target entry. -/
def State.armBright (s : State) (id : Nat) (par : List Byte) : Nat × Nat × State :=
  let c := wcPar par 0 % 16
  let lim (i : Nat) : Bool := decide (1 ≤ wcPar par i ∧ wcPar par i ≤ 32767 * 65536)
  if !s.lampSide then (wrNOLAMP, 0, s)
  else if s.get (LPE_CH_CFG_REFSRC c) ≠ 1 || decide (65536 < wcPar par 1) || !lim 2 || !lim 3 || !lim 4 then (wrRANGE, 0, s)
  else match (List.range 64).find? (fun i => !s.bit (LPE_TGT_W0_VALID i) && !s.bit (LPE_TGT_W0_HELD i)) with
    | none => (wrSTATE, 0, s)
    | some i =>
      let s : State := (List.range 4).foldl (fun (s : State) j => s.wr (LPE_TGT i j) (BitVec.ofNat 32 (wcPar par (1 + j)))) s
      (0, i, s.setAll [(LPE_TGT_W0_CH i, c), (LPE_TGT_W0_VALID i, 1), (LPE_TGT_W0_HELD i, 1), (LPE_TGT_W0_CMDID i, id)])

/-- The grid of a GRID command. -/
def wcGrid (par : List Byte) : GridSet :=
  ⟨wcPar par 0 % 2 ^ 20, wcPar par 1 % 2 ^ 16, wcPar par 1 / 2 ^ 16 % 16, wcPar par 2 % 2 ^ 24⟩

/-- The scan timing fits the grid, with the geometry in force or armed (R344). -/
def State.scanFits (s : State) (g : GridSet) : Bool :=
  !s.lampSide || (match s.ldu.geom with
    | some (a, b, _) => geomBad g a b
    | none => geomBad g (s.rd LDU_GEOM0A) (s.rd LDU_GEOM1A)).isNone

/-- GRID: R51, R57 and the scan timing met, servo LOCKED; a head stages it (R51). -/
def State.armGrid (s : State) (par : List Byte) : Nat × Nat × State :=
  let g := wcGrid par
  if !g.ok || !s.scanFits g then (wrRANGE, 0, s)
  else if s.servo ≠ svLOCKED then (wrSTATE, 0, s)
  else if !s.head then (0, 0, s)
  else match (List.range 4).find? (fun i => !s.bit (TMU_GSTG_W0_VALID i)) with
    | none => (wrSTATE, 0, s)
    | some i => (0, i, s.setAll [(TMU_GSTG_W0_NUM i, g.num), (TMU_GSTG_W0_VALID i, 1), (TMU_GSTG_W1_DEN i, g.den),
        (TMU_GSTG_W2_SLOTS i, g.slots), (TMU_GSTG_W3_CYC i, g.cyc)])

/-- SKD_WC_UNIT of a TYPE (R336). -/
def State.showArm (s : State) (m : WcMsg) : State :=
  let i := m.typ - 1
  (s.setAll [(SKD_WC_UNIT_W0_CMDID i, m.id), (SKD_WC_UNIT_W0_PHASE i, 1), (SKD_WC_UNIT_W1_NS i, wallNs m.dead),
    (SKD_WC_UNIT_W3_COORD i, m.coord)]).wr (SKD_WC_UNIT_W2 i) (BitVec.ofNat 32 (wallSec m.dead))

/-- The type's own check and staging. -/
def State.wcCheck (s : State) (m : WcMsg) : Nat × Nat × State :=
  match m.typ with
  | 1 => s.armCalset m.par
  | 2 => s.armBright m.id m.par
  | 3 => s.armGrid m.par
  | _ => (wrRANGE, 0, s)

/-- A unit meets an ARM (R330): its REASON, 0 when it arms. -/
def State.unitArm (s : State) (src : Nat) (m : WcMsg) : Nat × State :=
  match s.wc.said.find? (fun x => x.1 = m.id && x.2.1 = m.coord && x.2.2.1 = m.typ) with
  | some x => (x.2.2.2, s)
  | none =>
    let q : Nat × Nat × State :=
      if m.dead < s.tm.wall then (wrLATE, 0, s)
      else if s.wc.arms.any (fun a => a.typ = m.typ) then (wrBUSY, 0, s)
      else s.wcCheck m
    let s : State := q.2.2
    let s : State := if q.1 = 0 then (s.wcSet fun w => { w with arms := ⟨m.typ, m.id, src, m.dead, m.t, m.par, q.2.1⟩ :: w.arms }).showArm m else s
    (q.1, s.wcSet fun w => { w with said := (m.id, m.coord, m.typ, q.1) :: w.said.take 15 })

/-- The arm of a command that the unit holds. -/
def State.armOf (s : State) (id typ : Nat) : Option WcArm := s.wc.arms.find? fun a => a.id = id && a.typ = typ

/-- The arm leaves; its word in SKD_WC_UNIT reads `ph`: 2 committed, 3 reverted, 0 none. -/
def State.armGone (s : State) (a : WcArm) (ph : Nat) : State :=
  (s.wcSet fun w => { w with arms := w.arms.filter fun x => x ≠ a }).set (SKD_WC_UNIT_W0_PHASE (a.typ - 1)) ph

/-- What was staged is discarded (R332, R333). -/
def State.unstage (s : State) (a : WcArm) : State :=
  if a.typ = wtBRIGHT then s.setAll [(LPE_TGT_W0_VALID a.staged, 0), (LPE_TGT_W0_HELD a.staged, 0)]
  else if a.typ = wtGRID && s.head then s.set (TMU_GSTG_W0_VALID a.staged) 0
  else s

/-- The launch-queue entry of a TYPE: action and ARG; none for a tile's GRID. -/
def State.armEntry (s : State) (a : WcArm) : Option (Nat × Nat) :=
  match a.typ with
  | 1 => some (aCALSET, a.staged)
  | 2 => some (aRAMP, wcPar a.par 0 % 16 + 16 * a.staged)
  | _ => if s.head then some (aGRID, a.staged) else none

/-- COMMIT (R332): the entry is posted at T; the REASON of DONE is LATE for an entry that came late, STATE for one that
found no place. -/
def State.unitCommit (s : State) (a : WcArm) : Nat × State :=
  let s : State := s.armGone a 2
  match s.armEntry a with
  | none => (0, s)
  | some (act, arg) =>
    match s.lqPost act arg a.t with
    | (none, s) => (wrSTATE, s)
    | (some k, s) => (if s.lqWord k 3 / 2 ^ 28 = 3 || s.lqWord k 3 / 2 ^ 28 = 4 then wrLATE else 0, s)

/-- An answer of this unit to unit `a`. -/
def State.wcAnswer (s : State) (a op typ reason id coord : Nat) : State :=
  s.sendSvc vWALLCMD a (wcPayload op typ 0 reason id coord 0 0 [] 0)

/-- What a unit does with COMMIT (R332): OP and REASON of its answer. -/
def State.unitDecide (s : State) (id typ : Nat) (commit : Bool) : Nat × Nat × State :=
  match s.armOf id typ with
  | none => (woNOTARMED, wrNOTARMED, s)
  | some a =>
    if commit then
      let (r, s) := s.unitCommit a
      (woDONE, r, s)
    else (woDONE, 0, (s.unstage a).armGone a 0)

/-! ### The jobs of a head (R329, R331) -/

/-- FLAGS of a message: BESTEFF, and the model's mark for a whole section (log entry 60). -/
def wcFlags (best sect : Bool) : Nat := (if best then 1 else 0) + (if sect then 2 else 0)

def WcJob.payload (j : WcJob) (op reason : Nat) (sect : Bool) (hc : Nat) : List Byte :=
  wcPayload op j.typ (wcFlags j.best sect) reason j.id j.coord j.dead j.t j.par hc

/-- The job of a command. -/
def State.job (s : State) (id coord : Nat) : Option WcJob := s.wc.jobs.find? fun j => j.id = id && j.coord = coord
def State.setJob (s : State) (j : WcJob) : State :=
  s.wcSet fun w => { w with jobs := w.jobs.map fun x => if x.id = j.id && x.coord = j.coord then j else x }
/-- This head coordinates the job. -/
def State.coordinates (s : State) (j : WcJob) : Bool := j.coord = s.headAddr

def WcJob.armed (j : WcJob) : Nat := (j.units.filter fun u => u.ans = some 0).length
def WcJob.failed (j : WcJob) : Nat := (j.units.filter fun u => u.ans.isSome && u.ans ≠ some 0).length
def WcJob.answered (j : WcJob) : Bool := j.units.all fun u => u.ans.isSome

/-- A head has reported every unit asked of it. -/
def WcHead.complete (h : WcHead) : Bool :=
  match h.rep with
  | some r => h.list.isEmpty || decide (h.list.length ≤ r.1 + r.2)
  | none => false

/-- SKD_WC_CNT of the coordinator (R336). -/
def State.showCount (s : State) (j : WcJob) : State :=
  let more (h : WcHead) : Nat := match h.rep with | some r => max h.list.length (r.1 + r.2) | none => h.list.length
  let arm (h : WcHead) : Nat := match h.rep with | some r => r.1 | none => 0
  s.setAll [(SKD_WC_CNT_ADDRESSED, j.units.length + (j.heads.map more).sum), (SKD_WC_CNT_ARMED, j.armed + (j.heads.map arm).sum)]

/-- A failing unit enters the list, which holds 64 (R329, R336). -/
def State.addFail (s : State) (a reason : Nat) : State :=
  let n := s.get SKD_WC_NFAIL_FAILED
  let s : State := if n < 64 then s.setAll [(SKD_WC_FAIL_ADDR n, a), (SKD_WC_FAIL_REASON n, reason)] else s
  s.set SKD_WC_NFAIL_FAILED (n + 1)

/-- Units of this head other than itself. -/
def State.jobTiles (s : State) (j : WcJob) : List WcUnit := j.units.filter fun u => u.addr ≠ s.headAddr

/-- A message of the job to a unit of this section. -/
def State.toUnit (s : State) (j : WcJob) (op a : Nat) : State := s.sendSvc vWALLCMD a (j.payload op 0 false 0)

/-- A message to another head: one for its section, or one for each unit named (log entry 60). -/
def State.toHead (s : State) (j : WcJob) (op : Nat) (h : WcHead) : State :=
  if h.list.isEmpty then s.sendVia h.num (h.num * 1024) (j.payload op 0 true 0)
  else h.list.foldl (fun (s : State) a => s.sendVia h.num a (j.payload op 0 false 0)) s

/-- A message of the job to the tiles of this section: by broadcast on the chain ports concerned, or one by one. -/
def State.toSection (s : State) (j : WcJob) (op : Nat) (all : Bool) : State :=
  if all && !j.ports.isEmpty then
    j.ports.foldl (fun (s : State) p =>
      let (f, s) := s.svcFrame vWALLCMD (s.headNum * 1024 + p * 64) true (j.payload op 0 false 0)
      (s.bcastPorts p).foldl (fun (s : State) q => s.send q f) s) s
  else ((s.jobTiles j).filter fun u => all || u.ans = some 0).foldl (fun (s : State) u => s.toUnit j op u.addr) s

/-- This head's own answer as a unit. -/
def WcJob.setAns (j : WcJob) (a r : Nat) : WcJob :=
  { j with units := j.units.map fun u => if u.addr = a ∧ u.ans.isNone then { u with ans := some r } else u }
def WcJob.setDone (j : WcJob) (a : Nat) : WcJob :=
  { j with units := j.units.map fun u => if u.addr = a then { u with done := true } else u
           heads := j.heads.map fun h => if h.num * 1024 = a then { h with done := true } else h }

/-- A head arms its own units: itself, and its tiles (R329). -/
def State.armSection (s : State) (j : WcJob) : State :=
  let m : WcMsg := ⟨woARM, j.typ, wcFlags j.best false, 0, j.id, j.coord, j.dead, j.t, j.par, 0⟩
  let s : State := if (s.jobTiles j).isEmpty then s else s.toSection j woARM true
  if j.units.any (fun u => u.addr = s.headAddr && u.ans.isNone) then
    let (r, s) := s.unitArm s.headAddr m
    let s : State := if r ≠ 0 && s.coordinates j then s.addFail s.headAddr r else s
    s.setJob (j.setAns s.headAddr r)
  else s.setJob j

/-- The decision reaches the head itself and its units (R331, R332). -/
def State.applyDecision (s : State) (j : WcJob) (commit : Bool) : State :=
  let j : WcJob := { j with dec := some commit, next := s.now + 2000000 }
  let op := if commit then woCOMMIT else woABORT
  let s : State := s.toSection j op (!commit || decide (j.failed = 0 ∧ j.answered = true))
  let s : State := j.heads.foldl (fun (s : State) h => s.toHead j op h) s
  let mine := j.units.any fun u => u.addr = s.headAddr && (u.ans = some 0 || !commit)
  if mine then
    let q := s.unitDecide j.id j.typ commit
    let s : State := q.2.2
    (if commit && q.2.1 ≠ 0 && s.coordinates j then s.addFail s.headAddr q.2.1 else s).setJob (j.setDone s.headAddr)
  else s.setJob j

/-- SKD_WC_STAT.PHASE codes (R336). -/
abbrev wpARMING : Nat := 1
abbrev wpCOMMITTING : Nat := 2
abbrev wpCOMMITTED : Nat := 3
abbrev wpABORTED : Nat := 4
abbrev wpPARTIAL : Nat := 5

/-- Something failed at the coordinator. -/
def WcJob.someFailed (j : WcJob) : Bool :=
  decide (0 < j.failed) || j.heads.any fun h => match h.rep with | some r => decide (0 < r.2) | none => false

/-- The coordinator decides (R331, R441). -/
def State.wcDecide (s : State) (j : WcJob) (commit : Bool) : State :=
  let part := j.best && (j.someFailed || !j.answered || !j.heads.all WcHead.complete)
  let ph := if !commit then wpABORTED else if part then wpPARTIAL else wpCOMMITTING
  let s : State := s.set SKD_WC_STAT_PHASE ph
  (s.applyDecision j commit).notify nWCDONE (j.id + 2 ^ 16 * ph)

/-- A member tells the coordinator how many units armed and failed, then which failed (R329; log entry 61). -/
def State.sendHreport (s : State) (j : WcJob) (late : Bool) : State :=
  let bad := j.units.filter fun u => if u.ans.isNone then late else u.ans ≠ some 0
  let s : State := s.sendSvc vWALLCMD j.coord (j.payload woHREPORT 0 false (j.armed + 2 ^ 16 * bad.length))
  let s : State := (bad.take 64).foldl (fun (s : State) u =>
    s.sendSvc vWALLCMD j.coord (wcPayload woHREPORT j.typ 0 (u.ans.getD wrNOREPLY) j.id j.coord j.dead j.t (natLE 2 u.addr) 0)) s
  s.setJob { j with told := some (j.armed, bad.length) }

/-- What follows from the answers so far (R329, R331). -/
def State.wcAdvance (s : State) (id coord : Nat) : State :=
  match s.job id coord with
  | none => s
  | some j =>
    if !s.coordinates j then
      if j.dec.isNone && j.answered && j.told ≠ some (j.armed, j.failed) then s.sendHreport j false else s
    else
      let s : State := s.showCount j
      if j.dec.isSome then s
      else if !j.best && j.someFailed then s.wcDecide j false
      else if j.answered && j.heads.all WcHead.complete then s.wcDecide j true
      else s

/-! ### ISSUE and CANCEL (R329) -/

/-- Addresses of SKD_WC_LIST. -/
def State.wcList (s : State) : List Nat :=
  (List.range (min 64 (s.get SKD_WC_CFG_LISTN))).map fun i => getBits (s.rd (SKD_WC_LIST (i / 2))) (16 * (i % 2)) 16

/-- PRESENT tiles of chain `p` as addresses. -/
def State.chainUnits (s : State) (p : Nat) : List Nat := (s.presentOn p).map fun k => s.headAddr + 64 * p + k

/-- The whole section: the head and its PRESENT tiles (R329). -/
def State.sectionUnits (s : State) : List Nat :=
  s.headAddr :: ((List.range 16).filter fun p => s.role p = rCHAIN && !s.isTwin p).flatMap s.chainUnits

/-- Heads of SCOPE WALL. -/
def State.wcHeads (s : State) : List Nat :=
  (List.range 64).filter fun h => (s.rd (SKD_WC_HEADS (h / 32))).toNat.testBit (h % 32)

/-- Units of this head, chain ports for the broadcast, and other heads, for the scope in force (R329). -/
def State.wcScope (s : State) : List Nat × List Nat × List WcHead :=
  match s.get SKD_WC_CFG_SCOPE with
  | 0 =>
    let own (a : Nat) : Bool := a / 1024 = s.headNum
    let far := (List.range 64).filter fun h => h ≠ s.headNum && s.wcList.any fun a => a / 1024 = h
    ((s.wcList.filter own).eraseDups, [], far.map fun h => ⟨h, (s.wcList.filter fun a => a / 1024 = h).eraseDups, none, false⟩)
  | 1 => let p := s.get SKD_WC_CFG_CHAIN; (s.chainUnits p, [p], [])
  | 2 => (s.sectionUnits, s.sectionPorts, [])
  | _ =>
    let far := s.wcHeads.filter fun h => h ≠ s.headNum
    let heads : List WcHead := far.map fun h => ⟨h, [], none, false⟩
    if s.wcHeads.contains s.headNum then (s.sectionUnits, s.sectionPorts, heads) else ([], [], heads)

/-- T of SKD_WC_T0-T2. -/
def State.wcT (s : State) : Nat := wallOf ((s.rd SKD_WC_T1).toNat + 2 ^ 32 * s.get SKD_WC_T2_SH) (s.get SKD_WC_T0_NS)

/-- PARAM from SKD_WC_PAR0-PAR7. -/
def State.wcParams (s : State) : List Byte := (List.range 8).flatMap fun i => wordBytes (s.rd (SKD_WC_PAR i))

/-- The command that ISSUE starts. -/
def State.newJob (s : State) : WcJob :=
  let q := s.wcScope
  let dead := s.tm.wall / wNs * wNs + s.get SKD_WC_ARMT_ARMT * 10 ^ 6 * wNs
  ⟨s.wc.nextId, s.headAddr, s.get SKD_WC_CFG_TYPE, s.bit SKD_WC_CFG_BESTEFF, dead, s.wcT, s.wcParams, q.2.1,
    q.1.map fun a => ⟨a, none, false⟩, q.2.2, none, none, s.now + 2000000⟩

/-- ISSUE is refused (R329, R336). -/
def State.issueRefused (s : State) (j : WcJob) : Bool :=
  s.wc.jobs.any (fun x => s.coordinates x) || j.typ = 0 ||
  decide (j.t < j.dead + s.get SKD_WC_ARMT_CMIN * 10 ^ 6 * wNs) || (j.units.isEmpty && j.heads.isEmpty)

/-- SKD_WC_CMD ISSUE (R329). -/
def State.wcIssue (s : State) : State :=
  s.command SKD_WC_CMD 1 fun s =>
    let j := s.newJob
    if !s.head || s.issueRefused j then s.setStat SKD_WC_CMD stREFUSED
    else
      let s : State := s.wcSet fun w => { w with jobs := w.jobs ++ [j], nextId := w.nextId % 65535 + 1 }
      let s : State := (s.setAll [(SKD_WC_STAT_PHASE, wpARMING), (SKD_WC_STAT_CMDID, j.id), (SKD_WC_NFAIL_FAILED, 0),
        (SKD_WC_NFAIL_NODONE, 0)]).setStat SKD_WC_CMD stDONE
      let s : State := (List.range 64).foldl (fun (s : State) i => s.wr (SKD_WC_FAIL i) 0) s
      let s : State := j.heads.foldl (fun (s : State) h => s.toHead j woARM h) s
      ((s.showCount j).armSection j).wcAdvance j.id j.coord

/-- SKD_WC_CMD CANCEL: ABORT before the decision (R336). -/
def State.wcCancel (s : State) : State :=
  s.command SKD_WC_CMD 2 fun s =>
    match s.wc.jobs.find? (fun j => s.coordinates j && j.dec.isNone) with
    | some j => (s.wcDecide j false).setStat SKD_WC_CMD stDONE
    | none => s.setStat SKD_WC_CMD stREFUSED

/-- ISSUE and WC_CANCEL (R329). -/
def execWcIssue (s : State) : Host.Outcome State Fault Refusal := settled (if s.running then s.wcIssue else s)
def execWcCancel (s : State) : Host.Outcome State Fault Refusal := settled (if s.running then s.wcCancel else s)

/-! ### Reception (R330-R332) -/

/-- The unit named by the body of a message. -/
def wcTarget (f : Frame) : Nat := numAt f.pay 4 2

/-- A head asked by another to arm its section or one of its units (R329). -/
def State.memberArm (s : State) (f : Frame) (m : WcMsg) : State :=
  let want := if m.flags.testBit 1 then s.sectionUnits else [wcTarget f]
  let s : State := match s.job m.id m.coord with
    | some _ => s
    | none => s.wcSet fun w => { w with jobs := w.jobs ++ [⟨m.id, m.coord, m.typ, m.flags % 2 = 1, m.dead, m.t, m.par,
        if m.flags.testBit 1 then s.sectionPorts else [], [], [], none, none, s.now + 2000000⟩] }
  match s.job m.id m.coord with
  | none => s
  | some j =>
    let new := want.filter fun a => !j.units.any fun u => u.addr = a
    if new.isEmpty then s.sendHreport j false
    else (s.armSection { j with units := j.units ++ new.map fun a => ⟨a, none, false⟩ }).wcAdvance m.id m.coord

/-- An ARM at a tile: ARMED or REFUSED (R330). -/
def State.tileArm (s : State) (f : Frame) (m : WcMsg) : State :=
  let (r, s) := s.unitArm f.src m
  s.wcAnswer f.src (if r = 0 then woARMED else woREFUSED) m.typ r m.id m.coord

/-- A received frame is a WALLCMD of OP `op`. -/
def isWc (ops : List Nat) (f : Frame) : Bool := isSvc vWALLCMD f && ops.contains (numAt (svcPay f) 0 1)

/-- WALLCMD_ARM_RX (R330). -/
def execWallcmdArmRx (p : Nat) (s : State) : Host.Outcome State Fault Refusal :=
  settled (if s.running && decide (p < s.portCount) then match s.takeRx p (isWc [woARM]) with
      | some (i, s) => let m := readWc (svcPay i.f); if s.head then s.memberArm i.f m else s.tileArm i.f m
      | none => s
    else s)

/-- A decision at a unit: a tile answers, a head passes it on and answers (R332). -/
def State.decisionRx (s : State) (f : Frame) (commit : Bool) : State :=
  let m := readWc (svcPay f)
  if s.head then
    match s.job m.id m.coord with
    | none => s.wcAnswer f.src woNOTARMED m.typ wrNOTARMED m.id m.coord
    | some j => (if j.dec.isNone then s.applyDecision j commit else s).wcAnswer f.src woDONE m.typ 0 m.id m.coord
  else
    let q := s.unitDecide m.id m.typ commit
    q.2.2.wcAnswer f.src q.1 m.typ q.2.1 m.id m.coord

/-- WALLCMD_COMMIT_RX and WALLCMD_ABORT_RX (R332). -/
def execWallcmdCommitRx (p : Nat) (s : State) : Host.Outcome State Fault Refusal :=
  settled (if s.running && decide (p < s.portCount) then match s.takeRx p (isWc [woCOMMIT]) with
      | some (i, s) => s.decisionRx i.f true
      | none => s
    else s)
def execWallcmdAbortRx (p : Nat) (s : State) : Host.Outcome State Fault Refusal :=
  settled (if s.running && decide (p < s.portCount) then match s.takeRx p (isWc [woABORT]) with
      | some (i, s) => s.decisionRx i.f false
      | none => s
    else s)

/-- An HREPORT reaches the coordinator: the counts, or one failing unit (R329; log entry 61). -/
def State.hreportRx (s : State) (f : Frame) (m : WcMsg) (j : WcJob) : State :=
  if m.reason ≠ 0 then s.addFail (numAt m.par 0 2) m.reason
  else
    let h := f.src / 1024
    s.setJob { j with heads := j.heads.map fun x => if x.num = h then { x with rep := some (m.hc % 65536, m.hc / 65536) } else x }

/-- ARMED, REFUSED, DONE and NOTARMED of unit `a` (R331, R332). -/
def State.answerRx (s : State) (a : Nat) (m : WcMsg) (j : WcJob) : State :=
  let first := j.units.any fun u => u.addr = a && u.ans.isNone
  let known := j.units.any (fun u => u.addr = a && !u.done) || j.heads.any fun h => h.num * 1024 = a && !h.done
  let own := s.coordinates j
  if m.op = woARMED then s.setJob (j.setAns a 0)
  else if m.op = woREFUSED then (if first && own then s.addFail a m.reason else s).setJob (j.setAns a m.reason)
  else (if known && own && m.reason ≠ 0 then s.addFail a m.reason else s).setJob (j.setDone a)

/-- WALLCMD_ANSWER_RX (R331). -/
def execWallcmdAnswerRx (p : Nat) (s : State) : Host.Outcome State Fault Refusal :=
  settled (if s.running && s.head && decide (p < 16) then
      match s.takeRx p (isWc [woARMED, woREFUSED, woDONE, woNOTARMED, woHREPORT]) with
      | some (i, s) =>
        let m := readWc (svcPay i.f)
        match s.job m.id m.coord with
        | none => s
        | some j => (if m.op = woHREPORT then s.hreportRx i.f m j else s.answerRx i.f.src m j).wcAdvance m.id m.coord
      | none => s
    else s)

/-! ### Repetition and deadlines (R329, R331-R333) -/

/-- Everything confirmed, or the time for it is over. -/
def WcJob.settled (j : WcJob) (commit : Bool) : Bool :=
  j.units.all (fun u => u.done || (commit && u.ans ≠ some 0)) && j.heads.all fun h => h.done
def WcJob.over (j : WcJob) (wall : Nat) : Bool := decide (min j.t (j.dead + wSec) ≤ wall)

/-- Units that did not confirm are reported, and the command is finished (R332). -/
def State.jobEnds (s : State) (j : WcJob) (commit : Bool) : State :=
  let n := (j.units.filter fun u => !u.done && (!commit || u.ans = some 0)).length + (j.heads.filter fun h => !h.done).length
  let s : State := (s.wcSet fun w => { w with jobs := w.jobs.filter fun x => !(x.id = j.id && x.coord = j.coord) }).set
    SKD_WC_NFAIL_NODONE n
  if s.coordinates j && s.get SKD_WC_STAT_PHASE = wpCOMMITTING then s.set SKD_WC_STAT_PHASE wpCOMMITTED else s

/-- One repetition of a job (R329, R332). -/
def State.repeatJob (s : State) (j : WcJob) : State :=
  let s0 : State := s.setJob { j with next := s.now + 2000000 }
  match j.dec with
  | none =>
    if j.dead ≤ s.tm.wall + 10 ^ 6 * wNs then s0
    else
      let s : State := ((s0.jobTiles j).filter fun u => u.ans.isNone).foldl (fun (s : State) u => s.toUnit j woARM u.addr) s0
      (j.heads.filter fun h => h.rep.isNone).foldl (fun (s : State) h => s.toHead j woARM h) s
  | some c =>
    if j.settled c || j.over s.tm.wall then s.jobEnds j c
    else
      let op := if c then woCOMMIT else woABORT
      let s : State := ((s0.jobTiles j).filter fun u => !u.done && (!c || u.ans = some 0)).foldl
        (fun (s : State) u => s.toUnit j op u.addr) s0
      (j.heads.filter fun h => !h.done).foldl (fun (s : State) h => s.toHead j op h) s

/-- WALLCMD_REPEAT (R329, R332). A member that hears no decision gives its job up at D_A + 1 s (R333). -/
def execWallcmdRepeat (s : State) : Host.Outcome State Fault Refusal :=
  settled (if s.running && s.head then
      match s.wc.jobs.find? (fun j => decide (j.next ≤ s.now)) with
      | some j => if j.dec.isNone && !s.coordinates j && decide (j.dead + wSec ≤ s.tm.wall) then s.jobEnds j false else s.repeatJob j
      | none => s
    else s)

/-- HREPORT_DEADLINE (R329): D_A - 1 ms at a member. -/
def execHreportDeadline (s : State) : Host.Outcome State Fault Refusal :=
  settled (if s.running && s.head then
      match s.wc.jobs.find? (fun j => !s.coordinates j && j.told.isNone && j.dec.isNone && decide (j.dead ≤ s.tm.wall + 10 ^ 6 * wNs)) with
      | some j => s.sendHreport j true
      | none => s
    else s)

/-- Units and heads without an answer at D_A are reported (R331). -/
def State.noReplies (s : State) (j : WcJob) : State :=
  let s : State := (j.units.filter fun u => u.ans.isNone).foldl (fun (s : State) u => s.addFail u.addr wrNOREPLY) s
  (j.heads.filter fun h => !h.complete).foldl (fun (s : State) h => s.addFail (h.num * 1024) wrNOREPLY) s

/-- ARM_DEADLINE (R331): D_A at the coordinator. -/
def execArmDeadline (s : State) : Host.Outcome State Fault Refusal :=
  settled (if s.running && s.head then
      match s.wc.jobs.find? (fun j => s.coordinates j && j.dec.isNone && decide (j.dead ≤ s.tm.wall)) with
      | some j => (s.noReplies j).wcDecide j j.best
      | none => s
    else s)

/-- WALLCMD_REVERT (R333, R441): an arm held at D_A + 1 s. -/
def execWallcmdRevert (s : State) : Host.Outcome State Fault Refusal :=
  settled (if s.running then
      match s.wc.arms.find? (fun a => decide (a.dead + wSec ≤ s.tm.wall)) with
      | some a => (((s.unstage a).armGone a 3).bump SKD_WC_REVERTS).notify nWCREVERT (a.id + 2 ^ 16 * a.typ)
      | none => s
    else s)

end Sys2Proof.Machine
end

