-- ==== Sys2Proof/Machine/Image.lean ====
section
/-! DEFINITION. Addresses (R315-R317, R322), reports (R319) and images down the chains of a head (R334, R335). -/

namespace Sys2Proof.Machine

/-! ### DISCOVER at a tile (R315-R317, R322) -/

/-- A tile that adopts another address empties its receive ring and its scan-store slots (R317; log entry 72). -/
def State.emptySlots (s : State) : State :=
  let s : State := (List.range 16).foldl (fun (s : State) c => s.setFlume (16 * c) { s.flume (16 * c) with vis := [] }) s
  let s : State := s.skdSet fun k => { k with slices := [], next := 0 }
  let s : State := { s with fw := ⟨[], []⟩, ldu := { s.ldu with flips := [], on := [] } }
  s.setAll [(LDU_SHOW_VALID, 0), (LDU_SHOW_BLACK, 1), (LDU_SHOW_HCNT, 0)]

/-- The address is taken; answers whether it is the first since reset, and whether it differs from the one before. -/
def State.takeAddress (s : State) (a : Nat) : Bool × Bool × State :=
  let first := !s.skd.named
  let moved := s.bit SKD_ADDR_VALID && s.addr ≠ a
  let s : State := if moved then s.emptySlots else s
  (first, moved, (s.skdSet fun k => { k with named := true }).setAll [(SKD_ADDR_ADDR, a), (SKD_ADDR_VALID, 1), (SKD_TILE_STAT_OVER, 0)])

/-- The DISCOVER that port `p` took last (R315, R322). -/
def State.noteDiscover (s : State) (p pos id : Nat) : State :=
  s.skdSet fun k => { k with disc := (p, pos, id) :: k.disc.filter fun d => d.1 ≠ p }

/-- A DISCOVER on UP or UPT: position `k`, chain address `base`, ENUMID (R315, R316, R322; log entry 71). -/
def State.discovered (s : State) (p k base id : Nat) : State :=
  let twin : Bool := p = pUPT
  if k = 63 then (s.setAll [(SKD_TILE_STAT_OVER, 1), (SKD_ADDR_VALID, 0)]).sendReport base k id true false false twin
  else
    let a := base + k + 1
    let main := s.skd.disc.any fun d => d.1 = pUP
    let s : State := s.noteDiscover p k id
    if twin && main && s.bit SKD_ADDR_VALID then
      let s : State := s.set SKD_TILE_STAT_TWINMIS (if a = s.addr then 0 else 1)
      (s.passDiscover pDNT).sendReport base k id false false false true
    else
      let (first, moved, s) := s.takeAddress a
      (s.passDiscover (p + 1)).sendReport base k id false moved first twin

/-- DISCOVER_RX (R315, R316, R322): one that arrives on DN or DNT is ignored and counted. -/
def execDiscoverRx (p : Nat) (s : State) : Host.Outcome State Fault Refusal :=
  settled (if s.running && !s.head && decide (p < 4) then match s.takeRx p (fun f => f.typ = fDIS && f.fld 10 1 % 2 = 0) with
      | some (i, s) =>
        if p % 2 = 1 then s.bump SKD_CH_REVDISC
        else s.discovered p (i.f.fld 11 1 % 64) (i.f.src / 64 * 64) (i.f.fld 12 2)
      | none => s
    else s)

/-- REPORT_RX (R319). -/
def execReportRx (p : Nat) (s : State) : Host.Outcome State Fault Refusal :=
  settled (if s.running && s.head && decide (p < 16) then match s.takeRx p (fun f => f.typ = fDIS && f.fld 10 1 % 2 = 1) with
      | some (i, s) => s.report p i.f
      | none => s
    else s)

/-! ### Distribution (R334, R335) -/

def State.imgSet (s : State) (f : ImgSt → ImgSt) : State := { s with img := f s.img }

/-- SKD_IMG_STAT.STATE codes (R336). -/
abbrev imIDLE : Nat := 0
abbrev imPASS : Nat := 2
abbrev imQUERY : Nat := 3
abbrev imDONE : Nat := 4
abbrev imINC : Nat := 5

/-- Bytes and pieces of the image named. -/
def State.imgBytesN (s : State) : Nat := (s.rd SKD_IMG_LEN).toNat
def State.imgPieces (s : State) : Nat := pieceCount s.imgBytesN

/-- Chain ports of the distribution: those of SKD_IMG_PORTS that carry images (R334). -/
def State.imgPorts (s : State) : List Nat :=
  (List.range 16).filter fun p =>
    (s.get SKD_IMG_PORTS_PORTS).testBit p && s.bit (SKD_PORT_CFG_IMGEN p) && s.role p = rCHAIN && !s.isTwin p

/-- The distribution is in progress. -/
def State.imgBusy (s : State) : Bool := decide (1 ≤ s.get SKD_IMG_STAT_STATE ∧ s.get SKD_IMG_STAT_STATE ≤ 3)

/-- START (R334): the announcement, then the first pass. -/
def State.imgStart (s : State) : State :=
  s.command SKD_IMG_CMD 1 fun s =>
    if !s.head || s.imgBusy || !s.dramUp || s.imgBytesN = 0 || s.imgPorts.isEmpty then s.setStat SKD_IMG_CMD stREFUSED
    else
      let s : State := s.imgPorts.foldl (fun (s : State) p =>
        let (f, s) := s.svcFrame vIMGANN (s.headNum * 1024 + p * 64) true s.imgAnnounce
        (s.bcastPorts p).foldl (fun (s : State) q => s.send q f) s) s
      let s : State := { s with img := ⟨List.range s.imgPieces, s.now, [], [], []⟩ }
      (s.setAll [(SKD_IMG_STAT_STATE, imPASS), (SKD_IMG_STAT_PASS, 1), (SKD_IMG_STAT_NEXT, 0)]).setStat SKD_IMG_CMD stDONE

/-- STOP (R334). -/
def State.imgStop (s : State) : State :=
  s.command SKD_IMG_CMD 2 fun s =>
    if !s.head then s.setStat SKD_IMG_CMD stREFUSED
    else
      let s : State := if s.imgBusy then (s.imgSet fun _ => ⟨[], 0, [], [], []⟩).set SKD_IMG_STAT_STATE imIDLE else s
      s.setStat SKD_IMG_CMD stDONE

/-- IMG_START and IMG_STOP (R334). -/
def execImgStart (s : State) : Host.Outcome State Fault Refusal := settled (if s.running then s.imgStart else s)
def execImgStop (s : State) : Host.Outcome State Fault Refusal := settled (if s.running then s.imgStop else s)

/-- Piece `i` as a broadcast IMG frame on chain `p` (R291, R334). -/
def State.imgFrame (s : State) (p i : Nat) (l : List Byte) : Frame :=
  mkFrame fIMG (s.headNum * 1024 + p * 64) s.srcAddr true false
    (natLE 4 (s.rd SKD_IMG_ID).toNat ++ natLE 4 i ++ natLE 4 s.imgPieces ++ natLE 4 (crc32c l)) l

/-- IMG_PIECE_SEND (R334): the next needed piece on every port, at most one each GAP. -/
def execImgPieceSend (s : State) : Host.Outcome State Fault Refusal :=
  settled <|
    if s.running && s.head && s.dramUp && s.get SKD_IMG_STAT_STATE = imPASS && decide (s.img.next ≤ s.now) then
      match s.img.need with
      | [] => s
      | i :: l =>
        let (b, s) := s.dramRead (pageOff (s.rd SKD_IMG_SRC) + 16384 * i) (pieceLen s.imgBytesN i)
        let s : State := s.imgPorts.foldl (fun (s : State) p =>
          (s.bcastPorts p).foldl (fun (s : State) q => s.send q (s.imgFrame p i b)) s) s
        (s.imgSet fun m => { m with need := l, next := s.now + s.get SKD_IMG_CFG_GAP * 1000000 }).set SKD_IMG_STAT_NEXT
          (match l with | j :: _ => j | [] => s.imgPieces)
    else s

/-- The two reads of a tile's download state in one request (R335, R432). -/
def State.imgQuery (s : State) (a : Nat) : State :=
  let (t, s) := s.ownRequest a 2 (opHeader 1 1 BOOT_DLSTAT 0 ++ opHeader 1 32 (BOOT_DLMAP 0) 0)
  let s : State := s.awaitOwn t a true
  s.imgSet fun m => { m with wait := m.wait ++ [a] }

/-- PRESENT tiles of the ports. -/
def State.imgTiles (s : State) : List Nat :=
  s.imgPorts.flatMap fun p => (s.presentOn p).map fun k => s.headNum * 1024 + 64 * p + k

/-- A tile's answer, or none (R335): the pieces it misses. -/
def State.imgAnswer (s : State) (a : Nat) (l : Option (List Byte)) : State :=
  let n := s.imgPieces
  let miss : List Nat := match l with
    | some b =>
      if numAt b 0 4 % 4 = 2 then [] else (List.range n).filter fun i => !(numAt b (4 + i / 32 * 4) 4).testBit (i % 32)
    | none => []
  s.imgSet fun m => { m with
    wait := m.wait.filter fun x => x ≠ a
    miss := (List.range n).filter fun i => m.miss.contains i || miss.contains i
    inc := if l.isNone || !miss.isEmpty then m.inc ++ [a] else m.inc }

/-- The pass is over and every map is known, or given up (R335). -/
def State.imgPlan (s : State) : State :=
  let s : State := s.set SKD_IMG_INC_TILES s.img.inc.length
  if s.img.inc.isEmpty then s.set SKD_IMG_STAT_STATE imDONE
  else if s.get SKD_IMG_CFG_PASSES ≤ s.get SKD_IMG_STAT_PASS then s.set SKD_IMG_STAT_STATE imINC
  else
    let need := s.img.miss
    (s.imgSet fun m => ⟨need, m.next, [], [], []⟩).setAll [(SKD_IMG_STAT_STATE, imPASS),
      (SKD_IMG_STAT_PASS, s.get SKD_IMG_STAT_PASS + 1), (SKD_IMG_STAT_NEXT, need.headD s.imgPieces)]

/-- IMG_PASS_END (R335): the pieces of the pass are sent, and the tiles are asked; then the next pass is planned. -/
def execImgPassEnd (s : State) : Host.Outcome State Fault Refusal :=
  settled <|
    if !s.running || !s.head then s
    else if s.get SKD_IMG_STAT_STATE = imPASS && s.img.need.isEmpty then
      s.imgTiles.foldl (fun (s : State) a => s.imgQuery a) ((s.set SKD_IMG_STAT_STATE imQUERY).imgSet fun m =>
        { m with wait := [], miss := [], inc := [] })
    else if s.get SKD_IMG_STAT_STATE = imQUERY && s.img.wait.isEmpty then s.imgPlan
    else s

end Sys2Proof.Machine
end

