-- ==== Sys2Proof/Machine/Cvu.lean ====
section
/-! DEFINITION. Check-value units (R447-R451): the check, the binding to a stream, and what a checked message carries. -/

namespace Sys2Proof.Machine

/-- Width, POLY, INIT and XOROUT of unit `u` (R447). -/
def State.cvuWidth (s : State) (u : Nat) : Nat := s.get (CVU_CFG_WIDTH u)
def State.cvuPoly (s : State) (u : Nat) : Nat := (s.rd (CVU_POLYL u)).toNat + 2 ^ 32 * (s.rd (CVU_POLYH u)).toNat
def State.cvuInit (s : State) (u : Nat) : Nat := (s.rd (CVU_INITL u)).toNat + 2 ^ 32 * (s.rd (CVU_INITH u)).toNat
def State.cvuXor (s : State) (u : Nat) : Nat := (s.rd (CVU_XORL u)).toNat + 2 ^ 32 * (s.rd (CVU_XORH u)).toNat

/-- The configuration keeps R447: WIDTH 1-64, and no bit of POLY, INIT and XOROUT above it. -/
def State.cvuCfgOk (s : State) (u : Nat) : Bool :=
  let w := s.cvuWidth u
  decide (1 ≤ w ∧ w ≤ 64 ∧ s.cvuPoly u < 2 ^ w ∧ s.cvuInit u < 2 ^ w ∧ s.cvuXor u < 2 ^ w)

/-- The check of unit `u` over `l` (R447). -/
def State.cvuCheck (s : State) (u : Nat) (l : List Byte) : Nat :=
  crcOf (s.cvuWidth u) (s.cvuPoly u) (s.cvuInit u) (s.bit (CVU_CFG_REFIN u)) (s.bit (CVU_CFG_REFOUT u)) (s.cvuXor u) l

/-- Bytes of the check value (R449). -/
def State.cvuBytes (s : State) (u : Nat) : Nat := (s.cvuWidth u + 7) / 8

/-- An address of four words; IPv4 in word 0. -/
def State.addrWords (s : State) (w : Nat → Nat) (v6 : Bool) : Nat :=
  if v6 then (s.rd (w 0)).toNat + 2 ^ 32 * (s.rd (w 1)).toNat + 2 ^ 64 * (s.rd (w 2)).toNat + 2 ^ 96 * (s.rd (w 3)).toNat
  else (s.rd (w 0)).toNat

/-- The stream unit `u` names (R448). -/
def State.cvuStream (s : State) (u : Nat) : Peer :=
  let v6 := s.bit (CVU_BPORT_IPV6 u)
  ⟨s.get (CVU_BPORT_PORT u), v6, s.addrWords (CVU_BADDR u) v6, s.get (CVU_BPORT_UDP u)⟩

/-- The enabled unit bound to a stream (R448). -/
def State.cvuOf (s : State) (p : Peer) : Option Nat :=
  (List.range 4).find? fun u => s.bit (CVU_STAT_EN u) && decide (s.cvuStream u = p)

/-- CVU_STAT.REASON codes. -/
abbrev cvBOUND : Nat := 1
abbrev cvBADCFG : Nat := 2
abbrev cvROLE : Nat := 3

/-- Why ENABLE is refused (R447, R448; the order is that of log entry 74). -/
def State.cvuRefusal (s : State) (u : Nat) : Option Nat :=
  if !s.head then some cvROLE
  else if !s.cvuCfgOk u then some cvBADCFG
  else if (List.range 4).any (fun v => v ≠ u && s.bit (CVU_STAT_EN v) && decide (s.cvuStream v = s.cvuStream u)) then some cvBOUND
  else none

/-- CVU_CMD ENABLE (R448). -/
def State.cvuEnable (s : State) (u : Nat) : State :=
  s.command (CVU_CMD u) 1 fun s =>
    match s.cvuRefusal u with
    | some r => (s.set (CVU_STAT_REASON u) r).setStat (CVU_CMD u) stREFUSED
    | none => ((s.set (CVU_STAT_EN u) 1).ctlSet fun c => { c with first := u :: c.first.filter (· ≠ u) }).setStat (CVU_CMD u) stDONE

/-- CVU_CMD DISABLE (R448). -/
def State.cvuDisable (s : State) (u : Nat) : State :=
  s.command (CVU_CMD u) 2 fun s => (s.set (CVU_STAT_EN u) 0).setStat (CVU_CMD u) stDONE

/-- ENABLE and DISABLE (R448). -/
def execCvuEnable (u : Nat) (s : State) : Host.Outcome State Fault Refusal :=
  settled (if s.running && decide (u < 4) then s.cvuEnable u else s)
def execCvuDisable (u : Nat) (s : State) : Host.Outcome State Fault Refusal :=
  settled (if s.running && decide (u < 4) then s.cvuDisable u else s)

/-- The ALIVE of a checked request against the last one received (R450). -/
def State.cvuAlive (s : State) (u a : Nat) : State :=
  let last := s.get (CVU_STAT_RXALV u)
  let s : State :=
    if s.ctl.first.contains u then s.ctlSet fun c => { c with first := c.first.filter (· ≠ u) }
    else if a = last then (s.bump (CVU_ALVREP u)).set (CVU_STAT_ALVREP u) 1
    else if a ≠ (last + 1) % 256 then (s.bump (CVU_ALVSKIP u)).set (CVU_STAT_ALVSKIP u) 1
    else s
  s.set (CVU_STAT_RXALV u) a

/-- What a check of a request finds (R449, R435): its body, or the message status, which is BADMSG for one too short and
CHECK for a mismatch. -/
def State.cvuReceive (s : State) (u : Nat) (l : List Byte) : Except Nat (List Byte) × State :=
  let v := s.cvuBytes u
  if l.length < v + 1 then (.error 0x0C, s)
  else
    let n := l.length - v
    if leNat (l.drop n) = s.cvuCheck u (l.take n) then
      (.ok (l.take (n - 1)), ((s.bump (CVU_RXOK u)).cvuAlive u ((l.getD (n - 1) 0).toNat)))
    else (.error 0x0E, (s.bump (CVU_RXBAD u)).set (CVU_STAT_CHKFAIL u) 1)

/-- ALIVE and the check appended to a body that leaves on the stream (R449, R450). -/
def State.cvuSend (s : State) (u : Nat) (l : List Byte) : List Byte × State :=
  let a := s.get (CVU_STAT_TXALV u)
  let b := l ++ [BitVec.ofNat 8 a]
  (b ++ natLE (s.cvuBytes u) (s.cvuCheck u b), (s.set (CVU_STAT_TXALV u) ((a + 1) % 256)).bump (CVU_TXMSG u))

end Sys2Proof.Machine
end

