-- ==== Sys2Proof/Machine/Regs.lean ====
section
/-! DEFINITION. Writes of registers by the host (R6-R11, R61, R429, R435): which words refuse which values and states,
what a write of each starts, and the commands of the CMD registers. -/

namespace Sys2Proof.Machine

/-! ### Power in the role (R16, R119, R143, R229) -/

/-- The register word at `a` belongs to a block, quad, channel, engine or context that has no power in the role. -/
def State.unpowered (s : State) (a : Nat) : Bool :=
  !s.head &&
  (decide (0x50000 ≤ a ∧ a < 0x60000) ||                                   -- LNK Q4-Q7
   decide (0x80000 ≤ a ∧ a < 0xC0000) ||                                   -- ETH
   decide (0x101200 ≤ a ∧ a < 0x102000) ||                                 -- MEM channels 2-15
   decide (0x148000 ≤ a ∧ a < 0x180000) ||                                 -- PE08-PE63
   decide (0x200400 ≤ a ∧ a < 0x300000) ||                                 -- contexts 16-16,383
   decide (0x300000 ≤ a ∧ a < 0x330000) || decide (0x331000 ≤ a ∧ a < 0x340000) ||  -- CMP, CREW1-CREW7
   decide (0x400000 ≤ a ∧ a < 0x440000))                                   -- RDN

/-! ### Plain writes (R6, R9, R61) -/

/-- Bits of a word. -/
def Fld.of (f : Fld) (v : Word) : Nat := getBits v f.lo f.w

/-- RW bits take the written value, ST and W1C bits written 1 clear, every other bit keeps its value (R6, R9). -/
def writeBits (rw w1 : Nat) (old v : Word) : Word :=
  let m := BitVec.ofNat 32 rw
  ((old &&& ~~~ m) ||| (v &&& m)) &&& ~~~ (v &&& BitVec.ofNat 32 w1)

/-- The word written by its row of the register table. -/
def State.store (s : State) (r : RegRow) (a : Nat) (v : Word) : State :=
  (s.wr a (writeBits r.rw r.w1 (s.rd a) v)).answer rOK

/-- A counter written: 1 to OV, in its second word, clears it; everything else is ignored (R61). -/
def State.writeCounter (s : State) (r : RegRow) (a : Nat) (v : Word) : State :=
  if (a - r.lo) % r.s1 % r.s2 = 4 && v.toNat.testBit 31 then (s.clearCount (a - 4)).answer rOK else s.answer rOK

/-! ### Commands (R10, R11) -/

/-- An operation code that the register does not list is refused. -/
def State.badOp (s : State) (a v : Nat) : State := s.command a v fun s => s.setStat a stREFUSED

/-- What the EEPROM of the lamp board answers to a read that the host's write starts: free bytes (log entry 75). -/
def State.eeprom (s : State) : List Byte × State :=
  ((List.range 256).map fun i => Config.freeByte (s.fresh * 2 ^ 48 + i), { s with fresh := s.fresh + 1 })

def State.cmdTmu (s : State) (v : Nat) : State :=
  match v % 16 with
  | 1 => s.tmuAcquire
  | 2 => s.tmuSlew
  | 3 => s.tmuStep
  | 4 => s.lqCancel (v / 2 ^ 12 % 4) (v / 16 % 256)
  | 5 => s.tmuHold
  | 6 => s.tmuResume
  | _ => s.badOp TMU_CMD v

def State.cmdLane (s : State) (l v : Nat) : State :=
  match v % 16 with
  | 1 => s.retrain l
  | 2 => s.laneCal l
  | 3 => s.laneIdle l
  | 4 => s.laneWake l
  | 5 => s.prbsOn l
  | 6 => s.prbsOff l
  | n => s.laneCommand l n fun s => (stREFUSED, s)

def State.cmdEng (s : State) (e v : Nat) : State :=
  let t := v / 16 % 8
  match v % 16 with
  | 1 => s.engStop e
  | 2 => s.engResume e
  | 3 => s.engStep e t
  | 4 => s.engClear e t
  | 5 => s.engGate e
  | 6 => s.engUngate e
  | n => s.engCommand e n t fun s => s.engRefuse e

def State.cmdLut (s : State) (c v : Nat) : State :=
  let k := v / 16 % 4
  let u := v / 64 % 8
  let z := v / 512 % 2
  match v % 16 with
  | 1 => s.lutLoad c k u z
  | 2 => s.lutUnload c k u z
  | 3 => s.lutMark c k u z
  | _ => s.badOp (CMP_CREW_LUTCMD c) v

def State.cmdTdp (s : State) (v : Nat) : State :=
  let t := v / 16 % 1024
  match v % 16 with
  | 1 => s.tdpSpawn
  | 2 => s.tdpKill t
  | 3 => s.tdpSignal t
  | 4 => s.tdpSetprio t (v / 2 ^ 14 % 32)
  | _ => s.badOp TDP_CMD v

def State.cmdFlm (s : State) (v : Nat) : State :=
  match v % 16 with
  | 1 => s.flmCtxAlloc .host
  | 2 => s.flmCtxFree .host
  | 3 => s.flmSetDepth .host (v / 16 % 32)
  | 4 => s.flmPush .host
  | 5 => s.flmGopen .host (v / 512 % 256)
  | 6 => s.flmGclose .host
  | 7 => s.flmGskip .host
  | _ => s.command FLM_CMD v fun s => s.flmRefuse fBADARG

def State.cmdCmp (s : State) (v : Nat) : State :=
  match v % 16 with
  | 1 => s.cmpLoad (v / 16 % 32)
  | 2 => s.cmpUnload (v / 16 % 32)
  | 3 => s.cmpArm (v / 512 % 2 = 1)
  | 4 => s.cmpDisarm
  | _ => s.badOp CMP_CMD v

def State.cmdPlc (s : State) (v : Nat) : State :=
  let e := v / 16 % 64
  let t := v / 1024 % 1024
  match v % 16 with
  | 1 => s.plcVacate e
  | 2 => s.plcRestore e
  | 3 => s.plcReplace
  | 4 => s.plcReclaim t
  | 5 => s.plcReturn t
  | _ => s.command CMP_PLC_CMD v fun s => s.plcRefuse 3

def State.cmdLdu (s : State) (v : Nat) : State :=
  match v % 16 with
  | 1 => s.armGeom
  | 2 => s.armDrv
  | 3 => s.lduDisarm
  | _ => s.badOp LDU_CMD v

def State.cmdLcr (s : State) (v : Nat) : State :=
  match v % 16 with
  | 1 => s.lcrStoreset (v / 16 % 8)
  | 2 => s.lcrEraseset (v / 16 % 8)
  | 3 => s.lcrStoremap
  | 4 => let (ee, s) := s.eeprom; s.lcrRescan ee
  | 5 => s.lcrCal
  | 6 => s.lcrProbe
  | 7 => s.lcrProbestop
  | 8 => s.lcrShorttest
  | 9 => s.clrflt
  | _ => s.badOp LCR_CMD v

def State.cmdRdn (s : State) (v : Nat) : State :=
  match v % 16 with
  | 1 => s.rdnDrill (v / 16 % 4096)
  | 2 => s.rdnClear
  | 3 => s.rdnResync
  | _ => s.badOp RDN_CMD v

def State.cmdBoot (s : State) (v : Nat) : State :=
  match v % 16 with
  | 1 => s.bootActivate
  | 2 => s.bootRestart
  | 3 => s.bootConfirm
  | 4 => s.bootRevert
  | 5 => s.bootSave
  | 6 => s.bootStage (v / 16 % 2 = 1)
  | 7 => s.bootStorebd
  | 8 => s.bootStorecor
  | _ => s.badOp BOOT_CMD v

def State.cmdDl (s : State) (v : Nat) : State :=
  match v % 16 with
  | 1 => s.bootDlOpen
  | 2 => s.bootDlPiece
  | 3 => s.bootDlAbort
  | _ => s.badOp BOOT_DLCMD v

/-- Two operations, 1 and 2, of a command register. -/
def State.cmdTwo (s : State) (a v : Nat) (one two : State → State) : State :=
  if v % 16 = 1 then one s else if v % 16 = 2 then two s else s.badOp a v

/-- The command `v` written to the CMD register at `a`. -/
def State.writeCmd (s : State) (a v : Nat) : State :=
  if a = PWR_CMD then s.powerCommand (v % 8)
  else if a = PWR_VCMD then s.voltageCommand (v % 1024)
  else if a = TMU_CMD then s.cmdTmu v
  else if a < 0x80000 then s.cmdLane (4 * ((a - 0x40000) / 0x4000) + (a - 0x40000) % 0x4000 / 0x800 - 2) v
  else if a < 0x82000 then
    let f := (a - 0x81000) / 0x100
    s.cmdTwo a v (fun s => s.flowOpen f) (fun s => s.flowClose f)
  else if a < 0x83000 then s.stillFence ((a - 0x82000) / 0x20) (v % 2 ^ 28)
  else if a = ETH_MON_CMD then if v % 16 = 3 then s.monArm else s.cmdTwo a v State.monStart State.monStop
  else if a = SKD_ENUM then
    if v % 16 = 1 then s.skdEnumCmd (v / 16 % 16) (v / 256 % 2 = 1) else s.badOp a v
  else if a = SKD_WC_CMD then s.cmdTwo a v State.wcIssue State.wcCancel
  else if a = SKD_IMG_CMD then s.cmdTwo a v State.imgStart State.imgStop
  else if a = MEM_FREQ then s.memFreq (v % 2)
  else if a < 0x180000 then s.cmdEng ((a - 0x140000) / 0x1000) v
  else if a = TDP_CMD then s.cmdTdp v
  else if a = FLM_CMD then s.cmdFlm v
  else if a = CMP_CMD then s.cmdCmp v
  else if a = CMP_PLC_CMD then s.cmdPlc v
  else if a < 0x340000 then s.cmdLut ((a - 0x330000) / 0x1000) v
  else if a = LDU_CMD then s.cmdLdu v
  else if a = LCR_CMD then s.cmdLcr v
  else if a = RDN_CMD then s.cmdRdn v
  else if a < 0x4C0000 then
    let u := (a - 0x480000) / 0x100
    s.cmdTwo a v (fun s => s.cvuEnable u) (fun s => s.cvuDisable u)
  else if a = BOOT_CMD then s.cmdBoot v
  else if a = BOOT_DLCMD then s.cmdDl v
  else if v % 16 = 1 then s.trcClear else s.badOp TRC_CMD v

/-! ### Ranges of fields (R435) -/

/-- The value breaks a range that the register's chapter states for a field (log entry 76). -/
def rangeBad (head : Bool) (a : Nat) (v : Word) : Bool :=
  let out (f : Fld) (lo hi : Nat) : Bool := decide (f.of v < lo ∨ hi < f.of v)
  if a = PWR_VCFG then out PWR_VCFG_SLEW 1 255
  else if a = TMU_PTP_CFG then head && (out TMU_PTP_CFG_ARTO 2 10 || out TMU_PTP_CFG_DLYAVG 0 6)
  else if a = TMU_TIM then out TMU_TIM_PER 0 6 || out TMU_TIM_PDLY 0 8
  else if a = TMU_PPS then out TMU_PPS_WIDTH 1 255
  else if a = TMU_MCLK 0 ∨ a = TMU_MCLK 1 then decide (4 < getBits v 0 3)
  else if 0x41000 ≤ a ∧ a < 0x60000 ∧ a % 0x800 = 0x20 then out (LNK_PRBS_PAT 0) 0 8
  else if (0x81000 ≤ a ∧ a < 0x82000 ∧ a % 0x100 = 4) ∨ (0x82000 ≤ a ∧ a < 0x83000 ∧ a % 0x20 = 4) then
    out (ETH_FLOW_FMT_SAMP 0) 0 2 || out (ETH_FLOW_FMT_TF 0) 0 2
  else if a = ETH_MON_CFG then out ETH_MON_CFG_TF 0 2 || out ETH_MON_CFG_DIV 0 2
  else if a = ETH_MON_TIMING then out ETH_MON_TIMING_PPL 1 15
  else if a = SKD_CFG then out SKD_CFG_RXNBUF 32 256
  else if a = SKD_CH_CFG then out SKD_CH_CFG_CTLTO 1 255
  else if a = SKD_WC_ARMT then out SKD_WC_ARMT_ARMT 1 1000 || out SKD_WC_ARMT_CMIN 2 1000
  else if a = SKD_IMG_CFG then out SKD_IMG_CFG_GAP 1 1000 || out SKD_IMG_CFG_PASSES 1 15
  else if a = MEM_TRN then out MEM_TRN_PER 1 255
  else if a = MEM_REF then out MEM_REF_POLL 1 255
  else if 0x140000 ≤ a ∧ a < 0x180000 ∧ a % 0x1000 = 0 then decide (getBits v 0 8 < 1 ∨ 128 < getBits v 0 8)
  else if a = FLM_DEFD0 ∨ a = FLM_DEFD1 ∨ a = FLM_DEFD2 then (List.range 6).any fun k => decide (16 < getBits v (5 * k) 5)
  else if a = CMP_CFG then out CMP_CFG_CODEKB 1 128
  else if 0x301000 ≤ a ∧ a < 0x301800 ∧ a % 0x20 = 0 then getBits v 13 2 = 3
  else if a = CMP_PACE then out CMP_PACE_LEAD 1 7
  else if a = CMP_PLC_CFG then decide (CMP_PLC_CFG_HI.of v ≤ CMP_PLC_CFG_LO.of v)
  else if 0x3C1000 ≤ a ∧ a < 0x3C2000 then
    match a % 0x100 with
    | 0x00 => out (LPE_CH_CFG_COMB 0) 0 2 || out (LPE_CH_CFG_DEST 0) 0 2
    | 0x04 => decide (4 < getBits v 0 4)
    | 0x0C => decide (getBits v 0 14 < 1 ∨ 10000 < getBits v 0 14)
    | 0x68 => decide (v.toInt ≤ 0)
    | 0x6C => decide (v.toInt ≤ 0)
    | 0x70 => decide (v.toInt ≤ 0)
    | _ => false
  else if a = RDN_CFG then out RDN_CFG_WAIT 1 255
  else if a = THM_CFG then out THM_CFG_ROR 1 255 || out THM_CFG_RESUME 60 97
  else if a = BOOT_CFG then out BOOT_CFG_STARTPS 0 2
  else false

/-! ### Words with rules of their own -/

/-- A write of a time-unit register (R45, R47, R51, R59, R60). -/
def State.writeTmu (s : State) (r : RegRow) (a : Nat) (v : Word) : State :=
  if a = TMU_LQ_IN3 then s.lqInsert v
  else if a = TMU_PTP_CFG && !s.head then s.answer rOK
  else if a = TMU_TIM && !s.head && TMU_TIM_PER.of v ≠ s.get TMU_TIM_PER then s.answer rSTATE
  else if (a = TMU_RATE || a = TMU_RATE_DEN || a = TMU_SLOTS || a = TMU_GSCLK) && (!s.head || s.gridRuns) then s.answer rSTATE
  else if a = TMU_MCLK 0 || a = TMU_MCLK 1 then (s.setMclk ((a - TMU_MCLK 0) / 4) (v.toNat % 16)).answer rOK
  else if a = TMU_PEER then (s.store r a v).peerWritten
  else s.store r a v

/-- EN of still layer `k` written (R105, R127): its buffers are placed, or given back. -/
def State.writeStill (s : State) (k : Nat) (on : Bool) : State :=
  if on = s.bit (ETH_STILL_CFG_EN k) then s.answer rOK
  else if on then
    let z := s.rd (ETH_STILL_SIZE k)
    if !formatOk (s.rd (ETH_STILL_FMT k)) (getBits z 0 16) (getBits z 16 16) then s.answer rRANGE
    else
      let (ok, t) := s.stillEnable k
      if ok then t.answer rOK else s.answer rSTATE
  else
    let s : State := (s.freeOwner (.still k 0)).freeOwner (.still k 1)
    let s : State := (((s.set (ETH_STILL_CFG_EN k) 0).wr (ETH_STILL_STAT k) 0).wr (ETH_STILL_BUF k 0) 0).wr (ETH_STILL_BUF k 1) 0
    (s.setStill k StillSt.init).answer rOK

/-- A write of an Ethernet register (R97, R105, R107). -/
def State.writeEth (s : State) (r : RegRow) (a : Nat) (v : Word) : State :=
  if 0x81000 ≤ a ∧ a < 0x82000 then
    if s.get (ETH_FLOW_STAT_STATE ((a - 0x81000) / 0x100)) ≠ 0 then s.answer rSTATE else s.store r a v
  else if 0x82000 ≤ a ∧ a < 0x83000 ∧ a % 0x20 = 0 then s.writeStill ((a - 0x82000) / 0x20) (v.toNat.testBit 0)
  else if (a = ETH_MON_CFG ∨ a = ETH_MON_SIZE ∨ a = ETH_MON_TIMING ∨ a = ETH_MON_RTP ∨ a = ETH_MON_UDP ∨
      (0x83040 ≤ a ∧ a < 0x83060)) ∧ s.get ETH_MON_STAT_STATE ≠ 0 then s.answer rSTATE
  else s.store r a v

/-- A write of a Skidline register (R64, R311, R312). -/
def State.writeSkd (s : State) (r : RegRow) (a : Nat) (v : Word) : State :=
  if a = SKD_HEAD then s.headNumWrite v
  else if a = SKD_CFG && s.head then s.answer rSTATE
  else if a = SKD_CH_ROLE || a = SKD_CH_TWIN then (s.store r a v).choosePaths
  else s.store r a v

/-- Bytes of one channel as the board description gives them (R118). -/
def State.boardDens (s : State) : Nat :=
  match s.tag 1 with
  | some l => 2 ^ 30 * 2 ^ getBits (BitVec.ofNat 32 (leNat l)) MEM_CFG_DENS.lo MEM_CFG_DENS.w
  | none => s.memc.dens

/-- A write of a memory register (R125, R126). -/
def State.writeMem (s : State) (r : RegRow) (a : Nat) (v : Word) : State :=
  if a = MEM_IL then
    let loc := MEM_IL_LOCAL.of v
    if s.power ≠ psHALT then s.answer rSTATE
    else if decide (4 < MEM_IL_GRAIN.of v) || (!s.head && loc ≠ 0) || decide (s.boardDens < loc * 2 ^ 26 + 2 ^ 28 ∧ loc ≠ 0) then
      s.answer rRANGE
    else s.store r a v
  else s.store r a v

/-- The slot that an engine's register window shows. -/
def State.rfSlot (s : State) (e : Nat) : Slot := s.slot e (s.get (ENG_RFSEL_SLOT e))

/-- A write of the register-file window at offset `p` (R144, R171). -/
def State.writeRf (s : State) (e p : Nat) (v : Word) : State :=
  let x := s.rfSlot e
  if s.bit (ENG_STAT_GATED e) then s.answer rUNPWR
  else if x.st ≠ .stopped ∧ x.st ≠ .fault then s.answer rSTATE
  else
    let x : Slot :=
      if p < 0x480 then x.setS ((p - 0x400) / 4) v
      else if p < 0x800 then
        let i := (p - 0x480) / 4
        let x := if i = 0 then x else x.setP (2 * i) (BitVec.ofNat 16 v.toNat)
        x.setP (2 * i + 1) (BitVec.ofNat 16 (v.toNat / 2 ^ 16))
      else x.setV ((p - 0x800) / 0x40) ((p - 0x800) / 4 % 16) v
    (s.setSlot e (s.get (ENG_RFSEL_SLOT e)) x).answer rOK

/-- A write in an engine's page (R154, R157, R169, R171). -/
def State.writeEng (s : State) (r : RegRow) (a : Nat) (v : Word) : State :=
  let e := (a - 0x140000) / 0x1000
  let p := a % 0x1000
  if 0x400 ≤ p then s.writeRf e p v
  else if p = 0 then
    if s.resident e = [] || s.bit (ENG_STAT_STOPPED e) then s.store r a v else s.answer rSTATE
  else if 0x100 ≤ p ∧ p % 16 = 0 then
    let t := (p - 0x100) / 16
    (if v.toNat.testBit 4 then s.setSlot e t { s.slot e t with sat := false } else s).answer rOK
  else s.store r a v

/-- Program `p` is a loaded monitor program (R258). -/
def State.monProgram (s : State) (p : Nat) : Bool := match s.prog p with | some g => g.mon | none => false

/-- HOLDMAX sent to every tile of the section (R275). -/
def State.holdMaxAll (s : State) : State :=
  ((List.range 16).filter fun p => s.role p = rCHAIN && !s.isTwin p).foldl
    (fun (s : State) p => (s.chainUnits p).foldl State.sendHoldMax s) s

/-- A shadow canvas record of canvas `c`, or a layer record of it, is closed to the host (R408, R418). -/
def State.sharedClosed (s : State) (c : Nat) : Bool := !s.rdn.feeds && s.sharedCanvases.contains c

/-- A write of a composition register (R257, R258, R273, R275, R283, R406, R408). -/
def State.writeCmp (s : State) (r : RegRow) (a : Nat) (v : Word) : State :=
  if a = CMP_CFG then
    let m := CMP_CFG_MONPROG.of v
    if m ≠ s.get CMP_CFG_MONPROG ∧ (s.get ETH_MON_STAT_STATE ≠ 0 ∨ !s.monProgram m) then s.answer rSTATE else s.store r a v
  else if a = CMP_PACE then
    if s.power = psSHOW then s.answer rSTATE
    else if CMP_PACE_WALLCMT.of v = 1 && (!s.bit TMU_PEER_EN || decide (6 < CMP_PACE_LEAD.of v)) then s.answer rSTATE
    else
      let old := s.get CMP_PACE_HOLDMAX
      let s : State := s.store r a v
      if s.get CMP_PACE_HOLDMAX = old then s else s.holdMaxAll
  else if 0x302000 ≤ a ∧ a < 0x302400 ∧ a % 16 = 0 ∧ v.toNat.testBit 0 then
    let l := (a - 0x302000) / 16
    (s.setAll [(CMP_LAYER_LBSHED l, 0), (CMP_LAYER_LBDEC l, 0), (CMP_LAYER_TAPS l, 0)]).answer rOK
  else if 0x300800 ≤ a ∧ a < 0x300880 ∧ s.sharedClosed ((a - 0x300800) / 0x20) then s.answer rSTATE
  else if 0x301000 ≤ a ∧ a < 0x301800 ∧ s.sharedClosed ((a - 0x301000) / 0x200) then s.answer rSTATE
  else if 0x310000 ≤ a ∧ a < 0x314000 ∧ s.shadowTile ((a - 0x310000) / 16) ∧ !s.rdn.feeds then s.answer rSTATE
  else s.store r a v

/-- A write of a loop-engine register (R388, R391, R399, R402). -/
def State.writeLpe (s : State) (r : RegRow) (a : Nat) (v : Word) : State :=
  if 0x3C4000 ≤ a then
    if s.bit (LPE_TGT_W0_HELD ((a - 0x3C4000) / 0x20)) then s.answer rSTATE else s.store r a v
  else if 0x3C1000 ≤ a then
    let c := (a - 0x3C1000) / 0x100
    let d := (LPE_CH_CFG_DEST c).of v
    if a = LPE_CH_CFG c then
      if (LPE_CH_CFG_COMB c).of v ≠ 0 && (LPE_CH_CFG_CMBCH c).of v = c then s.answer rSTATE
      else if d ≠ 0 && (List.range 16).any (fun k => k ≠ c && s.get (LPE_CH_CFG_DEST k) = d) then s.answer rSTATE
      else s.store r a v
    else if a = LPE_PROF c && v.toNat.testBit 2 then (s.setAll [(LPE_PROF_OVSF c, 0), (LPE_PROF_OVS c, 0)]).answer rOK
    else s.store r a v
  else s.store r a v

/-- A write of a redundancy register (R405, R415, R418). -/
def State.writeRdn (s : State) (r : RegRow) (a : Nat) (v : Word) : State :=
  if a = RDN_CFG then
    let old := s.rd RDN_CFG
    let other (w : Word) : Word := w &&& 0x1FFFFA#32
    if s.rdnState ≠ rdOFF && (other v ≠ other old || RDN_CFG_EN.of v > RDN_CFG_EN.of old) then s.answer rSTATE
    else (s.store r a v).rdnPower
  else if a = RDN_STAT && v.toNat.testBit 5 then
    (s.store r a v).setAll [(RDN_STAT_NOEPOCH, 0), (RDN_STAT_STALEEP, 0)]
  else s.store r a v

/-- A write of a register that is neither a counter nor a CMD register. -/
def State.writePlain (s : State) (r : RegRow) (a : Nat) (v : Word) : State :=
  if a < 0x20000 then s.store r a v
  else if a < 0x40000 then s.writeTmu r a v
  else if a < 0x80000 then
    if a % 0x4000 = 0 then s.writeQcfg ((a - 0x40000) / 0x4000) v
    else if a % 0x800 = 0 then s.writeLcfg (4 * ((a - 0x40000) / 0x4000) + a % 0x4000 / 0x800 - 2) v
    else s.store r a v
  else if a < 0xC0000 then s.writeEth r a v
  else if a < 0x100000 then s.writeSkd r a v
  else if a < 0x140000 then s.writeMem r a v
  else if a < 0x180000 then s.writeEng r a v
  else if a < 0x300000 then s.store r a v
  else if a < 0x330000 then s.writeCmp r a v
  else if a < 0x3C0000 then s.store r a v
  else if a < 0x400000 then s.writeLpe r a v
  else if a < 0x440000 then s.writeRdn r a v
  else if a < 0x480000 then
    if a = THM_STAT && v.toNat.testBit 5 && s.bit THM_STAT_TRIPPED then (s.store r a v).thmRest else s.store r a v
  else if a < 0x4C0000 then
    if a % 0x100 ≠ 8 && s.bit (CVU_STAT_EN ((a - 0x480000) / 0x100)) then s.answer rSTATE else s.store r a v
  else if 0x4C4000 ≤ a ∧ a < 0x500000 then if s.busy BOOT_DLCMD then s.answer rSTATE else s.store r a v
  else s.store r a v

/-- The row has no bit that a write changes; the register-file window has (R171, R435). -/
def readOnly (r : RegRow) (a : Nat) : Bool :=
  r.kind = .ro && !(decide (0x140000 ≤ a ∧ a < 0x180000) && decide (0x400 ≤ a % 0x1000))

/-- A word of a context record that holds the OV bit of a counter (R229). -/
def ctxOvWord (a : Nat) : Bool := decide (0x200000 ≤ a ∧ a < 0x300000) && (a / 4 % 16 = 6 || a / 4 % 16 = 8)

/-- A write of register word `a`: NOADDR, UNPWR, ACCESS and RANGE come before the register's own rules (R429, R435). -/
def State.writeReg (s : State) (a : Nat) (v : Word) : State :=
  match rowAt a with
  | none => s.answer rNOADDR
  | some r =>
    if s.unpowered a then s.answer rUNPWR
    else if r.kind = .counter then s.writeCounter r a v
    else if r.kind = .cmd then s.writeCmd a v.toNat
    else if ctxOvWord a && v.toNat.testBit 31 then (s.clearCount (a - 4)).answer rOK
    else if readOnly r a then s.answer rACCESS
    else if rangeBad s.head a v && !(a = SKD_CFG && s.head) then s.answer rRANGE
    else s.writePlain r a v

end Sys2Proof.Machine
end

