-- ==== Sys2Proof/Machine/Views.lean ====
section
/-! DEFINITION. Reads of registers (R7, R16, R28, R61, R171, R229, R234, R236, R429): the words that show the state of a
block at the instant of the read, and the reads that latch others. -/

namespace Sys2Proof.Machine

/-- A field of a word replaced. -/
def putF (w : Word) (f : Fld) (n : Nat) : Word := putBits w f.lo f.w n
/-- Several fields of a word replaced, in order. -/
def putAllF (w : Word) (l : List (Fld × Nat)) : Word := l.foldl (fun w x => putF w x.1 x.2) w
/-- A flag as a number. -/
def flag (b : Bool) : Nat := if b then 1 else 0
/-- A number as a word. -/
def w32 (n : Nat) : Word := BitVec.ofNat 32 n

/-! ### TMU, Ethernet, Skidline, memory -/

/-- TMU (R47, R50, R51, R60, R549). -/
def State.viewTmu (s : State) (a : Nat) : Word :=
  if a = TMU_PTP_CFG && !s.head then 0
  else if a = TMU_LQ_INS then putF (s.rd a) TMU_LQ_INS_PEND s.lqPend
  else if a = TMU_LAUNCH_L && s.launchedNext then w32 s.tm.nextJ
  else if a = TMU_LAUNCH_H && s.launchedNext then w32 (s.tm.nextJ / 2 ^ 32)
  else if a = TMU_PHASE then s.phaseInForce.rd a
  else s.rd a

/-- Fingerprint word of a key: its ID, and the first two bytes of its SHA-256 (R116). -/
def keyWord : Option (Nat × List Byte) → Word
  | none => 0
  | some (id, k) => w32 (id + 65536 * leNat ((sha256 k).take 2))

/-- Word `n` of tracked endpoint `e` (R115, R117). -/
def State.viewEp (s : State) (e n : Nat) : Word :=
  match s.ctl.eps[e]? with
  | none => 0
  | some x => match n with
    | 4 => w32 (x.who.udp + 65536 * x.who.port)
    | 5 => w32 x.hi
    | 6 => w32 (x.hi / 2 ^ 32)
    | 7 => w32 ((s.now - x.last) / 10 ^ 9)
    | _ => w32 (x.who.ip / 2 ^ (32 * n))

/-- Ethernet (R96, R105, R113, R116, R117). -/
def State.viewEth (s : State) (a : Nat) : Word :=
  if a < 0x81000 then
    let p := (a - 0x80000) / 0x400
    if a = ETH_PORT_STAT p then putF (s.rd a) (ETH_PORT_STAT_TXWAIT p) (flag (s.eth.txq.any fun x => x.1 = p)) else s.rd a
  else if 0x82000 ≤ a ∧ a < 0x83000 then
    let k := (a - 0x82000) / 0x20
    if a = ETH_STILL_STAT k && s.bit (ETH_STILL_CFG_EN k) then (s.stillRefresh k).rd a else s.rd a
  else if a = ETH_MON_STAT then
    let line := match s.eth.mon.pkt with | some i => i / max 1 (s.get ETH_MON_TIMING_PPL) | none => 0
    let st := match s.eth.mon.sent with | some x => x.2 | none => 0
    putAllF (s.rd a) [(ETH_MON_STAT_LINE, line), (ETH_MON_STAT_STORE, st)]
  else if a = ETH_AUTH then putAllF (s.rd a) [(ETH_AUTH_KEYA, flag s.ctl.keyA.isSome), (ETH_AUTH_KEYB, flag s.ctl.keyB.isSome)]
  else if a = ETH_AUTH_KIDA then keyWord s.ctl.keyA
  else if a = ETH_AUTH_KIDB then keyWord s.ctl.keyB
  else if 0x83900 ≤ a then s.viewEp ((a - 0x83900) / 0x20) ((a - 0x83900) / 4 % 8)
  else s.rd a

/-- The receive ring (R307): the next buffer, the oldest one not pulled, and whether the next is not. -/
def State.viewRing (s : State) : Word :=
  let n := s.skd.next
  let z := max 1 s.skd.nbuf
  let old := match (List.range z).find? fun i => s.unpulled ((n + i) % z) with | some i => (n + i) % z | none => n
  putAllF 0 [(SKD_RXIDX_NEXT, n), (SKD_RXIDX_OLD, old), (SKD_RXIDX_FULL, flag (s.unpulled n))]

/-- Skidline (R302, R307, R311). -/
def State.viewSkd (s : State) (a : Nat) : Word :=
  if a = SKD_RXIDX then s.viewRing
  else if a = SKD_RXRING then (if s.head then 0 else dramPage s.ringOff)
  else if 0xC1000 ≤ a ∧ a < 0xC5000 then
    let p := (a - 0xC1000) / 0x400
    let x := s.port p
    if a = SKD_PORT_CRED p then putAllF 0 [(SKD_PORT_CRED_B p, x.credB.toNat), (SKD_PORT_CRED_C p, x.credC.toNat)]
    else if a = SKD_PORT_FAR p then putAllF 0 [(SKD_PORT_FAR_BUFB p, x.bufB), (SKD_PORT_FAR_BUFC p, x.bufC), (SKD_PORT_FAR_SEQ p, x.seq)]
    else s.rd a
  else s.rd a

/-- Memory (R127, R139, R140). -/
def State.viewMem (s : State) (a : Nat) : Word :=
  if a = MEM_ALLOCW then w32 s.allocWideMiB
  else if a = MEM_ALLOCL then w32 s.allocLocalMiB
  else if a = MEM_PASR then putF (s.rd a) MEM_PASR_USED s.pasrUsed
  else s.rd a

/-! ### Engines, threads, flumes, trace -/

/-- State codes of a slot (R148). -/
def SlotSt.code : SlotSt → Nat
  | .free => 0
  | .ready => 1
  | .smpwait => 4
  | .flumewait => 5
  | .evwait => 6
  | .stopped => 7
  | .fault => 8

/-- ENG_THR_STAT of slot `t`: a ready thread that a pending result holds reads OPWAIT (R146, R148). -/
def State.thrStat (s : State) (e t : Nat) : Word :=
  let x := s.slot e t
  let st (k : SlotSt) : Nat := if k = .ready && s.held e t then 3 else k.code
  if x.st = .free then 0
  else putAllF 0 [(ENG_THR_STAT_STATE e t, st x.st), (ENG_THR_STAT_SAT e t, flag x.sat), (ENG_THR_STAT_PRIO e t, (s.thread x.thr).prio),
    (ENG_THR_STAT_THREAD e t, x.thr), (ENG_THR_STAT_FCAUSE e t, x.cause), (ENG_THR_STAT_SMPOUT e t, s.smpOut e t),
    (ENG_THR_STAT_PRIOR e t, if x.st = .stopped then st x.prior else 0)]

/-- The register-file window at offset `p` (R144, R171). -/
def State.viewRf (s : State) (e p : Nat) : Word :=
  let x := s.rfSlot e
  if p < 0x480 then x.sreg ((p - 0x400) / 4)
  else if p < 0x800 then
    let i := (p - 0x480) / 4
    w32 ((x.preg (2 * i)).toNat + 65536 * (x.preg (2 * i + 1)).toNat)
  else x.vreg ((p - 0x800) / 0x40) ((p - 0x800) / 4 % 16)

/-- An engine's page (R171). -/
def State.viewEng (s : State) (a : Nat) : Word :=
  let e := (a - 0x140000) / 0x1000
  let p := a % 0x1000
  let t := (p - 0x100) / 16 % 8
  if 0x400 ≤ p then s.viewRf e p
  else if p = 8 then putF (s.rd a) (ENG_STAT_RESIDENT e) ((s.resident e).map fun t => 2 ^ t).sum
  else if p < 0x100 then s.rd a
  else match p % 16 with
    | 0 => s.thrStat e t
    | 4 => w32 (s.slot e t).pc
    | 8 => w32 (s.slot e t).fins
    | _ => w32 ((s.slot e t).fins / 2 ^ 32)

/-- Record of thread `t` (R205, R236). -/
def State.viewThr (s : State) (t n : Nat) : Word :=
  let x := s.thread t
  let st := match x.st with | .free => 0 | .unplaced => 1 | .placed => 2 | .kernel => 3
  let next := match ((s.eng.ready.filter fun u => (s.thread u).prio = x.prio).dropWhile (· ≠ t)) with | _ :: u :: _ => u | _ => 0x3FF
  match n with
  | 0 => putAllF 0 [(TDP_THR0_STATE t, st), (TDP_THR0_PRIO t, x.prio), (TDP_THR0_AFFIN t, x.affin), (TDP_THR0_ENGINE t, x.eng),
      (TDP_THR0_SLOT t, x.slot), (TDP_THR0_WAITALL t, flag x.waitall), (TDP_THR0_WAITING t, flag x.waiting)]
  | 1 => x.flags
  | 2 => x.mask
  | _ => putAllF 0 [(TDP_THR3_CTX t, x.ctx), (TDP_THR3_NCTX t, x.nctx - 1), (TDP_THR3_NEXT t, if x.st = .unplaced then next else 0x3FF)]

/-- The dispatcher (R236). -/
def State.viewTdp (s : State) (a : Nat) : Word :=
  let l := s.eng.thr.map fun x => x.2.st
  if a = TDP_STAT then putAllF 0 [(TDP_STAT_USED, (l.filter (· ≠ .free)).length), (TDP_STAT_KERNEL, (l.filter (· = .kernel)).length),
    (TDP_STAT_UNPLACED, (l.filter (· = .unplaced)).length)]
  else if 0x180040 ≤ a ∧ a < 0x1800C0 then
    let p := (a - 0x180040) / 4
    let q := s.eng.ready.filter fun t => (s.thread t).prio = p
    putAllF 0 [(TDP_RDY_COUNT p, q.length), (TDP_RDY_HEAD p, q.headD 0x3FF)]
  else if 0x181000 ≤ a then s.viewThr ((a - 0x181000) / 16) (a / 4 % 4)
  else s.rd a

/-- The order group that FLM_GSEL names. -/
def State.shownGroup (s : State) : Option OGroup := s.group (s.get FLM_GSEL_GROUP)

/-- Flumes and groups (R236). -/
def State.viewFlm (s : State) (a : Nat) : Word :=
  let f := s.get FLM_FSEL_FLUME
  if a = FLM_STAT then putAllF 0 [(FLM_STAT_CTXUSED, ((List.range s.ctxCount).filter fun c => s.get (CTX_STATE c) ≠ cFREE).length),
    (FLM_STAT_GOPEN, s.eng.groups.length)]
  else if a = FLM_FST0 then putAllF 0 [(FLM_FST0_VISIBLE, (s.flume f).vis.length), (FLM_FST0_DEPTH, s.get (CTX_DEPTH (f / 16) (f % 16))),
    (FLM_FST0_WAITER, flag (s.flumeWaiter f)), (FLM_FST0_HWCONS, flag (hwConsumer f))]
  else if a = FLM_FST1 then w32 (s.flume f).held.length
  else if a = FLM_GST then match s.shownGroup with
    | some g => putAllF 0 [(FLM_GST_OPEN, 1), (FLM_GST_WIN, g.win - 1), (FLM_GST_BASE, g.base)]
    | none => 0
  else if a = FLM_GHELD then match s.shownGroup with
    | some g => w32 (g.used.filter fun u => u.2 ≠ skipMark).length
    | none => 0
  else if FLM_GMAP 0 ≤ a ∧ a ≤ FLM_GMAP 7 then match s.shownGroup with
    | some g =>
      let k := (a - FLM_GMAP 0) / 4
      w32 ((List.range 32).map fun i => if g.used.any (fun u => u.1 = (g.base + 32 * k + i) % 65536) then 2 ^ i else 0).sum
    | none => 0
  else s.rd a

/-! ### Composition and samplers -/

/-- Coefficient banks that an open pass or a queued open names (log entry 92). -/
def State.lockedBanks (s : State) (c : Nat) : List Nat :=
  let x := s.crew c
  (match x.pass with | some p => [p.desc.bankv, p.desc.bankh] | none => []) ++
  x.sclq.flatMap fun r => match r.kind with | .sopen d => [d.bankv, d.bankh] | _ => []

/-- A pass is queued behind the open one (R162). -/
def State.openQueued (s : State) (c : Nat) : Bool := (s.crew c).sclq.any fun r => match r.kind with | .sopen _ => true | _ => false

/-- CMP_CREW_SCLST (R172). -/
def State.viewScl (s : State) (c : Nat) : Word :=
  match (s.crew c).pass with
  | none => 0
  | some p => putAllF 0 [(CMP_CREW_SCLST_STATE c, if s.openQueued c then 2 else 1), (CMP_CREW_SCLST_LINES c, availLines p.desc.width),
      (CMP_CREW_SCLST_TAPS c, if p.dec then 1 else p.taps), (CMP_CREW_SCLST_SHED c, flag (decide (p.taps < p.desc.tv) && !p.dec)),
      (CMP_CREW_SCLST_DEC c, flag p.dec), (CMP_CREW_SCLST_WIDTH c, p.desc.width)]

/-- Composition, crews (R172, R246, R260). -/
def State.viewCmp (s : State) (a : Nat) : Word :=
  if 0x302000 ≤ a ∧ a < 0x302400 ∧ a % 16 = 0 then
    let l := (a - 0x302000) / 16
    putF (s.rd a) (CMP_LAYER_READY l) (flag (s.head && s.gridRuns && (s.memberReady l s.nextPost s.tm.wall).isSome))
  else if 0x330000 ≤ a then
    let c := (a - 0x330000) / 0x1000
    if a = CMP_CREW_SCLST c then s.viewScl c
    else if a = CMP_CREW_COEFLCK c then
      let l := s.lockedBanks c
      w32 ((List.range 32).map fun b => if l.contains b then 2 ^ b else 0).sum
    else s.rd a
  else s.rd a

/-! ### Lamp drive, correction, loop engine -/

/-- LDU_POS (R345): the row period in progress and its cycle; within the slot pad the row fields are free (log entry 77). -/
def State.viewPos (s : State) : Word × State :=
  match s.ldu.cur with
  | none => (0, s)
  | some c =>
    let g := c.grid
    let n := (s.tm.wall - c.at0) * (g.num * g.slots * g.cyc) / (g.den * wSec)
    let lit := flag (s.bit LDU_STAT_LIT)
    let r := max 1 c.rcyc
    if n < c.rows * c.segs * r then
      (putAllF 0 [(LDU_POS_ROW, n / r % max 1 c.rows), (LDU_POS_SEG, n / r / max 1 c.rows), (LDU_POS_LIT, lit), (LDU_POS_T, n % r)], s)
    else
      let (w, s) := s.draw
      (putAllF (w &&& 0xFFFF0FFF#32) [(LDU_POS_PAD, 1), (LDU_POS_LIT, lit)], s)

/-- Lamp drive (R340, R352-R354, R358). -/
def State.viewLdu (s : State) (a : Nat) : Word :=
  if a = LDU_STAT then putAllF (s.rd a) [(LDU_STAT_NOLAMP, flag (!s.lampSide)), (LDU_STAT_BLACK, flag (s.bit LDU_SHOW_BLACK)),
    (LDU_STAT_GEOMPEND, flag s.ldu.geom.isSome), (LDU_STAT_DRVPEND, flag s.ldu.drv.isSome), (LDU_STAT_TRIPPED, flag (s.bit THM_STAT_TRIPPED))]
  else s.rd a

/-- Lamp correction (R381-R383). -/
def State.viewLcr (s : State) (a : Nat) : Word :=
  if a = LCR_STAT then putF (s.rd a) LCR_STAT_NOLAMP (flag (!s.lampSide))
  else if a = LCR_LAMP then s.lampWord
  else if a = LCR_LBTMAX then w32 (ofInt 16 s.lbtMax)
  else s.rd a

/-- Loop engine and redundancy (R384, R404, R427). -/
def State.viewLpe (s : State) (a : Nat) : Word :=
  if a = LPE_STAT then putF (s.rd a) LPE_STAT_HDRSTALE (flag s.hdrStale)
  else if a = LPE_SUP_DUTY then w32 s.supDuty
  else if a = RDN_STAT then putF (s.rd a) RDN_STAT_PEERDOWN (flag (s.bit RDN_CFG_EN && !s.active (s.get RDN_CFG_PPORT)))
  else if a = RDN_EPSTAT then putF (s.rd a) RDN_EPSTAT_OPEN (flag s.rdn.parts.isSome)
  else s.rd a

/-! ### Power, temperature, boot -/

/-- The last rejection in the record: the candidate's or the inactive slot's (R463, R485). -/
def State.lastRej (s : State) : Nat :=
  let k := s.bsrCand.getD s.inactive
  if s.slotState k = slREJ then s.bsr (0x0E + k) 1 else if s.slotState (1 - k) = slREJ then s.bsr (0x0E + (1 - k)) 1 else 0

/-- BOOT (R463, R466, R469, R485). -/
def State.viewBoot (s : State) (a : Nat) : Word :=
  if a = BOOT_STAT then putAllF (s.rd a) [(BOOT_STAT_CSTATE, if s.bsrCand.isSome then s.bsr 0x0A 1 else 0), (BOOT_STAT_TRIALS, s.bsr 0x0B 1),
    (BOOT_STAT_LASTREJ, s.lastRej)]
  else if a = BOOT_COUNT then w32 s.boot.count
  else if a = BOOT_FUSE then w32 s.fuseWord
  else if BOOT_BSR 0 ≤ a ∧ a ≤ BOOT_BSR 15 then w32 (s.bsr (a - BOOT_BSR 0) 4)
  else match s.boot.dl with
    | none => if a = BOOT_DLSTAT ∨ (BOOT_DLMAP 0 ≤ a ∧ a ≤ BOOT_DLMAP 31) then 0 else s.rd a
    | some d =>
      if a = BOOT_DLSTAT then putAllF 0 [(BOOT_DLSTAT_STATE, if d.complete then 2 else 1), (BOOT_DLSTAT_SLOT, d.slot),
        (BOOT_DLSTAT_HELD, d.held.length), (BOOT_DLSTAT_NPIECE, d.n)]
      else if BOOT_DLMAP 0 ≤ a ∧ a ≤ BOOT_DLMAP 31 then
        let k := (a - BOOT_DLMAP 0) / 4
        w32 ((List.range 32).map fun i => if d.held.contains (32 * k + i) then 2 ^ i else 0).sum
      else s.rd a

/-- GLB (R451). -/
def State.viewGlb (s : State) (a : Nat) : Word :=
  if a = GLB_ID then w32 s.idWord
  else if a = GLB_UNITSN_L then w32 Config.unitSN.toNat
  else if a = GLB_UNITSN_H then w32 (Config.unitSN.toNat / 2 ^ 32)
  else s.rd a

/-! ### Reads -/

/-- What register word `a` shows at the instant of a read. -/
def State.view (s : State) (a : Nat) : Word :=
  if a < 0x10000 then s.viewGlb a
  else if a < 0x20000 then s.rd a
  else if a < 0x40000 then s.viewTmu a
  else if a < 0x80000 then s.rd a
  else if a < 0xC0000 then s.viewEth a
  else if a < 0x100000 then s.viewSkd a
  else if a < 0x140000 then s.viewMem a
  else if a < 0x180000 then s.viewEng a
  else if a < 0x1C0000 then s.viewTdp a
  else if a < 0x200000 then s.viewFlm a
  else if a < 0x300000 then s.rd a
  else if a < 0x340000 then s.viewCmp a
  else if a < 0x380000 then s.viewLdu a
  else if a < 0x3C0000 then s.viewLcr a
  else if a < 0x440000 then s.viewLpe a
  else if a < 0x4C0000 then s.rd a
  else if a < 0x500000 then s.viewBoot a
  else s.rd a

/-- Reads that latch other words come before the read itself (R28, R234, R236, R542). -/
def State.latch (s : State) (a : Nat) : State :=
  if a = TMU_TIME_NS then s.readTime
  else if a = TMU_PPSIN_NS then s.readPpsIn
  else if a = FLM_EDATA 0 then s.latchEntry
  else if a = TRC_RD 0 then s.latchTrace
  else s

/-- The address is word 0 of a counter that the physical line or the memory devices move: PRBS errors, corrected and
uncorrectable codewords, corrected symbols and marker parity of a lane (R68, R92, R93), refresh commands and link-ECC
corrections of a memory channel (R134, R140). What they have counted since the last read is free (log entry 90). -/
def lineCount (a : Nat) : Bool :=
  if 0x40000 ≤ a ∧ a < 0x60000 then
    decide (0x1000 ≤ a % 0x4000 ∧ a % 0x4000 < 0x3000) && [0x40, 0x48, 0x50, 0x58, 0x60].contains (a % 0x800)
  else decide (0x101000 ≤ a ∧ a < 0x102000) && (decide (a % 0x100 = 0x20) || decide (a % 0x100 = 0x28))

/-- A read of register word `a`: status, word, state (R16, R171, R229, R429). -/
def State.readReg (s : State) (a : Nat) : Nat × Word × State :=
  match rowAt a with
  | none => (rNOADDR, 0, s)
  | some _ =>
    if s.unpowered a then
      if 0x200000 ≤ a ∧ a < 0x300000 then (rUNPWR, 0, s) else (rOK, resetVal s.head a, s)
    else if 0x140000 ≤ a ∧ a < 0x180000 ∧ 0x400 ≤ a % 0x1000 ∧ s.bit (ENG_STAT_GATED ((a - 0x140000) / 0x1000)) then (rUNPWR, 0, s)
    else if a = LDU_POS then
      let (w, s) := s.viewPos
      (rOK, w, s)
    else if 0x101000 ≤ a ∧ a < 0x102000 ∧ a % 0x100 = 8 then
      let (w, s) := s.draw
      (rOK, w32 (w.toNat % 1001), s)
    else if lineCount a then
      let (n, s) := s.drawNat
      let s : State := s.bumpN a n
      (rOK, s.view a, s)
    else
      let s : State := s.latch a
      (rOK, s.view a, s)

end Sys2Proof.Machine
end

