-- ==== Sys2Proof/Machine/Access.lean ====
section
/-! DEFINITION. Accesses to the address space: the windows of the on-chip memories (R128, R157, R158, R161, R167, R341,
R343), DRAM (R123, R130, R138), single words of every kind (R429, R432), and REGISTER_WRITE. -/

namespace Sys2Proof.Machine

/-! ### On-chip memories -/

/-- A word of a window belongs to a memory that the role does not power, or that is gated with its engines (R128, R170; log
entry 93). -/
def State.windowOff (s : State) (a : Nat) : Bool :=
  if a < 0x02000000 then !s.engOn ((a - 0x01000000) / 0x40000)
  else if a < 0x02400000 then false
  else
    let c := if a < 0x02C00000 then (a - 0x02400000) / 0x100000 else (a - 0x02C00000) / 0x80000
    !s.crewOn c || s.crewGated c

/-- Why a write of a word of a window is refused, OK if it is not (R157, R158, R161, R167, R341, R343). -/
def State.windowRefusal (s : State) (a : Nat) : Nat :=
  if a < 0x02000000 then
    let e := (a - 0x01000000) / 0x40000
    if (a - 0x01000000) % 0x40000 < s.codeBytes e && s.resident e ≠ [] && !s.bit (ENG_STAT_STOPPED e) then rSTATE else rOK
  else if a < 0x02400000 then
    let o := a - 0x02000000
    if 0x300000 ≤ o then rACCESS else if s.scanOk o then rOK else rSTATE
  else if a < 0x02C00000 then
    let c := (a - 0x02400000) / 0x100000
    let o := (a - 0x02400000) % 0x100000
    if o < 0xD8000 then (if s.bit (CMP_CREW_LUTSLOT_LOCK c (o / 0x36000)) then rACCESS else rOK)
    else if o < 0xE8000 then (if (s.lockedBanks c).contains ((o - 0xD8000) / 0x800) then rACCESS else rOK)
    else rOK
  else
    let c := (a - 0x02C00000) / 0x80000
    if (s.crew c).pass.isSome || s.openQueued c then rSTATE else rOK

/-- The reserved end of a crew's LUT memory (R158). -/
def lutReserved (a : Nat) : Bool := decide (0x02400000 ≤ a ∧ a < 0x02C00000 ∧ 0xE8000 ≤ (a - 0x02400000) % 0x100000)

/-- A write of a word of a window. -/
def State.writeWindow (s : State) (a : Nat) (v : Word) : State :=
  if s.windowOff a then s.answer rUNPWR
  else match s.windowRefusal a with
    | 0 => (if lutReserved a then s else s.putWord a v).answer rOK
    | r => s.answer r

/-! ### DRAM -/

/-- A request for DRAM offset `o` reaches its channel: in STANDBY it wakes it (R137, R138). -/
def State.touchDram (s : State) (o : Nat) : State :=
  if s.power = psSTANDBY then s.channelTouch (dramPlace s.memc o).1 else s

/-- Why an access at DRAM offset `o` fails, OK if it does not (R120, R123, R130; log entry 76). -/
def State.dramRefusal (s : State) (o : Nat) : Nat :=
  if !s.dramUp then rDRAMERR else if s.dramBytes ≤ o then rSTATE else rOK

/-! ### Single words (R429) -/

/-- A read of the word at `a`: status, word, state. -/
def State.readWord (s : State) (a : Nat) : Nat × Word × State :=
  if a % 4 ≠ 0 then (rALIGN, 0, s)
  else if a < 0x01000000 then s.readReg a
  else if a < 0x03000000 then (if s.windowOff a then (rUNPWR, 0, s) else (rOK, s.word a, s))
  else if dramBase ≤ a ∧ a < 2 * dramBase then
    match s.dramRefusal (a - dramBase) with
    | 0 =>
      let s : State := s.touchDram (a - dramBase)
      let (_, s) := s.dramRead (a - dramBase) 4
      (rOK, s.word a, s)
    | r => (r, 0, s)
  else (rNOADDR, 0, s)

/-- A write of the word at `a`; its status is in `resp`. -/
def State.writeWord (s : State) (a : Nat) (v : Word) : State :=
  if a % 4 ≠ 0 then s.answer rALIGN
  else if a < 0x01000000 then s.writeReg a v
  else if a < 0x03000000 then s.writeWindow a v
  else if dramBase ≤ a ∧ a < 2 * dramBase then
    match s.dramRefusal (a - dramBase) with
    | 0 =>
      let s : State := s.touchDram (a - dramBase)
      (s.dramWrite (a - dramBase) (wordBytes v)).answer rOK
    | r => s.answer r
  else s.answer rNOADDR

/-- The word that MWRITE writes: outside the mask the present value, and 0 in W1C and ST bits (R432). -/
def maskWord (w1 : Nat) (cur d m : Word) : Word := (cur &&& ~~~ m &&& ~~~ (BitVec.ofNat 32 w1)) ||| (d &&& m)

/-- The address is a CMD register, or the register whose write inserts a launch-queue entry (R432; log entry 91). -/
def cmdWord (a : Nat) : Bool := match rowAt a with | some r => r.kind = .cmd || a = TMU_LQ_IN3 | none => false

/-- A masked write of the word at `a` (R432). -/
def State.maskWrite (s : State) (a : Nat) (d m : Word) : State :=
  if a % 4 ≠ 0 then s.answer rALIGN
  else if a < 0x01000000 then
    match rowAt a with
    | none => s.answer rNOADDR
    | some r =>
      if s.unpowered a then s.answer rUNPWR
      else if cmdWord a then s.answer rACCESS
      else
        let cur := match s.readReg a with | (0, v, _) => v | _ => 0
        let w1 := if r.kind = .counter || ctxOvWord a then 0x80000000 else r.w1
        s.writeReg a (maskWord w1 cur d m)
  else match s.readWord a with
    | (0, cur, s) => s.writeWord a (maskWord 0 cur d m)
    | (r, _, s) => s.answer r

/-- REGISTER_WRITE (R6, R429, R435): one word of the control address space, with the status in `resp`. -/
def execRegisterWrite (addr : Nat) (value : Word) (s : State) : Host.Outcome State Fault Refusal :=
  settled (if s.running then s.writeWord (addr % 2 ^ 48) value else s)

end Sys2Proof.Machine
end

