-- ==== Sys2Proof/Machine/Power.lean ====
section
/-! DEFINITION. Starts of firmware (R465-R468, R475, R478) and power steps (R490, R499, R501), with what each of them starts
and stops; launch ticks (R349) and the FLIP of tile firmware (R370). -/

namespace Sys2Proof.Machine

/-! ### Settings (R477, R478) -/

/-- The lowest power state in which the block at address `a` is powered (R486, R490; log entry 81). -/
def blockPower (head : Bool) (a : Nat) : Nat :=
  if 0x01000000 ≤ a ∧ a < 0x03000000 then psREADY
  else if dramBase ≤ a then psSTANDBY
  else if 0x40000 ≤ a ∧ a < 0x80000 then (if head && decide (a < 0x50000) then psHALT else psSTANDBY)
  else if 0xC0000 ≤ a ∧ a < 0x100000 then psSTANDBY
  else if 0x140000 ≤ a ∧ a < 0x300000 then psREADY
  else if 0x330000 ≤ a ∧ a < 0x380000 then psREADY
  else if 0x3C0000 ≤ a ∧ a < 0x400000 then psREADY
  else psHALT

/-- One settings entry applied as an MWRITE; a failure is counted (R478). -/
def State.applySetting (s : State) (e : Nat × Nat × Nat) : State :=
  let s : State := s.maskWrite e.1 (w32 e.2.1) (w32 e.2.2)
  if s.resp = rOK then s else s.bump BOOT_SETERR

/-- The entries of the blocks powered in state `p`, in order (R478). -/
def State.applySettings (s : State) (p : Nat) : State :=
  let due := s.boot.sett.filter fun e => decide (blockPower s.head e.1 ≤ p)
  let r := s.resp
  let s : State := s.bootSet fun b => { b with sett := b.sett.filter fun e => !decide (blockPower s.head e.1 ≤ p) }
  ((due.foldl (fun (s : State) e => s.applySetting e) s).answer r).set BOOT_LOAD_SETAPP 1

/-! ### Loads (R467) -/

/-- The standard configuration of the loop engine, its limits from tag 4 (R396; log entry 82). -/
def State.lpeConfig (s : State) : State :=
  let q : Nat × Nat × Nat := match s.tag 4 with
    | some l => if 12 ≤ l.length then (numAt l 0 4 % 65536, numAt l 4 4, numAt l 8 4) else (0, 0, 65536)
    | none => (0, 0, 65536)
  let put (s : State) (l : List (Nat × Nat)) : State := l.foldl (fun (s : State) x => s.wr x.1 (w32 x.2)) s
  let s : State := s.setAll [(LPE_SUP_SAFE, q.1),
    (LPE_CH_CFG_IN 0, 1), (LPE_CH_MODE_REQ 0, 3), (LPE_CH_CFG_DEST 0, 1), (LPE_CH_SPER_SPER 0, 1),
    (LPE_CH_CFG_IN 1, 2), (LPE_CH_CFG_FILT 1, 1), (LPE_CH_MODE_REQ 1, 3), (LPE_CH_SPER_SPER 1, 1000),
    (LPE_CH_CFG_REFSRC 2, 1), (LPE_CH_MODE_REQ 2, 2), (LPE_CH_CFG_COMB 2, 1), (LPE_CH_CFG_CMBCH 2, 1),
    (LPE_CH_CFG_DEST 2, 2), (LPE_CH_SPER_SPER 2, 100)]
  put s [(LPE_CH_REF 0, 22938), (LPE_CH_KPA 0, 32768), (LPE_CH_KIA 0, 1311), (LPE_CH_OMINA 0, q.2.1), (LPE_CH_OMAXA 0, q.2.2),
    (LPE_CH_OINIT 0, q.1),
    (LPE_CH_REF 1, 4259840), (LPE_CH_KPA 1, 1311), (LPE_CH_KIA 1, 33), (LPE_CH_OMINA 1, 16384), (LPE_CH_OMAXA 1, 65536),
    (LPE_CH_ALPHA 1, 6554), (LPE_CH_OINIT 1, 65536),
    (LPE_CH_OMINA 2, 0), (LPE_CH_OMAXA 2, 65536), (LPE_CH_RATE 2, 65536), (LPE_CH_OINIT 2, 65536)]

/-- The image of the correction program: the customer's with UPROG = 1, else the type 5 section (R368, R467; log entry 83). -/
def State.corrImage (s : State) : Option (List Byte) :=
  let l := if s.bit LCR_CFG_UPROG then s.recData recCOR
    else ((s.sections s.boot.run).find? fun x => x.1 = 5).map fun x => s.imgAt s.boot.run x.2.1 x.2.2.1
  match l with
  | some l => if imgOk l then some l else none
  | none => none

/-- CODESZ of the engines of `l`, KiB. -/
def State.setCodesz (s : State) (l : List Nat) (k : Nat) : State := l.foldl (fun (s : State) e => s.set (ENG_CFG_CODESZ e) k) s

/-- The place of `n` bytes of correction code: at 0 in a tile, at the top of the region in a head (log entry 84). -/
def State.corrPlace (s : State) (n : Nat) : Option Nat :=
  if !s.head then some 0
  else
    let b := (s.codeBytes 0 - n) / 8 * 8
    if decide (n ≤ s.codeBytes 0) && s.eng.code.all (fun p => p.prog = 32 || decide (p.base + p.bytes.length ≤ b)) then some b else none

/-- The correction code becomes part of what the engines take (R368, R467). -/
def State.loadCorrection (s : State) : State :=
  let s : State := { s with eng := { s.eng with code := s.eng.code.filter fun p => p.prog ≠ 32 } }
  if !s.lampSide && s.head then s.set BOOT_LOAD_KERF 0
  else match s.corrImage with
    | none => s.set BOOT_LOAD_KERF 0
    | some l =>
      let n := (imgProg l).len
      let s : State := if s.head then s else s.setCodesz (List.range 8) ((n + 1023) / 1024)
      match s.corrPlace n with
      | none => s.set BOOT_LOAD_KERF 0
      | some b =>
        ({ s with eng := { s.eng with code := s.eng.code ++ [⟨32, b, l.drop 0xC0⟩] } } : State).set BOOT_LOAD_KERF 1

/-- The correction threads over contexts 0-15 (R230, R368, R547). -/
def State.correctionThreads (s : State) : State :=
  match s.eng.code.find? fun p => p.prog = 32, s.corrImage with
  | some p, some l =>
    let g := imgProg l
    let m := min s.freeThreads ((s.crewEngines 0).length * g.threads)
    if m = 0 then s
    else ((divide (List.range 16) m).filter fun r => decide (0 < r.2)).foldl (fun (s : State) r =>
      (s.spawn (p.base + g.entry) g.prio 1 r.1 r.2 0 (w32 p.base) true).2) s
  | _, _ => s

/-- The dielet trims load if the record checks and names this unit (R468; log entry 85). -/
def State.loadTrims (s : State) : State :=
  match s.recData recTRIM with
  | some l => if numAt l 0 8 = Config.unitSN.toNat then s.set BOOT_LOAD_TRIM 1 else (s.set BOOT_LOAD_TRIM 0).set BOOT_STAT_TRIMFAIL 1
  | none => (s.set BOOT_LOAD_TRIM 0).set BOOT_STAT_TRIMFAIL 1

/-- Lane firmware of the quads of `l` (R65, R467). -/
def State.laneFirmware (s : State) (l : List Nat) : State :=
  (l.foldl (fun (s : State) q => s.set (LNK_QSTAT_FWOK q) 1) s).set BOOT_LOAD_LANEFW 1

/-! ### Actions of the steps (R490, R547) -/

/-- Quads powered in the role, and those of them that are powered in HALT. -/
def State.quads (s : State) : List Nat := List.range (if s.head then 8 else 4)
def State.haltQuads (s : State) : List Nat := if s.head then List.range 4 else []

/-- Every Kerf thread is killed and ended (R207, R547). -/
def State.killAll (s : State) : State :=
  let s : State := (List.range threadCount).foldl (fun (s : State) t =>
    match (s.thread t).st with
    | .unplaced => s.killThread t
    | .placed =>
      let x := s.thread t
      let s : State := s.killThread t
      if (s.thread t).st = .placed then s.endSlot x.eng x.slot else s
    | _ => s) s
  s.cmpSet fun k => { k with thr := [] }

/-- The receive ring of a tile is placed anew (R307, R308); a head's own ring holds 64 buffers (log entry 86). -/
def State.placeRing (s : State) : State :=
  if s.head then s.skdSet fun k => { k with nbuf := 64 }
  else
    let n := s.get SKD_CFG_RXNBUF
    let s : State := (s.freeOwner .rxring).skdSet fun k => { k with nbuf := n, next := 0 }
    match s.allocWide (n * 24576) .rxring with
    | some (_, s) => s
    | none => s

/-- Memory powers up from the board description (R129); without one it stays out of service (R457). -/
def State.memStart (s : State) : State :=
  match s.tag 1 with
  | some l => s.memBringUp (w32 (leNat (l.take 4)))
  | none => s.set MEM_STAT_STATE mFAIL

/-- The contexts of a tile, allocated at every start, get their DRAM once memory is up (R217, R229, R547; log entry 87). -/
def State.tileStores (s : State) : State :=
  if s.head then s
  else (List.range 16).foldl (fun (s : State) c =>
    match s.allocCrew 0 (flumeBytes ((List.range 16).map s.defDepth)) (.context c) with
    | some (off, s) => s.wr (CTX_STORE c) (w32 (off / 64))
    | none => s) s

/-- The rest of HALT to STANDBY: self-refresh, quads, lane firmware, RC1-RC3 (R490). -/
def State.haltToStandby (s : State) : State :=
  let s : State := (s.tileStores.memSelfRefresh.laneFirmware s.quads).set BOOT_LOAD_RANGERS 1
  s.applySettings psSTANDBY

/-- The lamp side powers up: HV_EN, supplies, trims, identity, sets, calibration and pin-short test (R359, R373, R380, R468,
R490). -/
def State.lampUp (s : State) (f : StepFacts) : State :=
  if !s.lampSide then s
  else ((((((s.hvDrive true).hvSense f.vled f.vdrv f.vgate).loadTrims).identity f.ee).stage).calStart).shortStart

/-- STANDBY to READY (R490). -/
def State.standbyToReady (s : State) (f : StepFacts) : State :=
  let s : State := (List.range 16).foldl (fun (s : State) p => s.wakePort p) s.memWake
  let s : State := s.placeRing.loadCorrection
  let s : State := (List.range 64).foldl (fun (s : State) e => if s.crewOn (e / 8) then s.ungateEngine e else s) s
  let s : State := ((s.set BOOT_LOAD_LPE 1).applySettings psREADY).lpeStart
  let s : State := (s.lampUp f).correctionCtxs.placeAll.monContexts
  let s : State := if s.head && !s.lampSide then s else s.correctionThreads
  let s : State := if s.gridRuns then s.paceFrom (s.tm.wall + slotPeriod s.grid) else s
  if s.boot.trial && s.bit BOOT_CFG_AUTOCONF then s.confirmImage else s

/-- What READY or SHOW starts once its state is in force: enumeration and redundancy of a head (R314, R416). -/
def State.readyEntered (s : State) : State := if s.head then (s.enumerate (List.range 16)).rdnPower else s

/-- Slots of a head already posted are still open (R490, R499). -/
def State.slotsOpen (s : State) : Bool := s.cmp.slots.any fun x => x.commit = 0 && !x.skip

/-- READY to STANDBY once no slot is open: threads, contexts, engines, memory (R490, R547; log entry 88). -/
def State.readyToStandby (s : State) : State :=
  let s : State := s.killAll.lpeStop
  let s : State := if s.head then
      let t : State := s.releaseAll
      (List.range t.ctxCount).foldl (fun (t : State) c => if t.get (CTX_STATE c) = cFREE then t else t.ctxDone c)
        { t with eng := { t.eng with flumes := [], flight := [] } }
    else
      let t : State := (List.range 16).foldl (fun (t : State) c => t.ctxFlush c) s
      { t with eng := { t.eng with flight := [] } }
  let s : State := (List.range 64).foldl (fun (s : State) e => if s.engOn e then s.gateEngine e else s) s
  s.memSelfRefresh

/-- Flows, still layers and the monitor lose their DRAM (R120, R127). -/
def State.sourcesOff (s : State) : State :=
  if !s.head then s
  else
    let s : State := (List.range 16).foldl (fun (s : State) f =>
      (s.setAll [(ETH_FLOW_STAT_STATE f, 0), (ETH_FLOW_STAT_FRAME f, 0)]).setFlow f { s.flow f with frames := [], fence := [] }) s
    let s : State := (List.range 64).foldl (fun (s : State) k => if s.bit (ETH_STILL_CFG_EN k) then
      ((((s.set (ETH_STILL_CFG_EN k) 0).wr (ETH_STILL_STAT k) 0).wr (ETH_STILL_BUF k 0) 0).wr (ETH_STILL_BUF k 1) 0).setStill k StillSt.init
      else s) s
    if s.get ETH_MON_STAT_STATE = 0 then s else (s.monSet fun m => { m with pkt := none, job := none, wrote := [] }).monStopped

/-- STANDBY to HALT (R490): Skidline lanes off, memory off; quads unpowered in HALT lose their firmware. -/
def State.standbyToHalt (s : State) : State :=
  let s : State := (List.range 32).foldl (fun (s : State) l => if !s.head || s.linkOf l < 16 then s.laneOff l else s) s
  let s : State := (s.quads.filter fun q => !s.haltQuads.contains q).foldl (fun (s : State) q => s.set (LNK_QSTAT_FWOK q) 0) s
  let s : State := s.sourcesOff.memOff
  (if s.servo = svFREE then s else s.servoFree).set BOOT_LOAD_RANGERS 0

/-- OFF: every domain is off; only PORST_N is detected (R486). -/
def State.allOff (s : State) : State :=
  ({ s.blank with phase := .firmware, pins := { s.blank.pins with faultN := s.pins.faultN } } : State).set PWR_STAT_STATE psOFF

/-! ### POWER_STEP -/

/-- A step must wait (R489): out of READY for MEM_FREQ, out of HALT or READY for BOOT_CMD. -/
def State.stepBlocked (s : State) : Bool :=
  (s.power = psREADY && s.busy MEM_FREQ) || ((s.power = psHALT || s.power = psREADY) && s.busy BOOT_CMD)

/-- A command in progress reads DEFERRED or BUSY (R489). -/
def State.stepStat (s : State) (st : Nat) : State := if s.busy PWR_CMD then s.setStat PWR_CMD st else s

/-- The unit is in state `p`; at the target the transition ends (R488). -/
def State.stepped (s : State) (p : Nat) : State :=
  let s : State := (s.set PWR_STAT_STATE p).bump PWR_TRANS
  if p ≠ s.get PWR_STAT_TARGET then s
  else
    let s : State := (s.setAll [(PWR_STAT_TRANS, 0), (PWR_STAT_TARGET, 0)]).stepStat stDONE
    s.pwrSet fun k => { k with auto := none }

/-- The step up from the present state; memory training takes an event of its own (R129, R490). -/
def State.stepUp (s : State) (f : StepFacts) : State :=
  if s.power = psHALT then
    if s.get MEM_STAT_STATE = mOFF then
      let s : State := s.memStart
      if s.get MEM_STAT_STATE = mTRAIN then s else s.haltToStandby.stepped psSTANDBY
    else if s.get MEM_STAT_STATE = mTRAIN then
      let s : State := if f.trained then s.memTrained else s.memFailed f.bad
      s.haltToStandby.stepped psSTANDBY
    else if s.get MEM_STAT_STATE = mRATECHG then s
    else s.haltToStandby.stepped psSTANDBY
  else if s.power = psSTANDBY then ((s.standbyToReady f).stepped psREADY).readyEntered
  else if s.power = psREADY then (s.lduSet fun l => { l with showAt := s.now + 1000000 }).stepped psSHOW
  else s

/-- The step down from the present state (R487, R490). -/
def State.stepDown (s : State) : State :=
  if s.power = psSHOW then s.stepped psREADY
  else if s.power = psREADY then
    let s : State := (s.hvDrive false).cmpSet fun k => { k with next := none }
    if s.head && s.slotsOpen then s
    else
      let s : State := s.readyToStandby.stepped psSTANDBY
      (if s.head then s.rdnPower else s).stopEnds
  else if s.power = psSTANDBY then s.standbyToHalt.stepped psHALT
  else s.allOff

/-- POWER_STEP (R488-R490): one step toward the target, with what the outside shows meanwhile. -/
def execPowerStep (f : StepFacts) (s : State) : Host.Outcome State Fault Refusal :=
  settled <|
    if !s.running || !s.bit PWR_STAT_TRANS then s
    else if s.stepBlocked then s.stepStat stDEFERRED
    else
      let s : State := s.stepStat stBUSY
      if s.power < s.get PWR_STAT_TARGET then s.stepUp f else s.stepDown

/-- TRIP_OFF_CHECK (R501): 1 s after the trip. -/
def execTripOffCheck (s : State) : Host.Outcome State Fault Refusal :=
  settled <| match s.thm.tripAt with
    | none => s
    | some t =>
      if !s.running || decide (s.now < t + 1000000000) then s
      else
        let s : State := s.thmSet fun k => { k with tripAt := none }
        match s.readings.find? fun x => decide (1920 ≤ x.2) with
        | none => s
        | some x =>
          let q : State := (s.thermal 9 x.1 x.2).allOff
          ({ q with pins := { q.pins with faultN := true } } : State).set PWR_STAT_LASTAUTO 4

/-! ### FIRMWARE_START (R464-R468, R475, R478) -/

/-- Entry `k` of the key store: ID and key (R116, R439; log entry 89). -/
def State.storedKey (s : State) (k : Nat) : Option (Nat × List Byte) :=
  match s.recData recKEYS with
  | some l => if numAt l (35 * k) 1 = 1 then some (numAt l (35 * k + 1) 2, slice l (35 * k + 3) 32) else none
  | none => none

/-- A section other than type 1 fails its hash: a failed start check (R464, R465). -/
def State.sectionFails (s : State) : State :=
  let k := s.boot.run
  if s.boot.trial then
    let q : State := s.bsrReject k 7
    (q.restart true).bootNews bnREJECTED 7 k
  else if s.slotState (1 - k) = slGOOD then
    let q : State := s.bsrWrite [(0x0C + k, 1, slREJ), (0x0E + k, 1, rejCORRUPT), (8, 1, 1 - k)]
    ((q.restart true).set BOOT_STAT_CORRUPT 1).bootNews bnCORRUPT rejCORRUPT k
  else s.enterRecovery

/-- The settings of this start (R475, R478): none is the rejection for SETINC. In TRIAL the settings of the RUN slot are read,
and `conv` is what the image makes of a record of another SETVER. -/
def State.startSettings (s : State) (conv : Option (List Byte)) : Option State :=
  let k := s.boot.run
  let use (s : State) (l : List Byte) : State := s.bootSet fun b => { b with sett := settEntries l }
  if !s.boot.trial then
    some (match s.recData (recSettings k) with | some l => use s l | none => s)
  else match s.recData (recSettings s.bsrRun) with
    | none => some s
    | some l =>
      if settVer l = s.imgSetver k then some ((use s l).bootSet fun b => { b with conv := some l })
      else match conv with
        | some l' => some (((use s l').bootSet fun b => { b with conv := some l' }).set BOOT_STAT_SETCONV 1)
        | none => none

/-- A trial image that cannot convert the settings rejects itself (R475). -/
def State.settingsFail (s : State) : State :=
  let k := s.boot.run
  ((s.bsrReject k rejSETINC).restart true).bootNews bnSETINC rejSETINC k

/-- What firmware shows of its image and its flash (R451, R466, R468, R475, R485). -/
def State.showStart (s : State) : State :=
  let k := s.boot.run
  let v := s.imgVersion k
  let bad := (List.range 2).any fun c => (s.validCopy recBD c).isNone
  let inc := s.slotState (1 - k) = slREJ && s.bsr (0x0E + (1 - k)) 1 = rejSETINC
  let s : State := (((s.wr BOOT_RUNVER_L (w32 v)).wr BOOT_RUNVER_H (w32 (v / 2 ^ 32))).wr GLB_FWVER (w32 v)).setAll
    [(BOOT_STAT_RUNSLOT, k), (BOOT_STAT_SETVER, s.imgSetver k)]
  let s : State := if bad then s.set BOOT_STAT_BDFAIL 1 else s
  if inc then s.set BOOT_STAT_SETINC 1 else s

/-- A download record of a slot that is now CAND or RUN is erased (R472). -/
def State.staleDownload (s : State) : State :=
  match s.boot.dl with
  | some d => if d.slot = s.bsrRun || s.bsrCand = some d.slot then s.bootSet fun b => { b with dl := none } else s
  | none => s

/-- The events of the start are notified (R484). -/
def State.tellNews (s : State) : State :=
  (s.boot.news.foldl (fun (s : State) x => s.bootNotify x.1 x.2.1 x.2.2) s).bootSet fun b => { b with news := [] }

/-- Code regions and the loop engine at a start (R252, R368, R396). -/
def State.startBlocks (s : State) : State :=
  let s : State := if s.head then s.setCodesz (List.range 64) (s.get CMP_CFG_CODEKB) else s
  let s : State := s.loadCorrection
  if s.head then s.laneFirmware (List.range 4)
  else (List.range 16).foldl (fun (s : State) i => s.bindCtx i 0 i 0 0 0 0) s

/-- The start of firmware in HALT, up to the transition to STARTPS (R465). -/
def State.firmwareRuns (s : State) (ee : List Byte) : State :=
  let s : State := { s with ctl := { s.ctl with keyA := s.storedKey 0, keyB := s.storedKey 1 } }
  let s : State := (s.staleDownload.lpeConfig.applySettings psHALT).startBlocks
  let s : State := if s.boot.burn then s.burnFuses else s
  let s : State := s.tellNews
  let s : State := if s.lampSide then (s.identity ee).stage else s
  if s.get BOOT_CFG_STARTPS = 0 then s else s.autoTo (psHALT + s.get BOOT_CFG_STARTPS)

/-- FIRMWARE_START (R465, R466, R475): `ee`: the lamp-board EEPROM; `conv`: the settings the trial image converts, if it can. -/
def execFirmwareStart (ee : List Byte) (conv : Option (List Byte)) (s : State) : Host.Outcome State Fault Refusal :=
  settled <|
    if s.phase ≠ .rom then s
    else
      let s : State := { s with phase := .firmware }
      let s : State := s.bootSet fun b => { b with count := b.count + 1 }
      if !s.hashesOk s.boot.run 3 (· ≠ 1) then s.sectionFails
      else match s.showStart.startSettings conv with
        | some s => s.firmwareRuns ee
        | none => s.settingsFail

/-! ### Launch ticks (R50, R349) and the FLIP of tile firmware (R370) -/

/-- LAUNCH (R50, R349): the launch time of the next slot has come, and what is due before it is done. -/
def execLdLaunch (s : State) : Host.Outcome State Fault Refusal :=
  settled <|
    if s.running && s.gridRuns && decide (s.scanOf s.tm.nextJ ≤ s.tm.wall) &&
        !s.lqDue 0 (launchTime s.grid s.tm.nextJ) && !s.gridFirst then s.launch.stopDown
    else s

/-- The first sequence that is committed and complete (R370). -/
def State.flipReady (s : State) : Option Nat :=
  s.fw.cmts.find? fun q => s.fw.dones.any fun d => d.1 = q && decide (16 ≤ d.2.length)

/-- FLIP_QUEUE (R370): CLOSEDSEQ, then the FLIP for T(q) into buffer q mod 8. -/
def execFlipQueue (s : State) : Host.Outcome State Fault Refusal :=
  settled <|
    if !s.ready || !s.lampSide then s
    else
      let s : State := s.fwDrain
      match s.flipReady with
      | none => s
      | some q =>
        let s : State := s.putWord (selBase + 20) (w32 (q + 65536))
        let s : State := s.fwSet fun x => { x with cmts := x.cmts.filter (· ≠ q), dones := x.dones.filter fun d => d.1 ≠ q }
        let w := launchTime s.grid (nearSlot s.tm.nextJ q)
        (s.lqPost aFLIP (q + 65536 * (q % 8)) (w / wNs * wNs)).2

end Sys2Proof.Machine
end

