-- ==== Sys2Proof/Machine/Control.lean ====
section
/-! DEFINITION. Control messages: authentication (R114-R116), bodies and operations (R430-R435), relays (R326, R436), the
cache (R437), keys (R438, R439), notifications (R440-R442) and the CTL queue of a tile (R327). -/

namespace Sys2Proof.Machine

/-! ### Requests as bytes (R431, R432) -/

/-- Message statuses of R435 that are no operation statuses. -/
abbrev mTIMEOUT : Nat := 0x02
abbrev mTOOBIG : Nat := 0x0B
abbrev mBADMSG : Nat := 0x0C
abbrev mNOUNIT : Nat := 0x0D
abbrev rKEY : Nat := 0x0A
abbrev rSKIPPED : Nat := 0x0F

/-- Limits of a body over Ethernet and in a CTL frame (R290, R430). -/
abbrev ethLimit : Nat := 8320
abbrev ctlLimit : Nat := 1024

/-- Operation codes (R432). -/
abbrev ocREAD : Nat := 0x01
abbrev ocWRITE : Nat := 0x02
abbrev ocMWRITE : Nat := 0x03
abbrev ocKEYINST : Nat := 0x10
abbrev ocKEYDEL : Nat := 0x11

/-- An operation of a request (R432): `rsv` gathers its reserved bytes. -/
structure CtlOp where
  opc   : Nat
  rsv   : Nat
  count : Nat
  addr  : Nat
  mask  : Nat
  data  : List Word

/-- Words of a byte string. -/
def wordsOf (l : List Byte) (n : Nat) : List Word := (List.range n).map fun i => w32 (numAt l (4 * i) 4)

/-- Data words that follow the header of an operation; none: an OPC that is not listed (R432, R439). -/
def opData (opc count : Nat) : Option Nat :=
  if opc = ocREAD then some 0
  else if opc = ocWRITE ∨ opc = ocMWRITE ∨ opc = ocKEYINST ∨ opc = ocKEYDEL then some count
  else none

/-- `n` operations that fill the bytes exactly; none where the layout cannot be followed (R435; log entry 78). -/
def parseOps : Nat → List Byte → Option (List CtlOp)
  | 0, l => if l.isEmpty then some [] else none
  | n + 1, l =>
    if l.length < 16 then none
    else
      match opData (numAt l 0 1) (numAt l 2 2) with
      | none => none
      | some k =>
        if l.length < 16 + 4 * k then none
        else match parseOps n (l.drop (16 + 4 * k)) with
          | none => none
          | some r => some (⟨numAt l 0 1, numAt l 1 1 + 256 * numAt l 10 2, numAt l 2 2, numAt l 4 6, numAt l 12 4,
              wordsOf (l.drop 16) k⟩ :: r)

/-- The header is that of a request, and its operations can be read (R430, R431). -/
def parseRequest (l : List Byte) : Option (List CtlOp) :=
  if decide (16 ≤ l.length) && numAt l 0 1 = 1 && numAt l 1 1 = 0 && decide (1 ≤ numAt l 6 2 ∧ numAt l 6 2 ≤ 64) &&
      decide (numAt l 8 1 ≤ 1) && numAt l 9 1 = 0 && numAt l 10 6 = 0 then parseOps (numAt l 6 2) (l.drop 16)
  else none

/-- Bytes of the response if every operation is examined and every READ completes (R435). -/
def responseSize (l : List CtlOp) : Nat := 16 + (l.map fun o => 8 + if o.opc = ocREAD then 4 * o.count else 0).sum

/-- The response header to a request: its header with KIND 1, MSTATUS and NOPS (R435). -/
def responseHead (req : List Byte) (mstatus n : Nat) : List Byte :=
  msgBody 1 (numAt req 2 2) (numAt req 4 2) n (numAt req 8 1) mstatus []

/-- A response without results (R435). -/
def refusal (req : List Byte) (mstatus : Nat) : List Byte := responseHead req mstatus 0

/-! ### Keys (R116, R438, R439) -/

/-- Keys A and B. -/
abbrev Keys : Type := Option (Nat × List Byte) × Option (Nat × List Byte)

/-- The key of slot 1 (A) or 2 (B). -/
def keyOf (k : Keys) (n : Nat) : Option (Nat × List Byte) := if n = 1 then k.1 else if n = 2 then k.2 else none

/-- The key store as a record (log entry 89). -/
def keyBytes : Option (Nat × List Byte) → List Byte
  | some (id, k) => 1#8 :: natLE 2 id ++ padTo 32 k
  | none => zeros 35
def State.storeKeys (s : State) (k : Keys) : State := s.writeRec recKEYS (keyBytes k.1 ++ keyBytes k.2)

/-- How a request was authenticated: the slot of its key, 0 without keys, and its message counter. -/
structure Auth where
  slot : Nat
  ctr  : Nat

/-- The key that KEYINST carries: wrapped by the authenticating key (R439). -/
def unwrapKey (k : Keys) (a : Auth) (id : Nat) (l : List Byte) : List Byte :=
  match keyOf k a.slot with
  | some (_, key) =>
    let w := [0x4B#8, 0x4D#8, 0x52#8, 0x4B#8, 0x57#8, 0x52#8, 0x41#8, 0x50#8] ++ natLE 8 a.ctr ++ natLE 2 id
    List.zipWith (· ^^^ ·) l (hmacSha256 key w)
  | none => l

/-- KEYINST and KEYDEL on the keys `k` (R439): the status, and the keys after it. -/
def keyOp (k0 k : Keys) (a : Auth) (o : CtlOp) : Nat × Keys :=
  let w := (o.data.headD 0).toNat
  let slot := w % 2 + 1
  if o.addr ≠ 0 ∨ o.count ≠ (if o.opc = ocKEYINST then 9 else 1) then (mBADMSG, k)
  else if o.opc = ocKEYINST then
    let id := w / 65536
    if w / 2 % 32768 ≠ 0 then (mBADMSG, k)
    else if a.slot = slot || (keyOf k (3 - slot)).any (fun x => x.1 = id) then (rKEY, k)
    else
      let key := unwrapKey k0 a id ((o.data.drop 1).flatMap wordBytes)
      (rOK, if slot = 1 then (some (id, key), k.2) else (k.1, some (id, key)))
  else if a.slot = slot || (keyOf k slot).isNone then (rKEY, k)
  else (rOK, if slot = 1 then (none, k.2) else (k.1, none))

/-! ### Operations (R432-R435) -/

/-- The words of a READ, until one fails: status and the words read. -/
def State.opRead (s : State) (a : Nat) : Nat → Nat × List Word × State
  | 0 => (rOK, [], s)
  | n + 1 =>
    match s.readWord a with
    | (0, w, s) => match s.opRead (a + 4) n with | (r, l, s) => (r, w :: l, s)
    | (r, _, s) => (r, [], s)

/-- The words of a WRITE or MWRITE, until one fails: status and the number written. -/
def State.opWrite (s : State) (mask : Option Word) (a : Nat) : List Word → Nat × Nat × State
  | [] => (rOK, 0, s)
  | w :: l =>
    let s : State := match mask with | some m => s.maskWrite a w m | none => s.writeWord a w
    if s.resp = rOK then match s.opWrite mask (a + 4) l with | (r, n, s) => (r, n + 1, s) else (s.resp, 0, s)

/-- One operation on the unit's own address space: status, words accessed, words read, and the keys. -/
def State.runOp (s : State) (a : Auth) (k : Keys) (o : CtlOp) : (Nat × Nat × List Word × Keys) × State :=
  if o.rsv ≠ 0 ∨ o.count = 0 ∨ 2048 < o.count ∨ (o.mask ≠ 0 ∧ o.opc ≠ ocMWRITE) then ((mBADMSG, 0, [], k), s)
  else if o.opc = ocREAD then match s.opRead o.addr o.count with | (r, l, s) => ((r, l.length, l, k), s)
  else if o.opc = ocWRITE then match s.opWrite none o.addr o.data with | (r, n, s) => ((r, n, [], k), s)
  else if o.opc = ocMWRITE then match s.opWrite (some (w32 o.mask)) o.addr o.data with | (r, n, s) => ((r, n, [], k), s)
  else if !s.head then ((rKEY, 0, [], k), s)
  else
    let (r, k') := keyOp (s.ctl.keyA, s.ctl.keyB) k a o
    ((r, if r = rOK then o.count else 0, [], k'), if r = rOK then s.storeKeys k' else s)

/-- A result (R435). -/
def resultBytes (opc status done : Nat) (l : List Word) : List Byte :=
  [BitVec.ofNat 8 opc, BitVec.ofNat 8 status] ++ natLE 2 done ++ zeros 4 ++ l.flatMap wordBytes

/-- The operations in order; after a failure under STOPERR the rest is SKIPPED (R431, R433, R435). -/
def State.runOps (s : State) (a : Auth) (stop : Bool) : Bool → Keys → List CtlOp → (List Byte × Keys) × State
  | _, k, [] => (([], k), s)
  | failed, k, o :: l =>
    if failed && stop then
      match s.runOps a stop true k l with
      | ((b, k), s) => ((resultBytes o.opc rSKIPPED 0 [] ++ b, k), s)
    else
      match s.runOp a k o with
      | ((r, n, ws, k), s) =>
        let s : State := if r = rOK then s else s.bump GLB_CTLERR
        match s.runOps a stop (failed || r ≠ rOK) k l with
        | ((b, k), s) => ((resultBytes o.opc r n ws ++ b, k), s)

/-- A parsed request executed here: its response, and the keys after it. -/
def State.execute (s : State) (a : Auth) (req : List Byte) (l : List CtlOp) : (List Byte × Keys) × State :=
  match s.runOps a (numAt req 8 1 = 1) false (s.ctl.keyA, s.ctl.keyB) l with
  | ((b, k), s) => ((responseHead req rOK l.length ++ b, k), s)

/-! ### Sending (R430, R437, R438, R449) -/

/-- The key of a message: the one of slot `n` while it is installed, else A, else B (R438). -/
def State.sendKey (s : State) (n : Nat) : Option (Nat × List Byte) :=
  match keyOf (s.ctl.keyA, s.ctl.keyB) n with
  | some k => some k
  | none => match s.ctl.keyA with | some k => some k | none => s.ctl.keyB

/-- The trailer of a message (R114), counted since the start (R438; log entry 95). -/
def State.trailer (s : State) (key : Option (Nat × List Byte)) (l : List Byte) : List Byte :=
  match key with
  | none => []
  | some (id, k) =>
    let t := natLE 2 id ++ natLE 8 (s.boot.count * 2 ^ 40 + s.ctl.msgN)
    t ++ hmacSha256 k (l ++ t)

/-- A body leaves to an endpoint; the unit `u` adds its check if it is set to (R449). -/
def State.sendBody (s : State) (p : Peer) (key : Nat) (u : Option Nat) (body : List Byte) : State :=
  let s : State := s.ctlSet fun c => { c with msgN := c.msgN + 1 }
  let r : List Byte × State := match u with
    | some n => if s.cvuOf p = some n && s.bit (CVU_CFG_TX n) then s.cvuSend n body else (body, s)
    | none => (body, s)
  let l := r.1 ++ r.2.trailer (r.2.sendKey key) r.1
  r.2.skdSet fun k => { k with out := .msg p.port p.v6 p.ip p.udp l :: k.out }

/-- Two messages come from one endpoint: address and UDP port (R115). -/
def samePeer (a b : Peer) : Bool := a.v6 = b.v6 && a.ip = b.ip && a.udp = b.udp

/-- A response is sent and kept; 16 are kept for each endpoint (R437). -/
def State.respond (s : State) (p : Peer) (key : Nat) (u : Option Nat) (body : List Byte) : State :=
  let mine := (s.ctl.cache.filter fun c => samePeer c.who p && c.tag ≠ numAt body 2 2).take 15
  let rest := s.ctl.cache.filter fun c => !samePeer c.who p
  (s.ctlSet fun c => { c with cache := ⟨p, numAt body 2 2, s.now, body⟩ :: mine ++ rest }).sendBody p key u body

/-! ### Authentication (R114-R116) -/

/-- The endpoint of a message accepted with counter `c`. -/
def Endpoint.accept (e : Endpoint) (p : Peer) (c now : Nat) : Endpoint :=
  let hi := max e.hi c
  { who := p, hi := hi, seen := c :: e.seen.filter (fun x => decide (hi ≤ x + 64)), last := now }

/-- The counter is new: above the highest, or within 64 below it and not accepted before (R115). -/
def Endpoint.fresh (e : Endpoint) (c : Nat) : Bool :=
  decide (e.hi < c) || (decide (e.hi ≤ c + 64) && !e.seen.contains c)

/-- The place of the endpoint that has been silent longest. -/
def oldest (l : List Endpoint) : Option Nat :=
  (List.range l.length).foldl (fun b i => match b, l[i]? with
    | none, _ => some i
    | some j, some x => match l[j]? with | some y => if x.last < y.last then some i else some j | none => some j
    | some j, none => some j) none

/-- The counter of an authenticated message (R115): whether it is accepted, and the endpoints. -/
def State.acceptFrom (s : State) (p : Peer) (c : Nat) : Bool × State :=
  let l := s.ctl.eps
  let refuse (s : State) : Bool × State := (false, s.bump (ETH_REPLAY p.port))
  let e : Endpoint := ⟨p, c, [c], s.now⟩
  match (List.range l.length).find? fun i => match l[i]? with | some x => samePeer x.who p | none => false with
  | some i =>
    match l[i]? with
    | some x => if x.fresh c then (true, s.ctlSet fun k => { k with eps := l.set i (x.accept p c s.now) }) else refuse s
    | none => refuse s
  | none =>
    if l.length < 8 then (true, s.ctlSet fun k => { k with eps := l ++ [e] })
    else match oldest l with
      | some i =>
        match l[i]? with
        | some x =>
          if x.last + 60 * 10 ^ 9 ≤ s.now then (true, s.ctlSet fun k => { k with eps := l.set i e })
          else refuse (s.set ETH_AUTH_EPFULL 1)
        | none => refuse s
      | none => refuse s

/-- The slot whose key ID and tag a message carries (R114, R115). -/
def State.keyMatch (s : State) (l : List Byte) : Option Nat :=
  let n := l.length - 42
  [1, 2].find? fun k => match keyOf (s.ctl.keyA, s.ctl.keyB) k with
    | some (id, key) => decide (42 ≤ l.length) && numAt l n 2 = id && hmacSha256 key (l.take (n + 10)) = l.drop (n + 10)
    | none => false

/-- A message that passes R115, with how it was authenticated and its body; else the counts of a refusal. -/
def State.authenticate (s : State) (p : Peer) (l : List Byte) : Option (Auth × List Byte) × State :=
  if s.ctl.keyA.isNone && s.ctl.keyB.isNone then (some (⟨0, 0⟩, l), s)
  else match s.keyMatch l with
    | none => (none, s.bump (ETH_AUTHFAIL p.port))
    | some k =>
      let n := l.length - 42
      let c := numAt l (n + 2) 8
      match s.acceptFrom p c with
      | (true, s) => (some (⟨k, c⟩, l.take n), s)
      | (false, s) => (none, s)

/-! ### CONTROL_REQUEST -/

/-- The target is a PRESENT unit of the head's section (R435). -/
def State.presentUnit (s : State) (a : Nat) : Bool :=
  a / 1024 = s.headNum && a % 64 ≠ 0 && s.get (SKD_CT_W0_STATE (a % 1024)) = ctPRESENT

/-- A request goes on to a tile (R326, R436). -/
def State.relayTo (s : State) (p : Peer) (a : Auth) (u : Option Nat) (req : List Byte) (l : List CtlOp) : State :=
  let unit := numAt req 4 2
  if ctlLimit < req.length ∨ ctlLimit < responseSize l then s.respond p a.slot u (refusal req mTOOBIG)
  else if 64 ≤ (s.ctl.relays.filter fun r => r.host.isSome).length then s.respond p a.slot u (refusal req rBUSY)
  else
    let t := s.skd.ctlTag
    let s : State := s.skdSet fun k => { k with ctlTag := (t + 1) % 2 ^ 16 }
    let s : State := s.sendTo unit (ctlFrame unit s.srcAddr false t 0 true (putAt req 2 (natLE 2 t)))
    s.ctlSet fun c => { c with relays := c.relays ++
      [⟨t, unit, s.now + s.get SKD_CH_CFG_CTLTO * 1000000, false, some (p, req.take 16, a.slot, u)⟩] }

/-- A request executed here; a change of keys follows its response (R439). -/
def State.serveOwn (s : State) (p : Peer) (a : Auth) (u : Option Nat) (req : List Byte) (l : List CtlOp) : State :=
  match s.execute a req l with
  | ((b, k), s) =>
    let s : State := s.respond p a.slot u b
    { s with ctl := { s.ctl with keyA := k.1, keyB := k.2 } }

/-- A body that has passed every check of its carriage (R430, R435, R436). -/
def State.serveBody (s : State) (p : Peer) (a : Auth) (u : Option Nat) (req : List Byte) : State :=
  if ethLimit < req.length then s.respond p a.slot u (refusal req mTOOBIG)
  else match parseRequest req with
    | none => s.respond p a.slot u (refusal req mBADMSG)
    | some l =>
      if numAt req 4 2 = s.srcAddr then
        if ethLimit < responseSize l then s.respond p a.slot u (refusal req mTOOBIG) else s.serveOwn p a u req l
      else if s.presentUnit (numAt req 4 2) then s.relayTo p a u req l
      else s.respond p a.slot u (refusal req mNOUNIT)

/-- The response kept for a TAG, not older than 1 s (R437). -/
def State.cached (s : State) (p : Peer) (tag : Nat) : Option Cached :=
  s.ctl.cache.find? fun c => samePeer c.who p && c.tag = tag && decide (s.now ≤ c.at0 + 10 ^ 9)

/-- An accepted message, its check value removed (R437, R449). -/
def State.serveChecked (s : State) (p : Peer) (a : Auth) (u : Option Nat) (req : List Byte) : State :=
  match s.cached p (numAt req 2 2) with
  | some c => (s.bump GLB_DUPRSP).sendBody p a.slot u c.body
  | none => s.serveBody p a u req

/-- A message that has passed R115: a bound stream is checked first (R449). -/
def State.serveMessage (s : State) (p : Peer) (a : Auth) (req : List Byte) : State :=
  let u := s.cvuOf p
  match u with
  | some n =>
    if s.bit (CVU_CFG_RX n) then
      match s.cvuReceive n req with
      | (.ok b, s) => s.serveChecked p a u b
      | (.error r, s) => s.respond p a.slot u (refusal req r)
    else s.serveChecked p a u req
  | none => s.serveChecked p a u req

/-- CONTROL_REQUEST (R430, R433): a UDP payload sent to CTLPORT of a head's port `p` from address `ip` and port `udp`. -/
def execControlRequest (p : Nat) (v6 : Bool) (ip udp : Nat) (payload : List Byte) (s : State) :
    Host.Outcome State Fault Refusal :=
  settled <|
    if s.running && s.head && decide (p < 4) then
      match s.authenticate ⟨p, v6, ip, udp⟩ payload with
      | (some (a, b), s) => s.serveMessage ⟨p, v6, ip, udp⟩ a b
      | (none, s) => s
    else s

/-! ### Responses of tiles (R326) -/

/-- The relayed request is answered with `body` (R326), as its requester's stream was bound when it was accepted (R448). -/
def State.relayAnswer (s : State) (r : Relay) (f : List Byte → List Byte) : State :=
  match r.host with
  | some (p, hd, key, u) => s.respond p key u (f hd)
  | none => s

/-- A request leaves the table of requests sent. -/
def State.relayDrop (s : State) (tag : Nat) : State :=
  s.ctlSet fun c => { c with relays := c.relays.filter fun r => r.tag ≠ tag }

/-- RELAY_TIMEOUT (R326): the first request whose time is over. -/
def execRelayTimeout (s : State) : Host.Outcome State Fault Refusal :=
  settled <|
    if !s.running then s
    else match s.ctl.relays.find? fun r => decide (r.till ≤ s.now) with
      | none => s
      | some r =>
        let s : State := s.relayDrop r.tag
        if r.maps then s.imgAnswer r.unit none else s.relayAnswer r fun hd => refusal hd mTIMEOUT

/-- The words of the READ results of a response (R435). -/
def readWords : Nat → List Byte → List Byte
  | 0, _ => []
  | n + 1, l => if l.length < 8 then [] else slice l 8 (4 * numAt l 2 2) ++ readWords n (l.drop (8 + 4 * numAt l 2 2))

/-- CTL_RESPONSE_RX (R326). -/
def execCtlResponseRx (p : Nat) (s : State) : Host.Outcome State Fault Refusal :=
  settled (if s.running && s.head && decide (p < 16) then
      match s.takeRx p fun f => f.typ = fCTL && f.fld 12 1 % 4 = 1 with
      | some (i, s) =>
        match s.ctl.relays.find? fun r => r.tag = i.f.fld 10 2 with
        | none => s.bump SKD_CH_LATERSP
        | some r =>
          let s : State := s.relayDrop r.tag
          if r.maps then s.imgAnswer r.unit (some (readWords (numAt i.f.pay 6 2) (i.f.pay.drop 16)))
          else s.relayAnswer r fun hd => putAt i.f.pay 2 (slice hd 2 2)
      | none => s
    else s)

/-- ACK_RX (R291, R335): an ACK goes to firmware; BUSY of a relayed request is passed on (R327), and of the acknowledgements
of pieces the next pass needs nothing (R335). -/
def execAckRx (p : Nat) (s : State) : Host.Outcome State Fault Refusal :=
  settled (if s.running && decide (p < s.portCount) then
      match s.takeRx p fun f => f.typ = fACK with
      | some (i, s) =>
        if s.head && i.f.fld 12 1 % 16 = akBUSY && i.f.fld 13 1 % 16 = fCTL then
          match s.ctl.relays.find? fun r => r.tag = i.f.fld 10 2 && r.host.isSome with
          | some r => (s.relayDrop r.tag).relayAnswer r fun hd => refusal hd rBUSY
          | none => s
        else s
      | none => s
    else s)

/-! ### CTL requests at a tile (R327) -/

/-- A request arrives: it queues, or finds 16 queued (R327). -/
def State.ctlArrives (s : State) (p : Nat) (f : Frame) : State :=
  if 16 ≤ s.ctl.tileQ.length then
    if f.fld 13 1 % 2 = 1 then s.sendAck f.src (f.fld 10 2) akBUSY fCTL 0 else s
  else
    let s : State := s.ctlSet fun c => { c with tileQ := c.tileQ ++ [(p, f)] }
    if f.fld 13 1 % 2 = 1 then s.sendAck f.src (f.fld 10 2) akOK fCTL 0 else s

/-- The body of a CTL request: its response (R327, R430, R436; log entry 96). -/
def State.tileAnswer (s : State) (f : Frame) : List Byte × State :=
  let req := f.pay
  match parseRequest req with
  | none => (refusal req mBADMSG, s)
  | some l =>
    if numAt req 2 2 ≠ f.fld 10 2 then (refusal req mBADMSG, s)
    else if numAt req 4 2 ≠ s.srcAddr then (refusal req mNOUNIT, s)
    else if ctlLimit < responseSize l then (refusal req mTOOBIG, s)
    else match s.execute ⟨0, 0⟩ req l with | ((b, _), s) => (b, s)

/-- The oldest queued request is served, or answered again (R327). -/
def State.ctlServe (s : State) : State :=
  match s.ctl.tileQ with
  | [] => s
  | (_, f) :: q =>
    let s : State := s.ctlSet fun c => { c with tileQ := q, served := c.served.filter fun x => decide (s.now ≤ x.2.2.1 + 10 ^ 8) }
    let reply (s : State) (b : List Byte) : State :=
      s.sendTo f.src (ctlFrame f.src s.srcAddr false (f.fld 10 2) 1 false b)
    match s.ctl.served.find? fun x => x.1 = f.src && x.2.1 = f.fld 10 2 with
    | some x => reply s x.2.2.2
    | none =>
      let (b, s) := s.tileAnswer f
      reply (s.ctlSet fun c => { c with served := (f.src, f.fld 10 2, s.now, b) :: c.served }) b

/-- TILE_CTL_REQUEST (R327): the request at the front of port `p` arrives, or the oldest queued one is served. -/
def execTileCtlRequest (p : Option Nat) (s : State) : Host.Outcome State Fault Refusal :=
  settled (if s.running && !s.head then
      match p with
      | some p =>
        if 4 ≤ p then s
        else match s.takeRx p fun f => f.typ = fCTL && f.fld 12 1 % 4 = 0 with
          | some (i, s) => s.ctlArrives p i.f
          | none => s
      | none => s.ctlServe
    else s)

/-! ### Notifications (R440-R442) -/

/-- A record as bytes (R441). -/
def recBytes (r : NRec) : List Byte := wordBytes r.w0 ++ wordBytes r.w1 ++ wordBytes r.w2 ++ wordBytes r.w3

/-- The body of a notification with the next TAG (R440). -/
def State.noteBody (s : State) (target : Nat) (l : List NRec) : Nat × List Byte × State :=
  let t := (s.get GLB_NSEQ_TAG + 1) % 65536
  (t, msgBody 2 t target l.length 0 0 (l.flatMap recBytes), s.set GLB_NSEQ_TAG t)

/-- The destination of `d` (R440, R451). -/
def State.noteDest (s : State) (d : Nat) : Peer :=
  let v6 := s.bit (GLB_NDEST_W4_IPV6 d)
  ⟨s.get (GLB_NDEST_W4_PORT d), v6, s.addrWords (GLB_NDEST d) v6, s.get (GLB_NDEST_W4_UDP d)⟩

/-- The LOST record of a destination, logged as it arises (R442; log entry 97). -/
def State.lostRecord (s : State) (n : Nat) : List NRec × State :=
  if n = 0 then ([], s)
  else
    let r := s.record nLOST n
    (if (s.rd GLB_NMASK).toNat.testBit nLOST then [r] else [], s.logRecord r)

/-- A notification to destination `d` of a head. -/
def State.notifyDest (s : State) (d : Nat) : State :=
  let q := if d = 0 then s.note.q0 else s.note.q1
  let lost := if d = 0 then s.note.lost0 else s.note.lost1
  let due := if d = 0 then s.note.next0 else s.note.next1
  if !s.bit (GLB_NDEST_W4_EN d) || decide (s.now < due) || (q.isEmpty && lost = 0) then s
  else
    let (l0, s) := s.lostRecord lost
    let n := 64 - l0.length
    let l := l0 ++ q.take n
    let s : State := if d = 0 then { s with note := { s.note with q0 := q.drop n, lost0 := 0, next0 := s.now + 1000000 } }
      else { s with note := { s.note with q1 := q.drop n, lost1 := 0, next1 := s.now + 1000000 } }
    if l.isEmpty then s
    else
      let (_, b, s) := s.noteBody s.srcAddr l
      s.sendBody (s.noteDest d) 0 (s.cvuOf (s.noteDest d)) b

/-- A tile's records to its head, as many as a CTL frame holds (R290, R440). -/
def State.notifyHead (s : State) : State :=
  if s.note.tileQ.isEmpty || decide (s.now < s.note.next0) || !s.bit SKD_ADDR_VALID then s
  else
    let l := s.note.tileQ.take 63
    let s : State := { s with note := { s.note with tileQ := s.note.tileQ.drop 63, next0 := s.now + 1000000 } }
    let (t, b, s) := s.noteBody s.headOf l
    s.sendTo s.headOf (ctlFrame s.headOf s.srcAddr false t 2 false b)

/-- NOTIFY_SEND (R440): to destination `d` of a head, or from a tile to its head. -/
def execNotifySend (d : Nat) (s : State) : Host.Outcome State Fault Refusal :=
  settled (if !s.running then s else if !s.head then s.notifyHead else if d < 2 then s.notifyDest d else s)

/-- A tile's record enters the head's stream and log; the loss of a downstream port marks what lies beyond (R320, R440). -/
def State.tileRecord (s : State) (b : List Byte) : State :=
  let r : NRec := ⟨w32 (numAt b 0 4), w32 (numAt b 4 4), w32 (numAt b 8 4), w32 (numAt b 12 4)⟩
  let s : State := s.takeRecord r
  if numAt b 0 2 = nLINK then s.linkLost (numAt b 2 2) (numAt b 12 4 % 4) else s

/-- CTL_NOTIFICATION_RX (R440). -/
def execCtlNotificationRx (p : Nat) (s : State) : Host.Outcome State Fault Refusal :=
  settled (if s.running && s.head && decide (p < 16) then
      match s.takeRx p fun f => f.typ = fCTL && f.fld 12 1 % 4 = 2 with
      | some (i, s) =>
        let b := i.f.pay.drop 16
        (List.range (min (numAt i.f.pay 6 2) (b.length / 16))).foldl (fun (s : State) k => s.tileRecord (slice b (16 * k) 16)) s
      | none => s
    else s)

end Sys2Proof.Machine
end

