-- ==== Sys2Proof/Machine/Tim.lean ====
section
/-! DEFINITION. Time down a chain and along a peer path: TIM SYNC and PDLY (R42, R45-R49, R293, R294, R324). -/

namespace Sys2Proof.Machine

/-! ### Beacons of a head (R45, R293) -/

/-- A grid as NUM, DEN, SLOTS at bytes 0, 4, 6 and CYC at byte 8 of 12 (R293). -/
def gridBytes (g : GridSet) : List Byte := natLE 4 g.num ++ natLE 2 g.den ++ natLE 1 g.slots ++ zeros 1 ++ natLE 4 g.cyc

/-- Such a grid read back. -/
def gridFrom (l : List Byte) (o : Nat) : GridSet :=
  ⟨numAt l o 4 % 2 ^ 20, numAt l (o + 4) 2, numAt l (o + 6) 1 % 16, numAt l (o + 8) 4 % 2 ^ 24⟩

/-- The payload of a beacon; the origin time is put in as it leaves (R293). -/
def State.syncPayload (s : State) : List Byte :=
  let b (c : Bool) (n : Nat) : Nat := if c then n else 0
  let l := zeros 96
  let l := putAt l 21 (natLE 1 (s.servo + b s.tm.step.isSome 8 + b s.tm.gridPend.isSome 16))
  let l := putAt (putAt l 24 (gridBytes s.grid)) 31 (natLE 1 (s.get TMU_TIM_PER))
  let l := match s.tm.step with
    | some (d, w) => putAt l 36 (natLE 8 (ofInt 64 (d / 2 ^ 16)) ++ timeBytes w)
    | none => l
  match s.tm.gridPend with
  | some (g, j) => putAt l 56 (gridBytes g ++ timeBytes (launchTime g j))
  | none => l

/-- A beacon goes out on port `p`: enabled, not in a calibration window, and on a RINGEND port only while its ring
is fed from here (R45, R88, R324; the span after a forwarded frame is log entry 28). -/
def State.beaconPort (s : State) (p : Nat) : Bool :=
  (s.get TMU_TIM_PORTEN).testBit p && s.active p && decide ((s.port p).calTx ≤ s.now) &&
  (s.role p ≠ rRINGEND || s.skd.ringOn.contains p ||
    s.skd.ringFed.any (fun r => r.1 = p && decide (s.now ≤ r.2 + s.grid.den * 10 ^ 9 / max 1 s.grid.num)))

/-- The beacons of one interval, on each enabled port. -/
def State.sendBeacons (s : State) : State :=
  let n := s.tm.timCnt % 2 ^ 16
  let s := (List.range 16).foldl (fun s p =>
    if s.beaconPort p then
      s.send p (mkFrame fTIM (s.headNum * 1024 + p * 64) s.srcAddr true false ([0#8] ++ natLE 2 n) s.syncPayload)
    else s) s
  s.tmSet fun t => { t with timCnt := t.timCnt + 1, nextTim := s.now + beaconNs (s.get TMU_TIM_PER) }

/-- TIM_SYNC_SEND (R45): every beacon interval, while the chains run (log entry 27). -/
def execTimSyncSend (s : State) : Host.Outcome State Fault Refusal :=
  settled (if s.head && s.ready && decide (s.tm.nextTim ≤ s.now) then s.sendBeacons else s)

/-! ### Beacons at a tile (R47-R49) -/

/-- The tile takes the grid of a beacon (R47). -/
def State.takeGrid (s : State) (l : List Byte) : State :=
  let g := gridFrom l 24
  let pend := (numAt l 21 1).testBit 4
  let pg := gridFrom l 56
  let bad := !g.ok || (pend && !pg.ok)
  let s := if bad then s.set TMU_SRV_STAT_GRIDBAD 1 else s
  if !s.gridRuns then (if g.ok then s.setGrid g else s)
  else if pend then
    if pg.ok && s.grid ≠ pg then
      s.tmSet fun t => { t with gridPend := some (pg, nextSlot pg (timeAt l 68)), gridAnn := true }
    else s
  else
    let s := if s.tm.gridAnn then s.gridDrop else s
    if g.ok && s.grid ≠ g && s.tm.gridPend.isNone then
      s.tmSet fun t => { t with gridPend := some (g, nextSlot g t.wall), gridAnn := false }
    else s

/-- The tile takes the step of a beacon, or drops one whose announcement stopped (R47). -/
def State.takeStep (s : State) (l : List Byte) : State :=
  if (numAt l 21 1).testBit 3 then
    (s.tmSet fun t => { t with step := some (toInt 64 (numAt l 36 8) * 2 ^ 16, timeAt l 44), stepAnn := true }).set
      TMU_SRV_STAT_STEPPEND 1
  else if s.tm.stepAnn then s.stepDrop
  else s

/-- The origin time plus the correction of a beacon, as a wall time. -/
def syncTime (l : List Byte) : Int := (timeAt l 0 : Int) + toInt 64 (numAt l 12 8) * 2 ^ 16

/-- A beacon with a valid trailer from the port in use (R47, R49). -/
def State.useBeacon (s : State) (i : RxItem) : State :=
  let l := i.f.pay
  let s := s.setAll [(TMU_TIM_STAT_HOPS, numAt l 20 1 + 1), (TMU_TIM_STAT_HEADSTATE, numAt l 21 1 % 8),
    (TMU_TIM_STAT_STEPPEND, numAt l 21 1 / 8 % 2), (TMU_TIM_PER, numAt l 31 1 % 16)]
  let s := s.tmSet fun t => { t with peerPer := numAt l 31 1 % 16 }
  let s := s.servoOp fun s => (s.takeGrid l).takeStep l
  s.sampleIn ((i.at0 : Int) - syncTime l - (s.get TMU_TIM_LDLY_LDLY : Int) * 2 ^ 24)

/-- Beacons from this port come from upstream. -/
def upstream (p : Nat) : Bool := p % 2 = 0

/-- A beacon at a tile: forwarded, and used if it comes from the port in use; the first valid one from upstream
brings the source back there (R47, R48, R324). -/
def State.tileSync (s : State) (p : Nat) (i : RxItem) : State :=
  let s := s.queueItem (if p % 2 = 0 then p + 1 else p - 1) ⟨i.f, some p, i.fin, i.at0, none, false⟩
  if i.fin ≠ 0 then s
  else if upstream p then
    let s := if s.bit SKD_TILE_STAT_TIMEDN then (s.set SKD_TILE_STAT_TIMEDN 0).tmSet fun t => { t with ldly := [] } else s
    (s.tmSet fun t => { t with upAt := s.now }).useBeacon i
  else
    let s := s.tmSet fun t => { t with dnAt := s.now + 1 }
    if s.bit SKD_TILE_STAT_TIMEDN then s.useBeacon i else s

/-- A beacon at a head from its peer (R42, R44): a sample with the delay of the two-way exchange (log entry 29). -/
def State.peerSync (s : State) (i : RxItem) : State :=
  let l := i.f.pay
  let s := s.tmSet fun t => { t with peerPer := numAt l 31 1 % 16, lastPeer := s.now }
  let follows := s.bit TMU_PEER_EN && s.headNum ≠ s.get TMU_PEER_REFHEAD
  if !follows then s
  else
    let s := if s.get TMU_SRV_STAT_SRC = srcPEER then s else s.servoOp fun s => s.changeSource srcPEER
    if s.tm.ldly.isEmpty then s
    else s.sampleIn ((i.at0 : Int) - syncTime l - s.tm.ldly.sum / max 1 s.tm.ldly.length)

/-- TIM_SYNC_RX (R42, R44, R47-R49). -/
def execTimSyncRx (p : Nat) (s : State) : Host.Outcome State Fault Refusal :=
  settled (if s.samples && decide (p < s.portCount) then
      match s.takeRx p Frame.isSync with
      | some (i, s) => if s.head then s.peerSync i else s.tileSync p i
      | none => s
    else s)

/-- TIM_SOURCE_SWITCH (R324): no valid beacon from upstream for 4 intervals, and beacons arrive from downstream. -/
def execTimSourceSwitch (s : State) : Host.Outcome State Fault Refusal :=
  settled (if s.samples && !s.head && !s.bit SKD_TILE_STAT_TIMEDN && decide (s.tm.upAt + 4 * beaconNs s.tm.peerPer ≤ s.now) &&
      decide (0 < s.tm.dnAt ∧ s.now < s.tm.dnAt + 4 * beaconNs s.tm.peerPer) then
      (s.set SKD_TILE_STAT_TIMEDN 1).tmSet fun t => { t with ldly := [] }
    else s)

/-! ### Link delay (R46, R294) -/

/-- The port whose link delay the unit measures: a head's peer port, a tile's upstream link (R42, R46, R324). -/
def State.delayPort (s : State) : Option Nat :=
  if s.head then (if s.bit TMU_PEER_EN then some (s.get TMU_PEER_PORT) else none)
  else if s.bit SKD_TILE_STAT_TIMEDN then some pDN
  else if s.active pUP || !s.active pUPT then some pUP else some pUPT

/-- A TIM PDLY frame (R294). -/
def pdlyFrame (src sub seq : Nat) (pay : List Byte) : Frame :=
  mkFrame fTIM 0 src false true ([BitVec.ofNat 8 sub] ++ natLE 2 seq) pay

/-- TIM_PDLYREQ_SEND (R46, R294). -/
def execTimPdlyreqSend (s : State) : Host.Outcome State Fault Refusal :=
  settled <| match s.delayPort with
    | some p =>
      if s.samples && s.active p && decide (s.tm.nextPdly ≤ s.now) then
        (s.tmSet fun t => { t with timCnt := t.timCnt + 1, nextPdly := s.now + 10 ^ 6 * 2 ^ s.get TMU_TIM_PDLY }).send p
          (pdlyFrame s.srcAddr 1 (s.tm.timCnt % 2 ^ 16) (zeros 32))
      else s
    | none => s

/-- A TIM frame of SUB `n`. -/
def isPdly (n : Nat) (f : Frame) : Bool := f.typ = fTIM && f.fld 10 1 % 4 = n

/-- TIM_PDLYREQ_RX (R294): the response carries the request's receive timestamp; its own is put in as it leaves. -/
def execTimPdlyreqRx (p : Nat) (s : State) : Host.Outcome State Fault Refusal :=
  settled (if s.running && decide (p < s.portCount) then
      match s.takeRx p (isPdly 1) with
      | some (i, s) => s.send p (pdlyFrame s.srcAddr 2 (i.f.fld 11 2) (stampBytes i.at0 ++ zeros 20))
      | none => s
    else s)

/-- Half the round trip less the responder's turnaround, 2^-32 ns (R46). -/
def linkDelay (t1 t2 t3 t4 : Int) : Int := ((t4 - t1) - (t3 - t2)) / 2

/-- A link delay joins the last 8, and their mean reads in TMU_TIM_LDLY, 1/256 ns; a mean the register cannot hold
is free (log entry 18). -/
def State.takeDelay (s : State) (d : Int) : State :=
  let s := s.tmSet fun t => { t with ldly := (d :: t.ldly).take 8, pdlyId := 0 }
  let m := s.tm.ldly.sum / max 1 s.tm.ldly.length / 2 ^ 24
  if 0 ≤ m ∧ m < 2 ^ 24 then s.set TMU_TIM_LDLY_LDLY m.toNat
  else
    let (w, s) := s.draw
    s.set TMU_TIM_LDLY_LDLY w.toNat

/-- TIM_PDLYRSP_RX (R42, R46): the response to the last request, on the port measured. -/
def execTimPdlyrspRx (p : Nat) (s : State) : Host.Outcome State Fault Refusal :=
  settled (if s.samples && decide (p < s.portCount) then
      match s.takeRx p (isPdly 2) with
      | some (i, s) =>
        if s.delayPort = some p ∧ s.tm.pdlyId = i.f.fld 11 2 + 1 then
          s.takeDelay (linkDelay s.tm.pdlyT1 (stampAt i.f.pay 0) (stampAt i.f.pay 12) i.at0)
        else s
      | none => s
    else s)

end Sys2Proof.Machine
end

