-- ==== Sys2Proof/Machine/Dispatch.lean ====
section
/-! DEFINITION. One arm for each constructor: a direct call of the command's meaning. -/

namespace Sys2Proof.Machine

def exec (i : Instr) (s : State) : Host.Outcome State Fault Refusal :=
  match i with
  | .porstRise head headnum bootsel dev => Sys2Proof.Machine.execPorstRise head headnum bootsel dev s
  | .lampSideTest vdrv vgate => Sys2Proof.Machine.execLampSideTest vdrv vgate s
  | .firmwareStart ee conv => Sys2Proof.Machine.execFirmwareStart ee conv s
  | .registerWrite addr value => Sys2Proof.Machine.execRegisterWrite addr value s
  | .timeNsRead => Sys2Proof.Machine.execTimeNsRead s
  | .ppsinNsRead => Sys2Proof.Machine.execPpsinNsRead s
  | .trcRd0Read => Sys2Proof.Machine.execTrcRd0Read s
  | .flmEdata0Read => Sys2Proof.Machine.execFlmEdata0Read s
  | .ptpAnnounceRx port gm rank logInt => Sys2Proof.Machine.execPtpAnnounceRx port gm rank logInt s
  | .servoSample t1 t2 t3 t4 cs cd => Sys2Proof.Machine.execServoSample t1 t2 t3 t4 cs cd s
  | .servoTimeout => Sys2Proof.Machine.execServoTimeout s
  | .servoAcquire => Sys2Proof.Machine.execServoAcquire s
  | .servoSlew => Sys2Proof.Machine.execServoSlew s
  | .servoStep => Sys2Proof.Machine.execServoStep s
  | .lqCancel q slot => Sys2Proof.Machine.execLqCancel q slot s
  | .servoHold => Sys2Proof.Machine.execServoHold s
  | .servoResume => Sys2Proof.Machine.execServoResume s
  | .stepExecute => Sys2Proof.Machine.execStepExecute s
  | .lqInsert w3 => Sys2Proof.Machine.execLqInsert w3 s
  | .lqFlip => Sys2Proof.Machine.execLqFlip s
  | .lqPhase => Sys2Proof.Machine.execLqPhase s
  | .lqGrid => Sys2Proof.Machine.execLqGrid s
  | .gridTakeEffect => Sys2Proof.Machine.execGridTakeEffect s
  | .lqRamp => Sys2Proof.Machine.execLqRamp s
  | .lqLpemode => Sys2Proof.Machine.execLqLpemode s
  | .lqCalset => Sys2Proof.Machine.execLqCalset s
  | .lqMclk => Sys2Proof.Machine.execLqMclk s
  | .lqPin => Sys2Proof.Machine.execLqPin s
  | .lqMark => Sys2Proof.Machine.execLqMark s
  | .pacingTick => Sys2Proof.Machine.execPacingTick s
  | .slotComplete => Sys2Proof.Machine.execSlotComplete s
  | .slotAbandon => Sys2Proof.Machine.execSlotAbandon s
  | .commitDeadline => Sys2Proof.Machine.execCommitDeadline s
  | .sectionCommit => Sys2Proof.Machine.execSectionCommit s
  | .wallrdySend => Sys2Proof.Machine.execWallrdySend s
  | .wallDecide => Sys2Proof.Machine.execWallDecide s
  | .wallrdyRx p => Sys2Proof.Machine.execWallrdyRx p s
  | .walldecRx p => Sys2Proof.Machine.execWalldecRx p s
  | .offerRx p full grid => Sys2Proof.Machine.execOfferRx p full grid s
  | .offerreplyRx p => Sys2Proof.Machine.execOfferreplyRx p s
  | .offerTimeout => Sys2Proof.Machine.execOfferTimeout s
  | .moveendRx p => Sys2Proof.Machine.execMoveendRx p s
  | .plcVacate engine => Sys2Proof.Machine.execPlcVacate engine s
  | .plcRestore engine => Sys2Proof.Machine.execPlcRestore engine s
  | .plcReplace => Sys2Proof.Machine.execPlcReplace s
  | .plcReclaim entry => Sys2Proof.Machine.execPlcReclaim entry s
  | .plcReturn entry => Sys2Proof.Machine.execPlcReturn entry s
  | .timSyncSend => Sys2Proof.Machine.execTimSyncSend s
  | .timSyncRx p => Sys2Proof.Machine.execTimSyncRx p s
  | .timPdlyreqSend => Sys2Proof.Machine.execTimPdlyreqSend s
  | .timPdlyreqRx p => Sys2Proof.Machine.execTimPdlyreqRx p s
  | .timPdlyrspRx p => Sys2Proof.Machine.execTimPdlyrspRx p s
  | .peerTimLost => Sys2Proof.Machine.execPeerTimLost s
  | .timSourceSwitch => Sys2Proof.Machine.execTimSourceSwitch s
  | .ppsOutPulse => Sys2Proof.Machine.execPpsOutPulse s
  | .ppsInEdge => Sys2Proof.Machine.execPpsInEdge s
  | .portEnable p cid => Sys2Proof.Machine.execPortEnable p cid s
  | .receiverDetect p => Sys2Proof.Machine.execReceiverDetect p s
  | .detectRetry p found => Sys2Proof.Machine.execDetectRetry p found s
  | .laneLock p lanes unc => Sys2Proof.Machine.execLaneLock p lanes unc s
  | .skewRestart p => Sys2Proof.Machine.execSkewRestart p s
  | .capabilityExchange p c eyes => Sys2Proof.Machine.execCapabilityExchange p c eyes s
  | .rateStep p lock eyes far => Sys2Proof.Machine.execRateStep p lock eyes far s
  | .directBringupTimeout p => Sys2Proof.Machine.execDirectBringupTimeout p s
  | .bringupFailTimeout p => Sys2Proof.Machine.execBringupFailTimeout p s
  | .laneLoss l cid => Sys2Proof.Machine.execLaneLoss l cid s
  | .eiEntry p far => Sys2Proof.Machine.execEiEntry p far s
  | .fastExit p cid => Sys2Proof.Machine.execFastExit p cid s
  | .exitBurstDetect p => Sys2Proof.Machine.execExitBurstDetect p s
  | .fastExitTimeout p cid => Sys2Proof.Machine.execFastExitTimeout p cid s
  | .laneRetrain l => Sys2Proof.Machine.execLaneRetrain l s
  | .laneCal l => Sys2Proof.Machine.execLaneCal l s
  | .laneIdle l => Sys2Proof.Machine.execLaneIdle l s
  | .laneWake l => Sys2Proof.Machine.execLaneWake l s
  | .lanePrbsOn l => Sys2Proof.Machine.execLanePrbsOn l s
  | .lanePrbsOff l => Sys2Proof.Machine.execLanePrbsOff l s
  | .calDue k => Sys2Proof.Machine.execCalDue k s
  | .calreqSend p => Sys2Proof.Machine.execCalreqSend p s
  | .calreqRx p ahead => Sys2Proof.Machine.execCalreqRx p ahead s
  | .calgrantRx p => Sys2Proof.Machine.execCalgrantRx p s
  | .calWindowStart p => Sys2Proof.Machine.execCalWindowStart p s
  | .calRunEnd k eyes => Sys2Proof.Machine.execCalRunEnd k eyes s
  | .calStarve p => Sys2Proof.Machine.execCalStarve p s
  | .ethPortBringup q => Sys2Proof.Machine.execEthPortBringup q s
  | .ethFrameRx p l fcs full cmax vrx => Sys2Proof.Machine.execEthFrameRx p l fcs full cmax vrx s
  | .frameCloseTimeout f => Sys2Proof.Machine.execFrameCloseTimeout f s
  | .ethFrameTx p => Sys2Proof.Machine.execEthFrameTx p s
  | .flowOpen f => Sys2Proof.Machine.execFlowOpen f s
  | .flowClose f => Sys2Proof.Machine.execFlowClose f s
  | .stillFence k buf token => Sys2Proof.Machine.execStillFence k buf token s
  | .monStart => Sys2Proof.Machine.execMonStart s
  | .monStop => Sys2Proof.Machine.execMonStop s
  | .monArm => Sys2Proof.Machine.execMonArm s
  | .monSof => Sys2Proof.Machine.execMonSof s
  | .monPacket => Sys2Proof.Machine.execMonPacket s
  | .controlRequest p v6 ip udp payload => Sys2Proof.Machine.execControlRequest p v6 ip udp payload s
  | .relayTimeout => Sys2Proof.Machine.execRelayTimeout s
  | .ctlResponseRx p => Sys2Proof.Machine.execCtlResponseRx p s
  | .tileCtlRequest p => Sys2Proof.Machine.execTileCtlRequest p s
  | .notifySend d => Sys2Proof.Machine.execNotifySend d s
  | .ctlNotificationRx p => Sys2Proof.Machine.execCtlNotificationRx p s
  | .cvuEnable u => Sys2Proof.Machine.execCvuEnable u s
  | .cvuDisable u => Sys2Proof.Machine.execCvuDisable u s
  | .wck2dqMeasure c t => Sys2Proof.Machine.execWck2dqMeasure c t s
  | .memFreqChange rate => Sys2Proof.Machine.execMemFreqChange rate s
  | .rateChangeDone ok again bad => Sys2Proof.Machine.execRateChangeDone ok again bad s
  | .mr4Poll c fields => Sys2Proof.Machine.execMr4Poll c fields s
  | .selfRefreshEntry c => Sys2Proof.Machine.execSelfRefreshEntry c s
  | .selfRefreshExit c => Sys2Proof.Machine.execSelfRefreshExit c s
  | .kAdd e t => Sys2Proof.Machine.execKAdd e t s
  | .kAdds e t => Sys2Proof.Machine.execKAdds e t s
  | .kMul e t => Sys2Proof.Machine.execKMul e t s
  | .kMac e t => Sys2Proof.Machine.execKMac e t s
  | .kMin e t => Sys2Proof.Machine.execKMin e t s
  | .kMax e t => Sys2Proof.Machine.execKMax e t s
  | .kClmp e t => Sys2Proof.Machine.execKClmp e t s
  | .kShl e t => Sys2Proof.Machine.execKShl e t s
  | .kShr e t => Sys2Proof.Machine.execKShr e t s
  | .kCvt e t => Sys2Proof.Machine.execKCvt e t s
  | .kLd e t => Sys2Proof.Machine.execKLd e t s
  | .kSt e t => Sys2Proof.Machine.execKSt e t s
  | .kPull e t => Sys2Proof.Machine.execKPull e t s
  | .kPush e t => Sys2Proof.Machine.execKPush e t s
  | .kLut3 e t => Sys2Proof.Machine.execKLut3 e t s
  | .kSclvOpen e t => Sys2Proof.Machine.execKSclvOpen e t s
  | .kSclvRun e t => Sys2Proof.Machine.execKSclvRun e t s
  | .kSclvClose e t => Sys2Proof.Machine.execKSclvClose e t s
  | .kSclh e t => Sys2Proof.Machine.execKSclh e t s
  | .kBlnd e t => Sys2Proof.Machine.execKBlnd e t s
  | .kWaitf e t => Sys2Proof.Machine.execKWaitf e t s
  | .kSigf e t => Sys2Proof.Machine.execKSigf e t s
  | .kRelo e t => Sys2Proof.Machine.execKRelo e t s
  | .kBr e t => Sys2Proof.Machine.execKBr e t s
  | .kJmp e t => Sys2Proof.Machine.execKJmp e t s
  | .kYld e t => Sys2Proof.Machine.execKYld e t s
  | .kHalt e t => Sys2Proof.Machine.execKHalt e t s
  | .flumewaitRelease e t => Sys2Proof.Machine.execFlumewaitRelease e t s
  | .evwaitRelease e t => Sys2Proof.Machine.execEvwaitRelease e t s
  | .samplerReturn c lut => Sys2Proof.Machine.execSamplerReturn c lut s
  | .stopEngine e => Sys2Proof.Machine.execStopEngine e s
  | .engineStopDrained e => Sys2Proof.Machine.execEngineStopDrained e s
  | .resumeEngine e => Sys2Proof.Machine.execResumeEngine e s
  | .stepEngine e t => Sys2Proof.Machine.execStepEngine e t s
  | .clearSlot e t => Sys2Proof.Machine.execClearSlot e t s
  | .engGate e => Sys2Proof.Machine.execEngGate e s
  | .engUngate e => Sys2Proof.Machine.execEngUngate e s
  | .paceWindow c count => Sys2Proof.Machine.execPaceWindow c count s
  | .lutLoad c slot sub size => Sys2Proof.Machine.execLutLoad c slot sub size s
  | .lutLoadDone c => Sys2Proof.Machine.execLutLoadDone c s
  | .lutUnload c slot sub => Sys2Proof.Machine.execLutUnload c slot sub s
  | .lutMark c slot sub size => Sys2Proof.Machine.execLutMark c slot sub size s
  | .thrSpawn => Sys2Proof.Machine.execThrSpawn s
  | .thrKill t => Sys2Proof.Machine.execThrKill t s
  | .thrSignal t => Sys2Proof.Machine.execThrSignal t s
  | .thrSetprio t prio => Sys2Proof.Machine.execThrSetprio t prio s
  | .threadPlace => Sys2Proof.Machine.execThreadPlace s
  | .ctxalloc src => Sys2Proof.Machine.execCtxalloc src s
  | .ctxfree src => Sys2Proof.Machine.execCtxfree src s
  | .ctxDrainDone c => Sys2Proof.Machine.execCtxDrainDone c s
  | .setdepth src depth => Sys2Proof.Machine.execSetdepth src depth s
  | .flmPush src => Sys2Proof.Machine.execFlmPush src s
  | .gopen src win1 => Sys2Proof.Machine.execGopen src win1 s
  | .gclose src => Sys2Proof.Machine.execGclose src s
  | .gskip src => Sys2Proof.Machine.execGskip src s
  | .fetchTake c unc => Sys2Proof.Machine.execFetchTake c unc s
  | .fetchDone c => Sys2Proof.Machine.execFetchDone c s
  | .outTake u unc => Sys2Proof.Machine.execOutTake u unc s
  | .outComplete u => Sys2Proof.Machine.execOutComplete u s
  | .trcClear => Sys2Proof.Machine.execTrcClear s
  | .progLoad prog => Sys2Proof.Machine.execProgLoad prog s
  | .programLoadDone => Sys2Proof.Machine.execProgramLoadDone s
  | .progUnload prog => Sys2Proof.Machine.execProgUnload prog s
  | .armSet next => Sys2Proof.Machine.execArmSet next s
  | .disarm => Sys2Proof.Machine.execDisarm s
  | .tallyRx p u => Sys2Proof.Machine.execTallyRx p u s
  | .frameHeaderRx p r => Sys2Proof.Machine.execFrameHeaderRx p r s
  | .frameTx p fills => Sys2Proof.Machine.execFrameTx p fills s
  | .pixRx p => Sys2Proof.Machine.execPixRx p s
  | .pixHoldRelease p => Sys2Proof.Machine.execPixHoldRelease p s
  | .cmtRx p => Sys2Proof.Machine.execCmtRx p s
  | .ackRx p => Sys2Proof.Machine.execAckRx p s
  | .discoverRx p => Sys2Proof.Machine.execDiscoverRx p s
  | .reportRx p => Sys2Proof.Machine.execReportRx p s
  | .headNumWrite v => Sys2Proof.Machine.execHeadNumWrite v s
  | .skdEnum port all => Sys2Proof.Machine.execSkdEnum port all s
  | .enumDone => Sys2Proof.Machine.execEnumDone s
  | .wcIssue => Sys2Proof.Machine.execWcIssue s
  | .wcCancel => Sys2Proof.Machine.execWcCancel s
  | .wallcmdArmRx p => Sys2Proof.Machine.execWallcmdArmRx p s
  | .wallcmdAnswerRx p => Sys2Proof.Machine.execWallcmdAnswerRx p s
  | .wallcmdCommitRx p => Sys2Proof.Machine.execWallcmdCommitRx p s
  | .wallcmdAbortRx p => Sys2Proof.Machine.execWallcmdAbortRx p s
  | .wallcmdRepeat => Sys2Proof.Machine.execWallcmdRepeat s
  | .hreportDeadline => Sys2Proof.Machine.execHreportDeadline s
  | .armDeadline => Sys2Proof.Machine.execArmDeadline s
  | .wallcmdRevert => Sys2Proof.Machine.execWallcmdRevert s
  | .imgStart => Sys2Proof.Machine.execImgStart s
  | .imgStop => Sys2Proof.Machine.execImgStop s
  | .imgPieceSend => Sys2Proof.Machine.execImgPieceSend s
  | .imgPassEnd => Sys2Proof.Machine.execImgPassEnd s
  | .imgannRx p => Sys2Proof.Machine.execImgannRx p s
  | .imgRx p => Sys2Proof.Machine.execImgRx p s
  | .ldLaunch => Sys2Proof.Machine.execLdLaunch s
  | .rowStart vled vdrv vgate failA failB mv pins probes => Sys2Proof.Machine.execRowStart vled vdrv vgate failA failB mv pins probes s
  | .slotPadStart trims resid => Sys2Proof.Machine.execSlotPadStart trims resid s
  | .hvRecover => Sys2Proof.Machine.execHvRecover s
  | .armgeom => Sys2Proof.Machine.execArmgeom s
  | .armdrv => Sys2Proof.Machine.execArmdrv s
  | .lduDisarm => Sys2Proof.Machine.execLduDisarm s
  | .flipQueue => Sys2Proof.Machine.execFlipQueue s
  | .storeset n => Sys2Proof.Machine.execStoreset n s
  | .eraseset n => Sys2Proof.Machine.execEraseset n s
  | .storemap => Sys2Proof.Machine.execStoremap s
  | .lcrStoreDone => Sys2Proof.Machine.execLcrStoreDone s
  | .rescan ee => Sys2Proof.Machine.execRescan ee s
  | .sinkCal => Sys2Proof.Machine.execSinkCal s
  | .sinkCalDue => Sys2Proof.Machine.execSinkCalDue s
  | .lcrProbe => Sys2Proof.Machine.execLcrProbe s
  | .probeRepeat => Sys2Proof.Machine.execProbeRepeat s
  | .probestop => Sys2Proof.Machine.execProbestop s
  | .shorttest => Sys2Proof.Machine.execShorttest s
  | .shorttestDone pairs => Sys2Proof.Machine.execShorttestDone pairs s
  | .clrflt => Sys2Proof.Machine.execClrflt s
  | .ntcConvert temps => Sys2Proof.Machine.execNtcConvert temps s
  | .lbSensorRead temps => Sys2Proof.Machine.execLbSensorRead temps s
  | .lpeSample => Sys2Proof.Machine.execLpeSample s
  | .lpeOutputDeliver => Sys2Proof.Machine.execLpeOutputDeliver s
  | .hbtSend => Sys2Proof.Machine.execHbtSend s
  | .hbtRx p prim rev => Sys2Proof.Machine.execHbtRx p prim rev s
  | .hbtMiss => Sys2Proof.Machine.execHbtMiss s
  | .rdnStartWait => Sys2Proof.Machine.execRdnStartWait s
  | .digRx p => Sys2Proof.Machine.execDigRx p s
  | .compareDeadline => Sys2Proof.Machine.execCompareDeadline s
  | .votereqRx p => Sys2Proof.Machine.execVotereqRx p s
  | .recomputeDone => Sys2Proof.Machine.execRecomputeDone s
  | .verdictRx p => Sys2Proof.Machine.execVerdictRx p s
  | .voteTimeout => Sys2Proof.Machine.execVoteTimeout s
  | .swapRx p => Sys2Proof.Machine.execSwapRx p s
  | .rdnDrill dur => Sys2Proof.Machine.execRdnDrill dur s
  | .rdnClear => Sys2Proof.Machine.execRdnClear s
  | .rdnResync => Sys2Proof.Machine.execRdnResync s
  | .epochClose => Sys2Proof.Machine.execEpochClose s
  | .epochRx p => Sys2Proof.Machine.execEpochRx p s
  | .epreqRx p => Sys2Proof.Machine.execEpreqRx p s
  | .bootActivate => Sys2Proof.Machine.execBootActivate s
  | .bootRestart => Sys2Proof.Machine.execBootRestart s
  | .bootConfirm => Sys2Proof.Machine.execBootConfirm s
  | .bootRevert => Sys2Proof.Machine.execBootRevert s
  | .bootSave => Sys2Proof.Machine.execBootSave s
  | .bootStage running => Sys2Proof.Machine.execBootStage running s
  | .storebd => Sys2Proof.Machine.execStorebd s
  | .storecor => Sys2Proof.Machine.execStorecor s
  | .dlOpen => Sys2Proof.Machine.execDlOpen s
  | .dlPiece => Sys2Proof.Machine.execDlPiece s
  | .dlAbort => Sys2Proof.Machine.execDlAbort s
  | .recoveryInfo seq crc => Sys2Proof.Machine.execRecoveryInfo seq crc s
  | .recoveryBaud seq crc rate => Sys2Proof.Machine.execRecoveryBaud seq crc rate s
  | .recoveryWrite seq crc slot piece pcrc data ok => Sys2Proof.Machine.execRecoveryWrite seq crc slot piece pcrc data ok s
  | .recoveryCommit seq crc slot len => Sys2Proof.Machine.execRecoveryCommit seq crc slot len s
  | .recoveryErase seq crc mask => Sys2Proof.Machine.execRecoveryErase seq crc mask s
  | .recoveryWritebd seq crc offset data => Sys2Proof.Machine.execRecoveryWritebd seq crc offset data s
  | .recoveryBoot seq crc => Sys2Proof.Machine.execRecoveryBoot seq crc s
  | .powerCommand target => Sys2Proof.Machine.execPowerCommand target s
  | .powerStep f => Sys2Proof.Machine.execPowerStep f s
  | .supplyFault => Sys2Proof.Machine.execSupplyFault s
  | .supplyRecover head headnum bootsel dev => Sys2Proof.Machine.execSupplyRecover head headnum bootsel dev s
  | .vcmd mv => Sys2Proof.Machine.execVcmd mv s
  | .voltageStep meas ack => Sys2Proof.Machine.execVoltageStep meas ack s
  | .thmSample n t => Sys2Proof.Machine.execThmSample n t s
  | .stopFactorZero => Sys2Proof.Machine.execStopFactorZero s
  | .tripOffCheck => Sys2Proof.Machine.execTripOffCheck s
  | .housekeepingRound mv => Sys2Proof.Machine.execHousekeepingRound mv s
  | .porstNFall => Sys2Proof.Machine.execPorstNFall s
  | .referenceClockChange k ok => Sys2Proof.Machine.execReferenceClockChange k ok s
  | .sinkCalibrationRunEnd trims resid => Sys2Proof.Machine.execSinkCalibrationRunEnd trims resid s
  | .downloadPieceDone ok => Sys2Proof.Machine.execDownloadPieceDone ok s
  | .bootCommandDone => Sys2Proof.Machine.execBootCommandDone s

end Sys2Proof.Machine
end

