-- ==== Sys2Proof/Machine/Step.lean ====
section
/-! DEFINITION. The step: the command at the front of the queue is carried out with the rest of the queue; with
none, a tick of the idle unit passes (log entry 16). -/

namespace Sys2Proof.Machine

/-- The state with another queue. -/
def State.queue (s : State) (l : List Instr) : State := { s with pending := l }

/-- One step. -/
def step (s : State) : Host.Outcome State Fault Refusal :=
  match s.pending with
  | [] => settled s.tick
  | c :: l => exec c (s.queue l)

/-- The state with the command that a word spells at the front of its queue; no row of the table gives bits. -/
def State.withFetchWord (s : State) (nbits w : Nat) : State :=
  match decodeTableWord nbits w with
  | some c => s.queue (c :: s.pending)
  | none => s

end Sys2Proof.Machine
end

