-- ==== Sys2Proof/Safety.lean ====
section
/-! DEFINITION. What counts as a safe run, in the terms the statements use: memory in its one canonical form, and no
step that stops. -/

namespace Sys2Proof.Machine

/-- The invariant of the unit: memory is in its canonical form, each byte listed once, in rising order of address, and
none that an unlisted byte would read as anyway (R123, R128). -/
def State.Inv (s : State) : Prop := Memory.wf s.memc s.mem = true

/-- A step that answers a state: no fault and no refusal. -/
def Completes (o : Host.Outcome State Fault Refusal) : Prop := ∃ t, o = .next t

/-- The bytes of memory read the same in the two states (R123, R128). -/
def SameMemory (s t : State) : Prop := ∀ a, t.byte a = s.byte a

/-- The register words read the same in the two states, but for the addresses listed. -/
def SameRegisters (s t : State) (l : List Nat) : Prop := ∀ a, a ∉ l → t.rd a = s.rd a

/-- The state as a command register's operation finds it: the command word stands in its register with STAT 0, and the
write that carried it is answered OK (R10, R434). -/
def State.accepted (s : State) (a v : Nat) : State := (s.wr a (BitVec.ofNat 32 (v % 2 ^ 28))).answer rOK

/-- The command register that the host writes for a command of the table; none for the events, and for the rows that are
writes or reads of other registers. -/
def commandRegister : Instr → Option Nat
  | .servoAcquire | .servoSlew | .servoStep | .servoHold | .servoResume => some TMU_CMD
  | .lqCancel _ _ => some TMU_CMD
  | .lqInsert _ => some TMU_LQ_IN3
  | .laneRetrain l | .laneCal l | .laneIdle l | .laneWake l | .lanePrbsOn l | .lanePrbsOff l => some (LNK_LCMD l)
  | .flowOpen f | .flowClose f => some (ETH_FLOW_CMD f)
  | .stillFence k _ _ => some (ETH_STILL_FENCE k)
  | .monStart | .monStop | .monArm => some ETH_MON_CMD
  | .cvuEnable u | .cvuDisable u => some (CVU_CMD u)
  | .memFreqChange _ => some MEM_FREQ
  | .stopEngine e | .resumeEngine e | .stepEngine e _ | .clearSlot e _ | .engGate e | .engUngate e => some (ENG_CMD e)
  | .lutLoad c _ _ _ | .lutMark c _ _ _ | .lutUnload c _ _ => some (CMP_CREW_LUTCMD c)
  | .thrSpawn | .thrKill _ | .thrSignal _ | .thrSetprio _ _ => some TDP_CMD
  | .ctxalloc _ | .ctxfree _ | .setdepth _ _ | .flmPush _ | .gopen _ _ | .gclose _ | .gskip _ => some FLM_CMD
  | .trcClear => some TRC_CMD
  | .progLoad _ | .progUnload _ | .armSet _ | .disarm => some CMP_CMD
  | .skdEnum _ _ => some SKD_ENUM
  | .wcIssue | .wcCancel => some SKD_WC_CMD
  | .imgStart | .imgStop => some SKD_IMG_CMD
  | .armgeom | .armdrv | .lduDisarm => some LDU_CMD
  | .storeset _ | .eraseset _ | .storemap | .rescan _ | .sinkCal | .lcrProbe | .probestop | .shorttest | .clrflt =>
    some LCR_CMD
  | .plcVacate _ | .plcRestore _ | .plcReplace | .plcReclaim _ | .plcReturn _ => some CMP_PLC_CMD
  | .rdnDrill _ | .rdnClear | .rdnResync => some RDN_CMD
  | .bootActivate | .bootRestart | .bootConfirm | .bootRevert | .bootSave | .bootStage _ | .storebd | .storecor =>
    some BOOT_CMD
  | .dlOpen | .dlPiece | .dlAbort => some BOOT_DLCMD
  | .powerCommand _ => some PWR_CMD
  | .vcmd _ => some PWR_VCMD
  | .porstRise .. | .lampSideTest .. | .firmwareStart .. | .registerWrite .. | .timeNsRead | .ppsinNsRead | .trcRd0Read
  | .flmEdata0Read | .ptpAnnounceRx .. | .servoSample .. | .servoTimeout | .stepExecute | .lqFlip | .lqPhase | .lqGrid
  | .gridTakeEffect | .lqRamp | .lqLpemode | .lqCalset | .lqMclk | .lqPin | .lqMark | .pacingTick | .slotComplete
  | .slotAbandon | .commitDeadline | .sectionCommit | .wallrdySend | .wallDecide | .wallrdyRx _ | .walldecRx _
  | .offerRx .. | .offerreplyRx _ | .offerTimeout | .moveendRx _ | .timSyncSend | .timSyncRx _ | .timPdlyreqSend
  | .timPdlyreqRx _ | .timPdlyrspRx _ | .peerTimLost | .timSourceSwitch | .ppsOutPulse | .ppsInEdge | .portEnable ..
  | .receiverDetect _ | .detectRetry .. | .laneLock .. | .skewRestart _ | .capabilityExchange .. | .rateStep ..
  | .directBringupTimeout _ | .bringupFailTimeout _ | .laneLoss .. | .eiEntry .. | .fastExit .. | .exitBurstDetect _
  | .fastExitTimeout .. | .calDue _ | .calreqSend _ | .calreqRx .. | .calgrantRx _ | .calWindowStart _ | .calRunEnd ..
  | .calStarve _ | .ethPortBringup _ | .ethFrameRx .. | .frameCloseTimeout _ | .ethFrameTx _ | .monSof | .monPacket
  | .controlRequest .. | .relayTimeout | .ctlResponseRx _ | .tileCtlRequest _ | .notifySend _ | .ctlNotificationRx _
  | .wck2dqMeasure .. | .rateChangeDone .. | .mr4Poll .. | .selfRefreshEntry _ | .selfRefreshExit _ => none
  | .kAdd .. | .kAdds .. | .kMul .. | .kMac .. | .kMin .. | .kMax .. | .kClmp .. | .kShl .. | .kShr .. | .kCvt ..
  | .kLd .. | .kSt .. | .kPull .. | .kPush .. | .kLut3 .. | .kSclvOpen .. | .kSclvRun .. | .kSclvClose .. | .kSclh ..
  | .kBlnd .. | .kWaitf .. | .kSigf .. | .kRelo .. | .kBr .. | .kJmp .. | .kYld .. | .kHalt .. => none
  | .flumewaitRelease .. | .evwaitRelease .. | .samplerReturn .. | .engineStopDrained _ | .paceWindow .. | .lutLoadDone _
  | .threadPlace | .ctxDrainDone _ | .fetchTake .. | .fetchDone _ | .outTake .. | .outComplete _ | .programLoadDone
  | .tallyRx .. | .frameHeaderRx .. | .frameTx .. | .pixRx _ | .pixHoldRelease _ | .cmtRx _ | .ackRx _ | .discoverRx _
  | .reportRx _ | .headNumWrite _ | .enumDone | .wallcmdArmRx _ | .wallcmdAnswerRx _ | .wallcmdCommitRx _
  | .wallcmdAbortRx _ | .wallcmdRepeat | .hreportDeadline | .armDeadline | .wallcmdRevert | .imgPieceSend | .imgPassEnd
  | .imgannRx _ | .imgRx _ | .ldLaunch | .rowStart .. | .slotPadStart .. | .hvRecover | .flipQueue | .lcrStoreDone
  | .sinkCalDue | .probeRepeat | .shorttestDone _ | .ntcConvert _ | .lbSensorRead _ | .lpeSample | .lpeOutputDeliver
  | .hbtSend | .hbtRx .. | .hbtMiss | .rdnStartWait | .digRx _ | .compareDeadline | .votereqRx _ | .recomputeDone
  | .verdictRx _ | .voteTimeout | .swapRx _ | .epochClose | .epochRx _ | .epreqRx _ | .recoveryInfo .. | .recoveryBaud ..
  | .recoveryWrite .. | .recoveryCommit .. | .recoveryErase .. | .recoveryWritebd .. | .recoveryBoot .. | .powerStep _
  | .supplyFault | .supplyRecover .. | .voltageStep .. | .thmSample .. | .stopFactorZero | .tripOffCheck
  | .housekeepingRound _ | .porstNFall | .referenceClockChange .. | .sinkCalibrationRunEnd .. | .downloadPieceDone _
  | .bootCommandDone => none

/-! ### Kerf instructions -/

/-- Slot `t` of engine `e` issues next, and its next instruction is the legal `i` (R145, R173, R178, R200). -/
structure State.Issues (s : State) (e t : Nat) (i : KIns) : Prop where
  engine : s.engIssues e = true
  slot : s.pick e = some t
  alive : (s.slot e t).killed = false
  inside : (s.slot e t).pc + 8 ≤ s.codeBytes e
  word : kdecode (s.kword e (s.slot e t).pc) = i
  legal : kLegal i = true

/-- What is left of a slot's wait for others once slot `t` of its engine has issued (R201). -/
def Slot.unyielded (x : Slot) (t : Nat) : Slot := { x with yld := x.yld.filter fun v => v ≠ t }

/-- What the completed issue of an instruction that goes on at the next one leaves: the slot holds `y` with its program
counter 8 further, the other slots are as they were, and no register but the counter of issues and those of `l` has changed
(R145, R148, R173). -/
structure SlotResult (s r : State) (e t : Nat) (y : Slot) (l : List Nat) : Prop where
  slot : r.slot e t = { y with pc := (s.slot e t).pc + 8 }
  others : ∀ f u, u < 8 → f ≠ e ∨ u ≠ t →
    r.slot f u = if f = e then (s.slot f u).unyielded t else s.slot f u
  registers : SameRegisters s r (ENG_ISSUED e :: (ENG_ISSUED e + 4) :: l)

/-- The row `c` computes, on every lane the guard enables, `f` of the slot, for its vector opcode and the forms `ok`; the
other lanes and registers and all of memory stand, and SAT is set when an enabled lane saturates (R169, R174, R176). -/
def VectorForm (c : Nat → Nat → Instr) (op : Nat) (ok : KIns → Prop) (f : KIns → Slot → Nat → SatWord) : Prop :=
  ∀ (s : State) (e t : Nat) (i : KIns), s.Issues e t i → i.op = op → ok i →
    ∃ r y, exec (c e t) s = .next r ∧ SlotResult s r e t y [ENG_SATCNT e, ENG_SATCNT e + 4] ∧ SameMemory s r ∧
      (∀ l, l < 16 → y.vreg i.d l =
        if laneOn (i.mask (s.slot e t)) l then (f i (s.slot e t) l).1 else (s.slot e t).vreg i.d l) ∧
      (∀ n l, l < 16 → n ≠ i.d → y.vreg n l = (s.slot e t).vreg n l) ∧
      y.sat = ((s.slot e t).sat ||
        (List.range 16).any fun l => laneOn (i.mask (s.slot e t)) l && (f i (s.slot e t) l).2) ∧
      y = { (s.slot e t).unyielded t with v := y.v, sat := y.sat }

/-- The row `c` computes `f` of the state and the slot into sD, for its scalar opcode and the forms `ok`, once if the guard is not zero on
every lane and not at all if it is; memory stands (R169, R174, R176). -/
def ScalarForm (c : Nat → Nat → Instr) (op : Nat) (ok : KIns → Prop)
    (f : State → Nat → Nat → KIns → Slot → SatWord) : Prop :=
  ∀ (s : State) (e t : Nat) (i : KIns), s.Issues e t i → i.op = op → ok i →
    ∃ r y, exec (c e t) s = .next r ∧ SlotResult s r e t y [ENG_SATCNT e, ENG_SATCNT e + 4] ∧ SameMemory s r ∧
      (i.mask (s.slot e t) = 0 → y = (s.slot e t).unyielded t) ∧
      (i.mask (s.slot e t) ≠ 0 →
        y.sreg i.d = (f s e t i (s.slot e t)).1 ∧ (∀ n, n ≠ i.d → y.sreg n = (s.slot e t).sreg n) ∧
        y.sat = ((s.slot e t).sat || (f s e t i (s.slot e t)).2) ∧
        y = { (s.slot e t).unyielded t with s := y.s, sat := y.sat })

/-- `r` with the program counter of slot (e, t) 8 past that of `s` (R173). -/
def State.past (s r : State) (e t : Nat) : State := r.setSlot e t { r.slot e t with pc := (s.slot e t).pc + 8 }

/-- `r` with slot (e, t) waiting in `st` for `b` (R148). -/
def State.waits (r : State) (e t : Nat) (st : SlotSt) (b : Blocked) : State :=
  r.setSlot e t { r.slot e t with st := st, blk := some b }

end Sys2Proof.Machine
end

