-- ==== Sys2Proof/WellFormed.lean ====
section
/-! DEFINITION. Well-formed commands: the operands lie in the ranges that the spec gives the things they name. A command
that is not well formed names no port, lane, engine, crew, context or record of the unit; exec answers it all the same,
and leaves the state. -/

namespace Sys2Proof

/-- A Skidline port, 0-15 (R283). -/
def skdPortOk (p : Nat) : Bool := decide (p < 16)

/-- An Ethernet port, 0-3 (R117). -/
def ethPortOk (q : Nat) : Bool := decide (q < 4)

/-- A serial lane, 4 × quad + lane of the quad (R62). -/
def laneOk (l : Nat) : Bool := decide (l < 32)

/-- A link of the serial lanes: Skidline port 0-15, or 16 + Ethernet port. -/
def linkOk (k : Nat) : Bool := decide (k < 20)

/-- A pixel engine and one of its thread slots (R142). -/
def slotOk (e t : Nat) : Bool := decide (e < 64 ∧ t < 8)

/-- A crew of pixel engines (R142). -/
def crewOk (c : Nat) : Bool := decide (c < 8)

/-- A crew's lattice as CMP_CREW_LUTCMD names it: SLOT of 2 bits, SUB of 3, SIZE of 1 (R171). -/
def latticeOk (c slot sub size : Nat) : Bool := crewOk c && decide (slot < 4 ∧ sub < 8 ∧ size < 2)

/-- A DRAM channel (R118). -/
def channelOk (c : Nat) : Bool := decide (c < 16)

/-- An output consumer: Skidline port 0-15, then own correction, scan-out, digests and the monitor (R215, R221, R410). -/
def consumerOk (u : Nat) : Bool := decide (u < 20)

/-- The straps as PORST_RISE latches them: HEADNUM of 6 bits, BOOTSEL of 2 (R1, R453). -/
def strapsOk (headnum bootsel : Nat) : Bool := decide (headnum < 64 ∧ bootsel < 4)

/-- Operands in range. -/
def Instr.wf : Instr → Bool
  | .porstRise _ h b _ | .supplyRecover _ h b _ => strapsOk h b
  | .lampSideTest vdrv vgate => decide (vdrv < 65536 ∧ vgate < 65536)
  | .registerWrite addr _ => decide (addr < 2 ^ 48)
  | .ptpAnnounceRx port _ _ _ => ethPortOk port
  | .lqCancel q slot => decide (q < 4 ∧ slot < 256)
  | .flumewaitRelease e t | .evwaitRelease e t | .stepEngine e t | .clearSlot e t => slotOk e t
  | .stopEngine e | .engineStopDrained e | .resumeEngine e | .engGate e | .engUngate e => slotOk e 0
  | .kAdd e t | .kAdds e t | .kMul e t | .kMac e t | .kMin e t | .kMax e t | .kClmp e t | .kShl e t | .kShr e t
  | .kCvt e t | .kLd e t | .kSt e t | .kPull e t | .kPush e t | .kLut3 e t | .kSclvOpen e t | .kSclvRun e t
  | .kSclvClose e t | .kSclh e t | .kBlnd e t | .kWaitf e t | .kSigf e t | .kRelo e t | .kBr e t | .kJmp e t
  | .kYld e t | .kHalt e t => slotOk e t
  | .samplerReturn c _ | .lutLoadDone c | .fetchTake c _ | .fetchDone c => crewOk c
  | .paceWindow c count => crewOk c && decide (count < 65536)
  | .lutLoad c slot sub size | .lutMark c slot sub size => latticeOk c slot sub size
  | .lutUnload c slot sub => latticeOk c slot sub 0
  | .thrKill t | .thrSignal t => decide (t < 1024)
  | .thrSetprio t prio => decide (t < 1024 ∧ prio < 32)
  | .ctxDrainDone c => decide (c < 16384)
  | .setdepth _ depth => decide (depth < 32)
  | .gopen _ win1 => decide (win1 < 256)
  | .outTake u _ | .outComplete u => consumerOk u
  | .wck2dqMeasure c t => channelOk c && decide (t < 65536)
  | .memFreqChange rate => decide (rate < 2)
  | .mr4Poll c l => channelOk c && l.all (fun n => decide (n < 32))
  | .selfRefreshEntry c | .selfRefreshExit c => channelOk c
  | .rateChangeDone _ _ bad => decide (bad < 65536)
  | .tallyRx p u => skdPortOk p && decide (u.length = 32)
  | .frameHeaderRx p _ | .frameTx p _ | .pixRx p | .pixHoldRelease p | .cmtRx p | .ackRx p | .discoverRx p
  | .reportRx p | .timSyncRx p | .timPdlyreqRx p | .timPdlyrspRx p | .wallrdyRx p | .walldecRx p | .offerRx p _ _
  | .offerreplyRx p | .moveendRx p | .hbtRx p _ _ | .digRx p | .votereqRx p | .verdictRx p | .swapRx p | .epochRx p
  | .epreqRx p | .imgRx p | .imgannRx p | .wallcmdArmRx p | .wallcmdAnswerRx p | .wallcmdCommitRx p
  | .wallcmdAbortRx p | .ctlResponseRx p | .ctlNotificationRx p => skdPortOk p
  | .tileCtlRequest p => skdPortOk (p.getD 0)
  | .skdEnum port _ => skdPortOk port
  | .portEnable p _ | .receiverDetect p | .detectRetry p _ | .laneLock p _ _ | .skewRestart p
  | .capabilityExchange p _ _ | .rateStep p _ _ _ | .directBringupTimeout p | .bringupFailTimeout p | .eiEntry p _
  | .fastExit p _ | .exitBurstDetect p | .fastExitTimeout p _ | .calreqSend p | .calreqRx p _ | .calgrantRx p
  | .calWindowStart p | .calStarve p => skdPortOk p
  | .laneLoss l _ | .laneRetrain l | .laneCal l | .laneIdle l | .laneWake l | .lanePrbsOn l | .lanePrbsOff l => laneOk l
  | .calDue k | .calRunEnd k _ => linkOk k
  | .referenceClockChange k _ => decide (k < 4)
  | .ethPortBringup q | .ethFrameTx q => ethPortOk q
  | .ethFrameRx p _ _ _ _ _ => ethPortOk p
  | .controlRequest p _ _ udp _ => ethPortOk p && decide (udp < 65536)
  | .frameCloseTimeout f | .flowOpen f | .flowClose f => decide (f < 16)
  | .stillFence k buf _ => decide (k < 64 ∧ buf < 4)
  | .notifySend d => decide (d < 2)
  | .cvuEnable u | .cvuDisable u => decide (u < 4)
  | .progLoad prog | .progUnload prog => decide (prog < 32)
  | .plcVacate engine | .plcRestore engine => decide (engine < 64)
  | .plcReclaim entry | .plcReturn entry => decide (entry < 1024)
  | .rdnDrill dur => decide (dur < 4096)
  | .storeset n | .eraseset n => decide (n < 8)
  | .rescan ee => decide (ee.length = 256)
  | .firmwareStart ee _ => decide (ee.length = 256)
  | .recoveryWrite _ _ slot piece _ _ _ => decide (slot < 256 ∧ piece < 65536)
  | .recoveryCommit _ _ slot len => decide (slot < 256 ∧ len < 2 ^ 32)
  | .recoveryErase _ _ mask => decide (mask < 256)
  | .powerCommand target => decide (target < 8)
  | .vcmd mv => decide (mv < 1024)
  | .thmSample n _ => decide (n < 26)
  | .housekeepingRound mv => decide (mv.length = 10)
  | .recoveryBaud _ _ _ | .recoveryInfo _ _ | .recoveryBoot _ _ | .recoveryWritebd _ _ _ _ => true
  | .sinkCalibrationRunEnd l _ | .slotPadStart l _ => decide (l.length ≤ 48)
  | .shorttestDone _ | .ntcConvert _ | .lbSensorRead _ | .rowStart .. | .voltageStep _ _ | .downloadPieceDone _
  | .bootStage _ | .headNumWrite _ | .powerStep _ | .armSet _ | .lqInsert _ => true
  | .servoSample .. | .timeNsRead | .ppsinNsRead | .trcRd0Read | .flmEdata0Read | .servoTimeout | .servoAcquire
  | .servoSlew | .servoStep | .servoHold | .servoResume | .stepExecute | .lqFlip | .lqPhase | .lqGrid | .gridTakeEffect
  | .lqRamp | .lqLpemode | .lqCalset | .lqMclk | .lqPin | .lqMark | .pacingTick | .slotComplete | .slotAbandon
  | .commitDeadline | .sectionCommit | .wallrdySend | .wallDecide | .offerTimeout | .plcReplace | .timSyncSend
  | .timPdlyreqSend | .peerTimLost | .timSourceSwitch | .ppsOutPulse | .ppsInEdge | .monStart | .monStop | .monArm
  | .monSof | .monPacket | .relayTimeout | .thrSpawn | .threadPlace | .ctxalloc _ | .ctxfree _ | .flmPush _ | .gclose _
  | .gskip _ | .trcClear | .programLoadDone | .disarm | .enumDone | .wcIssue | .wcCancel | .wallcmdRepeat
  | .hreportDeadline | .armDeadline | .wallcmdRevert | .imgStart | .imgStop | .imgPieceSend | .imgPassEnd | .ldLaunch
  | .hvRecover | .armgeom | .armdrv | .lduDisarm | .flipQueue | .storemap | .lcrStoreDone | .sinkCal | .sinkCalDue
  | .lcrProbe | .probeRepeat | .probestop | .shorttest | .clrflt | .lpeSample | .lpeOutputDeliver | .hbtSend | .hbtMiss
  | .rdnStartWait | .compareDeadline | .recomputeDone | .voteTimeout | .rdnClear | .rdnResync | .epochClose
  | .bootActivate | .bootRestart | .bootConfirm | .bootRevert | .bootSave | .storebd | .storecor | .dlOpen | .dlPiece
  | .dlAbort | .supplyFault | .stopFactorZero | .tripOffCheck | .porstNFall | .bootCommandDone => true

end Sys2Proof
end

