-- ==== Sys2Proof/Certificates/Slice0/Obligations.lean ====
section
/-! DEFINITION. The statements for the provers: what the commands, events and instructions of the table do to the unit's
state, family by family, after the chapters of spec/. `OBLIGATIONS.json` gives each its tier and its basis. -/

open Sys2Proof Sys2Proof.Machine

/-! ### The block as a whole -/

/-- A step carries out the command at the front of the queue, on the state with the rest of the queue. -/
def Obligations.StepRunsTheFrontCommand : Prop :=
  ∀ (c : Instr) (l : List Instr) (s : State), s.pending = c :: l → step s = exec c (s.queue l)

/-- With nothing waiting, a step is one nanosecond of the idle unit: while its start runs or firmware runs, local time and
wall time advance, wall time by 1 ns and what the servo's correction adds (R27, R34; that an idle step is a nanosecond is
the model's choice, log entry 16). -/
def Obligations.IdleStepAdvancesTime : Prop :=
  ∀ s : State, s.pending = [] → s.phase ≠ .held → ∃ t, step s = .next t ∧ t.now = s.now + 1 ∧
    t.tm.wall = (((s.tm.wall : Int) + 2 ^ 32 + (s.tm.acc + s.tm.f) / 10 ^ 9) % (wMod : Int)).toNat ∧
    t.regs = s.regs ∧ SameMemory s t ∧ t.pending = []

/-- No step stops the unit, and memory is in its canonical form after every step, whatever the state: each byte listed
once, in rising order, none that an unlisted address reads as. -/
def Obligations.EveryStepKeepsMemoryCanonical : Prop :=
  ∀ s : State, s.Inv → ∃ t, step s = .next t ∧ t.Inv

/-- Memory at reset is in its canonical form and lists nothing. -/
def Obligations.ResetMemoryIsCanonical : Prop := State.reset.Inv ∧ State.reset.mem = []

/-- A write to a command register whose STAT is BUSY or DEFERRED is refused with BUSY, and changes nothing else: the
command in progress continues, and the register reads it back (R11). Of every command of the table that the host gives by
such a register, in a unit whose firmware runs and where the register has power. -/
def Obligations.BusyCommandIsRefused : Prop :=
  ∀ (c : Instr) (a : Nat) (s : State), commandRegister c = some a → c.wf = true → s.running = true →
    s.unpowered a = false → (∀ q, q < 8 → s.bit (LNK_QSTAT_UNPWR q) = false) → s.busy a = true →
    exec c s = .next (s.answer rBUSY).settle

/-- Before firmware runs, and in OFF, nothing serves the host: its commands and writes leave the state (R465, R486;
derived: the spec names no effect there). -/
def Obligations.CommandsNeedRunningFirmware : Prop :=
  ∀ (c : Instr) (s : State), s.running = false → (commandRegister c ≠ none ∨ c = .timeNsRead ∨ c = .ppsinNsRead ∨
    c = .trcRd0Read ∨ c = .flmEdata0Read ∨ (∃ a v, c = .registerWrite a v) ∨ ∃ v, c = .headNumWrite v) →
    exec c s = .next s.settle

/-- Registers after reset that the spec gives a value: the part code of GLB_ID, the mask of the notifications, the grid and
the servo's state of R60, no command since reset in the command registers (R10, R35, R60, R451); wall time 0 and an empty queue.
That the reset state of the model has power state HALT is the model's choice (log entry 49). -/
def Obligations.ResetLeavesTheStatedValues : Prop :=
  (State.reset.rd GLB_ID).toNat % 65536 = 0x7264 ∧ State.reset.rd GLB_NMASK = 0x7FFE ∧
  State.reset.servo = svFREE ∧ State.reset.stat TMU_CMD = stIDLE ∧ State.reset.stat PWR_CMD = stIDLE ∧
  State.reset.get TMU_RATE_NUM = 60000 ∧ State.reset.get TMU_RATE_DEN_DEN = 1000 ∧ State.reset.get TMU_SLOTS_SLOTS = 1 ∧
  State.reset.power = psHALT ∧ State.reset.pending = [] ∧ State.reset.tm.wall = 0 ∧ State.reset.get TMU_LQ_INS_STATE = 0

/-! ### Writes of registers -/

/-- R429 and R435 on a write of one word: an address that is no multiple of 4 answers ALIGN; one where nothing is mapped, or
inside a block's range that holds no register, NOADDR; one of a block without power in the role, UNPWR; and a register with
nothing to write, ACCESS (a 1 to the OV bit of a counter of a context record is something to write, R229). Nothing else changes. -/
def Obligations.WriteRefusalsChangeNothing : Prop :=
  ∀ (s : State) (a : Nat) (v : Word), s.running = true → a < 2 ^ 48 →
    (a % 4 ≠ 0 → exec (.registerWrite a v) s = .next (s.answer rALIGN).settle) ∧
    (a % 4 = 0 → 0x03000000 ≤ a → (a < 0x1000000000 ∨ 0x2000000000 ≤ a) →
      exec (.registerWrite a v) s = .next (s.answer rNOADDR).settle) ∧
    (a % 4 = 0 → a < 0x01000000 → rowAt a = none → exec (.registerWrite a v) s = .next (s.answer rNOADDR).settle) ∧
    (∀ r, a % 4 = 0 → a < 0x01000000 → rowAt a = some r → s.unpowered a = true →
      exec (.registerWrite a v) s = .next (s.answer rUNPWR).settle) ∧
    (∀ r, a % 4 = 0 → a < 0x01000000 → rowAt a = some r → s.unpowered a = false → r.kind = .ro → (a < 0x140000 ∨ 0x180000 ≤ a) →
      (ctxOvWord a = false ∨ v.toNat.testBit 31 = false) →
      exec (.registerWrite a v) s = .next (s.answer rACCESS).settle)

/-- R6, R9, R123, R428: a write of a plain register sets its RW bits, clears the W1C and ST bits written 1, and leaves the
others; of every register of the control, power and clock blocks, the dispatcher, the flume manager and the trace unit whose row
is neither a command register nor a counter, with a value inside the ranges the chapters state. A word written to DRAM that is
up and in range in READY or SHOW is stored little-endian, and no other byte changes. A 1 written to the OV bit of a counter of a
context record clears both words of that counter and no other register (R61, R229). All answer OK. -/
def Obligations.RegisterAndDramWritesTakeEffect : Prop :=
  (∀ (s : State) (a : Nat) (v : Word) (r : RegRow), s.running = true → a % 4 = 0 →
    (a < 0x20000 ∨ (0x180000 ≤ a ∧ a < 0x300000) ∨ (0x500000 ≤ a ∧ a < 0x01000000)) →
    rowAt a = some r → r.kind = .rw → s.unpowered a = false → rangeBad s.head a v = false →
    ∃ t, exec (.registerWrite a v) s = .next t ∧ t.resp = rOK ∧
      t.rd a = (((s.rd a &&& ~~~ BitVec.ofNat 32 r.rw) ||| (v &&& BitVec.ofNat 32 r.rw)) &&&
        ~~~ (v &&& BitVec.ofNat 32 r.w1)) ∧
      SameRegisters s t [a] ∧ SameMemory s t ∧ t = { s with regs := t.regs, mem := t.mem, resp := t.resp }) ∧
  (∀ (s : State) (o : Nat) (v : Word), s.ready = true → o % 4 = 0 → s.dramUp = true → o < s.dramBytes →
    s.dramBytes ≤ 0x1000000000 →
    ∃ t, exec (.registerWrite (0x1000000000 + o) v) s = .next t ∧ t.resp = rOK ∧
      (∀ k < 4, t.byte (0x1000000000 + o + k) = BitVec.ofNat 8 (v.toNat / 256 ^ k)) ∧
      (∀ x, x < 0x1000000000 + o ∨ 0x1000000000 + o + 4 ≤ x → t.byte x = s.byte x)) ∧
  ∀ (s : State) (a : Nat) (v : Word), s.running = true → s.unpowered a = false → a % 4 = 0 → 0x200000 ≤ a → a < 0x300000 →
    (a / 4 % 16 = 6 ∨ a / 4 % 16 = 8) → v.toNat.testBit 31 = true →
    ∃ t, exec (.registerWrite a v) s = .next t ∧ t.resp = rOK ∧ t.rd a = 0 ∧ t.rd (a - 4) = 0 ∧
      SameRegisters s t [a - 4, a] ∧ SameMemory s t

/-! ### Time, servo and launch queue -/

/-- Reads that latch (R28, R234, R236, R542) and an accepted PPS_IN edge: what each register then reads, and that nothing
else of the unit changes. -/
def Obligations.LatchingReadsTakeOneInstant : Prop :=
  ∀ s : State, s.running = true →
    (∃ t, exec .timeNsRead s = .next t ∧ (t.rd TMU_TIME_NS).toNat = wallNs s.tm.wall ∧
      (t.rd TMU_TIME_SL).toNat = wallSec s.tm.wall % 2 ^ 32 ∧ (t.rd TMU_TIME_SH).toNat = wallSec s.tm.wall / 2 ^ 32 ∧
      SameRegisters s t [TMU_TIME_NS, TMU_TIME_SL, TMU_TIME_SH] ∧ SameMemory s t ∧
      t = { s with regs := t.regs, mem := t.mem }) ∧
    (∃ t, exec .ppsinNsRead s = .next t ∧ (t.rd TMU_PPSIN_SL).toNat = s.tm.ppsSec % 2 ^ 32 ∧
      SameRegisters s t [TMU_PPSIN_SL] ∧ SameMemory s t ∧ t = { s with regs := t.regs, mem := t.mem }) ∧
    (∃ t, exec .trcRd0Read s = .next t ∧
      (∀ k < 4, t.rd (TRC_RD k) = mget 0 s.eng.trc (4 * s.get TRC_RSEL_ENTRY + k)) ∧
      SameRegisters s t [TRC_RD 0, TRC_RD 1, TRC_RD 2, TRC_RD 3] ∧ SameMemory s t ∧
      t = { s with regs := t.regs, mem := t.mem }) ∧
    (∀ e l, (s.flume (s.get FLM_FSEL_FLUME)).vis = e :: l → s.get FLM_ESEL_POS = 0 →
      ∃ t, exec .flmEdata0Read s = .next t ∧ t.rd (FLM_EDATA 0) = e.w0 ∧ t.rd (FLM_EDATA 1) = e.w1 ∧
        t.rd (FLM_EDATA 2) = e.w2 ∧ t.rd (FLM_EDATA 3) = e.w3 ∧ t.get FLM_ETAG_VALID = 1 ∧ t.get FLM_ETAG_HELD = 0 ∧
        SameRegisters s t [FLM_EDATA 0, FLM_EDATA 1, FLM_EDATA 2, FLM_EDATA 3, FLM_ETAG] ∧ SameMemory s t ∧
        t = { s with regs := t.regs, mem := t.mem }) ∧
    ((s.tm.ppsLast = 0 ∨ s.tm.ppsLast + 999 ≤ s.now) →
      ∃ t, exec .ppsInEdge s = .next t ∧ (t.rd TMU_PPSIN_NS).toNat = wallNs s.tm.wall ∧ t.tm.ppsSec = wallSec s.tm.wall ∧
        SameRegisters s t [TMU_PPSIN_NS] ∧ SameMemory s t ∧
        t = { s with regs := t.regs, mem := t.mem, tm := { s.tm with ppsLast := s.now + 1, ppsSec := wallSec s.tm.wall } }) ∧
    ((s.tm.ppsLast ≠ 0 ∧ s.now < s.tm.ppsLast + 999) → exec .ppsInEdge s = .next s.settle)

/-- R37: TMU_CMD ACQUIRE returns the servo to ACQUIRE. It is refused while the unit is in power state SHOW: then the command
word and REFUSED stand in TMU_CMD, and nothing else changes. -/
def Obligations.AcquireReturnsTheServoUnlessShow : Prop :=
  ∀ s : State, s.running = true → s.busy TMU_CMD = false →
    (s.power ≠ psSHOW → ∀ t, t = ((s.accepted TMU_CMD 1).servoOp fun x => ((x.setAll [(TMU_SRV_STAT_HELD, 0),
        (TMU_SRV_STAT_SLEWING, 0)]).stepDrop.tmSet fun k => { k with
          acqFirst := true, lockCnt := 0, slewPeer := false }).enter svACQUIRE).setStat TMU_CMD stDONE →
      exec .servoAcquire s = .next t.settle ∧ t.servo = svACQUIRE ∧ t.stat TMU_CMD = stDONE ∧ t.resp = rOK ∧
        SameMemory s t) ∧
    (s.power = psSHOW → exec .servoAcquire s = .next ((s.accepted TMU_CMD 1).setStat TMU_CMD stREFUSED).settle)

/-- The other servo commands of R35, R40 and R41 where they are accepted: SLEW in REJECT with a slew limit, STEP in REJECT
(the step of minus the last sample waits for the first base-frame boundary at least 20 ms ahead), HOLD in LOCKED, HOLDOVER
and REJECT, RESUME in HOLDOVER with HELD set. A state that becomes new, or a flag that becomes set, is notified (R441). -/
def Obligations.ServoCommandsAct : Prop :=
  ∀ s : State, s.running = true → s.busy TMU_CMD = false →
    (s.servo = svREJECT → s.remedy = false → s.get TMU_SRV_CFG_SLEW ≠ 0 →
      exec .servoSlew s = .next ((((s.accepted TMU_CMD 2).servoOp fun s =>
        (s.set TMU_SRV_STAT_SLEWING 1).tmSet fun t => { t with lockCnt := 0 }).setStat TMU_CMD stDONE).settle)) ∧
    (s.servo = svREJECT → s.remedy = false →
      exec .servoStep s = .next ((((s.accepted TMU_CMD 3).servoOp fun x =>
        (x.tmSet fun t => { t with step := some (-s.tm.e, frameAfter s.grid s.tm.wall), stepAnn := false }).set
          TMU_SRV_STAT_STEPPEND 1).setStat TMU_CMD stDONE).settle)) ∧
    (s.gridRuns = true →
      exec .servoHold s = .next ((((s.accepted TMU_CMD 5).servoOp fun s =>
        ((s.set TMU_SRV_STAT_SLEWING 0).stepDrop.set TMU_SRV_STAT_HELD 1).enter svHOLDOVER).setStat TMU_CMD stDONE).settle)) ∧
    (s.servo = svHOLDOVER → s.bit TMU_SRV_STAT_HELD = true →
      exec .servoResume s = .next ((((s.accepted TMU_CMD 6).servoOp fun s =>
        s.set TMU_SRV_STAT_HELD 0).setStat TMU_CMD stDONE).settle)) ∧
    (s.servo ≠ svREJECT → exec .servoSlew s = .next ((s.accepted TMU_CMD 2).setStat TMU_CMD stREFUSED).settle ∧
      exec .servoStep s = .next ((s.accepted TMU_CMD 3).setStat TMU_CMD stREFUSED).settle) ∧
    (s.gridRuns = false → exec .servoHold s = .next ((s.accepted TMU_CMD 5).setStat TMU_CMD stREFUSED).settle)

/-- R34 in LOCKED: a Sync exchange of the selected port gives e, the PI servo adds KI e to its integrator and sets the
correction to minus the sum of KP e and the integrator, while that lies within the limit of R34; no flag changes, so
nothing is notified. -/
def Obligations.SampleInLockedFeedsTheServo : Prop :=
  ∀ (s : State) (t1 t2 t3 t4 cs cd : Int) (e i u : Int), s.head = true → s.samples = true → s.tm.sel.isSome = true →
    s.get TMU_SRV_STAT_SRC = srcPTP → s.servo = svLOCKED → s.tm.skip = 0 → s.bit TMU_SRV_STAT_HELD = false →
    s.tm.slewPeer = false →
    e = (t2 - t1 - cs) * 2 ^ 16 -
      meanDelay ((((t2 - t1 - cs) + (t4 - t3 - cd)) :: s.tm.dRaw).take (2 ^ min 6 (s.get TMU_PTP_CFG_DLYAVG))) -
      toInt 32 (s.rd (TMU_TSCOR (s.get TMU_SRV_STAT_PORT))).toNat * 2 ^ 28 →
    e.natAbs ≤ s.get TMU_SRV_CFG_JTHR * wNs →
    i = s.tm.i + roundDiv ((s.rd TMU_SRV_KI).toNat * e) (2 ^ 24) →
    u = -(roundDiv ((s.rd TMU_SRV_KP).toNat * e) (2 ^ 24) + i) → u.natAbs ≤ fMax →
    ∃ t, exec (.servoSample t1 t2 t3 t4 cs cd) s = .next t ∧ t.tm.e = e ∧ t.tm.i = i ∧ t.tm.f = u ∧ t.tm.refCnt = 0 ∧
      t.tm.lastSample = s.now ∧ t.tm.wall = s.tm.wall ∧ t.servo = svLOCKED ∧
      SameRegisters s t [TMU_SRV_OFS, TMU_SRV_FREQ] ∧ SameMemory s t

/-- Events of the time unit: an Announce is kept and the best master selected (R30); a source that falls silent in LOCKED
leads to HOLDOVER (R35); the effective time of a step changes wall time by it (R41); a head whose peer falls silent returns
to PTP (R44); a tile whose upstream falls silent takes its time from downstream (R324); PPS_OUT rises at a whole second
(R58). -/
def Obligations.TimeEventsAct : Prop :=
  ∀ s : State,
    (∀ port gm rank log, s.head = true → s.samples = true → port < 4 → (s.get TMU_PTP_CFG_PORTS).testBit port = true →
      -3 ≤ log → log ≤ 1 → exec (.ptpAnnounceRx port gm rank log) s = .next ((s.servoOp fun s =>
        (s.tmSet fun t => { t with masters := ⟨port, gm, rank, log, s.now⟩ ::
          (t.masters.filter fun c => c.gm ≠ gm || c.port ≠ port) }).selectMaster).settle)) ∧
    (s.samples = true → s.servo = svLOCKED → s.tm.lastSample + s.sourceTimeout ≤ s.now →
      exec .servoTimeout s = .next ((s.servoOp fun s => s.enter svHOLDOVER).settle)) ∧
    (∀ d w, s.tm.step = some (d, w) → s.running = true → w ≤ s.tm.wall →
      let r := s.servoOp fun x =>
        let y := (x.shiftWall d).stepDrop.set TMU_SRV_STAT_STEPPED 1
        if y.servo = svREJECT then y.enter svLOCKED else y
      let q := (r.retarget (nextSlot r.grid r.tm.wall)).paceFrom r.tm.wall
      s.tm.stepAnn = false → exec .stepExecute s = .next (q.lqSweep q.lqPending.length).settle) ∧
    (s.head = true → s.samples = true → s.get TMU_SRV_STAT_SRC = srcPEER →
      s.tm.lastPeer + 4 * beaconNs s.tm.peerPer ≤ s.now →
      exec .peerTimLost s = .next ((s.servoOp fun s => (s.set TMU_SRV_STAT_PEERLOST 1).changeSource srcPTP).settle)) ∧
    (s.samples = true → s.head = false → s.bit SKD_TILE_STAT_TIMEDN = false →
      s.tm.upAt + 4 * beaconNs s.tm.peerPer ≤ s.now → 0 < s.tm.dnAt → s.now < s.tm.dnAt + 4 * beaconNs s.tm.peerPer →
      exec .timSourceSwitch s =
        .next (((s.set SKD_TILE_STAT_TIMEDN 1).tmSet fun t => { t with ldly := [] }).settle)) ∧
    (s.running = true → s.bit TMU_PPS_EN = true → s.gridRuns = true → s.pins.ppsEnd ≤ secondStart s.tm.wall →
      s.tm.wall < secondStart s.tm.wall + s.get TMU_PPS_WIDTH * 10 ^ 6 * wNs →
      exec .ppsOutPulse s = .next (State.settle { s with pins := { s.pins with
        ppsOut := true, ppsEnd := secondStart s.tm.wall + s.get TMU_PPS_WIDTH * 10 ^ 6 * wNs } }))

/-- Launch-queue commands (R52, R54, R56): a refused insertion stores nothing; one into a queue with no free slot is counted;
an accepted one stores its entry in the lowest slot of its queue that is not pending; CANCEL of a pending entry leaves it
cancelled. -/
def Obligations.QueueInsertionAndCancel : Prop :=
  ∀ s : State, s.running = true →
    (∀ q, s.lqFree q = none ↔ ∀ n, n < 256 → s.lqPending.contains (q * 256 + n) = true) ∧
    (∀ q k, s.lqFree q = some k ↔ ∃ n, n < 256 ∧ k = q * 256 + n ∧ s.lqPending.contains k = false ∧
      ∀ m, m < n → s.lqPending.contains (q * 256 + m) = true) ∧
    (∀ w3 : Word, s.busy TMU_LQ_IN3 = false →
      (s.lqRefused (s.rd TMU_LQ_IN0).toNat (s.rd TMU_LQ_IN2).toNat (lqAction w3.toNat) = true →
        exec (.lqInsert w3) s = .next ((s.accepted TMU_LQ_IN3 w3.toNat).setStat TMU_LQ_IN3 stREFUSED).settle) ∧
      (s.lqRefused (s.rd TMU_LQ_IN0).toNat (s.rd TMU_LQ_IN2).toNat (lqAction w3.toNat) = false →
        s.lqFree ((lqQueue (lqAction w3.toNat)).getD 0) = none →
        exec (.lqInsert w3) s =
          .next (((s.accepted TMU_LQ_IN3 w3.toNat).bump TMU_LQFULL).setStat TMU_LQ_IN3 stREFUSED).settle) ∧
      (∀ k, s.lqRefused (s.rd TMU_LQ_IN0).toNat (s.rd TMU_LQ_IN2).toNat (lqAction w3.toNat) = false →
        s.lqFree ((lqQueue (lqAction w3.toNat)).getD 0) = some k →
        let r := ((s.accepted TMU_LQ_IN3 w3.toNat).lqStore k (s.rd TMU_LQ_IN0).toNat (s.rd TMU_LQ_IN1).toNat
          (s.rd TMU_LQ_IN2).toNat (w3.toNat % 2 ^ 24 +
            (if lqForced (lqAction w3.toNat) (lqLC w3.toNat) then 2 ^ 24 else 0) + 2 ^ 28)).lqPlace k
        exec (.lqInsert w3) s = .next ((r.setAll [(TMU_LQ_INS_SLOT, k % 256),
          (TMU_LQ_INS_QUEUE, (lqQueue (lqAction w3.toNat)).getD 0), (TMU_LQ_INS_STATE, r.lqWord k 3 / 2 ^ 28)]).setStat
          TMU_LQ_IN3 stDONE).settle)) ∧
    (∀ q slot, q < 4 → slot < 256 → s.busy TMU_CMD = false →
      (s.lqPending.contains (q * 256 + slot) = true → exec (.lqCancel q slot) s =
        .next ((((s.accepted TMU_CMD (4 + 16 * (q * 256 + slot))).lqDrop (q * 256 + slot)).lqClose
          (q * 256 + slot) 5).setStat TMU_CMD stDONE).settle) ∧
      (s.lqPending.contains (q * 256 + slot) = false → exec (.lqCancel q slot) s =
        .next ((s.accepted TMU_CMD (4 + 16 * (q * 256 + slot))).setStat TMU_CMD stREFUSED).settle))

/-- R53, R55: when the pending entry that executes next is due, its action has its effect, and the entry reads executed:
FLIP queues a buffer for the slot, PHASE a phase offset (an earlier one whose launch time came is in force first), GRID a
grid; RAMP names a target, LPEMODE a mode; CALSET switches
the calibration; MCLK sets a media clock; PIN drives a pin; MARK leaves a trace entry. An entry of queue 0 waits for no
slot grid: without one it is discarded (R36). A grid change takes effect at its boundary (R51). -/
def Obligations.DueQueueEntriesExecute : Prop :=
  ∀ (s : State) (k arg w : Nat), s.running = true → s.lqLeast = some k → arg = s.lqWord k 2 → w = s.lqTime k → w ≤ s.tm.wall →
    let r := s.lqClose k 2
    (lqAction (s.lqWord k 3) = aFLIP → s.gridRuns = true → exec .lqFlip s = .next (r.lduSet fun l =>
      { l with flips := l.flips ++ [(r.slotFor w, arg % 2 ^ 16, arg / 2 ^ 16 % 8)] }).settle) ∧
    (lqAction (s.lqWord k 3) = aPHASE → s.gridRuns = true → exec .lqPhase s = .next (r.phaseInForce.tmSet fun t =>
      { t with phaseNew := some (arg % 2 ^ 24, r.slotFor w) }).settle) ∧
    (lqAction (s.lqWord k 3) = aGRID → s.gridRuns = true → exec .lqGrid s = .next ((r.tmSet fun t =>
      { t with gridPend := some (r.stagedGrid (arg % 4), nextSlot (r.stagedGrid (arg % 4)) w), gridAnn := false }).set
      (TMU_GSTG_W0_VALID (arg % 4)) 0).settle) ∧
    (lqAction (s.lqWord k 3) = aFLIP → s.gridRuns = false → k < 256 →
      exec .lqFlip s = .next (((s.lqDrop k).lqClose k 3).bump TMU_LQ).settle) ∧
    (lqAction (s.lqWord k 3) = aRAMP → 256 ≤ k → arg / 16 % 4096 < 64 → r.bit (LPE_TGT_W0_VALID (arg / 16 % 4096)) = true →
      r.get (LPE_TGT_W0_CH (arg / 16 % 4096)) = arg % 16 → exec .lqRamp s =
      .next (r.setLpeChan (arg % 16) { r.lpeChan (arg % 16) with ramp := some (arg / 16 % 4096) }).settle) ∧
    (lqAction (s.lqWord k 3) = aLPEMODE → 256 ≤ k → arg / 16 % 16 ≤ 4 →
      exec .lqLpemode s = .next (r.set (LPE_CH_MODE_REQ (arg % 16)) (arg / 16 % 16)).settle) ∧
    (lqAction (s.lqWord k 3) = aCALSET → 256 ≤ k → r.bit LCR_SWITCH_PEND = true → exec .lqCalset s =
      .next (((r.selectSet (r.get LCR_SWITCH_NEXTSET)).set LCR_SWITCH_PEND 0).putWord (selBase + 8)
        (BitVec.ofNat 32 ((r.selectSet (r.get LCR_SWITCH_NEXTSET)).get LCR_SWITCH_SEQ))).settle) ∧
    (lqAction (s.lqWord k 3) = aMCLK → 256 ≤ k → exec .lqMclk s = .next (r.setMclk (arg % 2) (arg / 2 % 16)).settle) ∧
    (lqAction (s.lqWord k 3) = aPIN → 256 ≤ k → exec .lqPin s = .next (State.settle { r with pins := { r.pins with
      gp := lset r.pins.gp (arg % 16) ((arg / 16).testBit 0) } })) ∧
    (lqAction (s.lqWord k 3) = aMARK → 256 ≤ k → exec .lqMark s = .next (r.trace0 0x28 6 arg).settle) ∧
    (∀ g j, s.tm.gridPend = some (g, j) → s.gridRuns = true → launchTime g j ≤ s.tm.wall →
      let n := (s.gridDrop.setGrid g).tmSet fun t =>
        { t with goodGrid := g, phaseNew := t.phaseNew.map fun p => (p.1 % max 1 g.cyc, p.2) }
      let p := n.set TMU_PHASE_P (n.get TMU_PHASE_P % max 1 g.cyc)
      exec .gridTakeEffect s = .next ((p.retarget j).paceFrom p.tm.wall).settle)

/-! ### Beacons, delays, pacing and commits -/

/-- Beacons and delay exchanges (R45, R46, R294): the head's interval is sent on every port that takes beacons and the next
one falls due an interval later; a delay request leaves on the port measured; a request received is answered with its own
receive timestamp; a beacon is taken by a head for its peer's time and by a tile for its own; the response to the request
pending gives a link delay. -/
def Obligations.TimFramesAct : Prop :=
  ∀ s : State,
    (s.head = true → s.ready = true → s.tm.nextTim ≤ s.now →
      let b := (List.range 16).foldl (fun (x : State) p =>
        if x.beaconPort p then x.send p (mkFrame fTIM (x.headNum * 1024 + p * 64) x.srcAddr true false
          ([0#8] ++ natLE 2 (s.tm.timCnt % 2 ^ 16)) x.syncPayload) else x) s
      exec .timSyncSend s = .next (b.tmSet fun t =>
        { t with timCnt := t.timCnt + 1, nextTim := b.now + beaconNs (b.get TMU_TIM_PER) }).settle) ∧
    (∀ p i r, s.samples = true → p < s.portCount → s.takeRx p Frame.isSync = some (i, r) →
      exec (.timSyncRx p) s = .next (if r.head then r.peerSync i else r.tileSync p i).settle) ∧
    (∀ p, s.delayPort = some p → s.samples = true → s.active p = true → s.tm.nextPdly ≤ s.now →
      exec .timPdlyreqSend s = .next ((s.tmSet fun t => { t with
        timCnt := t.timCnt + 1, nextPdly := s.now + 10 ^ 6 * 2 ^ s.get TMU_TIM_PDLY }).send p
          (pdlyFrame s.srcAddr 1 (s.tm.timCnt % 2 ^ 16) (zeros 32))).settle) ∧
    (∀ p i r, s.running = true → p < s.portCount → s.takeRx p (isPdly 1) = some (i, r) →
      exec (.timPdlyreqRx p) s =
        .next (r.send p (pdlyFrame r.srcAddr 2 (i.f.fld 11 2) (stampBytes i.at0 ++ zeros 20))).settle) ∧
    (∀ p i r, s.samples = true → p < s.portCount → s.takeRx p (isPdly 2) = some (i, r) → r.delayPort = some p →
      r.tm.pdlyId = i.f.fld 11 2 + 1 → exec (.timPdlyrspRx p) s =
        .next (r.takeDelay (linkDelay r.tm.pdlyT1 (stampAt i.f.pay 0) (stampAt i.f.pay 12) i.at0)).settle)

/-- R266-R271: at a pacing tick the next slot is posted; a slot whose jobs are all released or skipped is complete and the
next may be posted; one still incomplete a period after its tick has every sequence not yet released skipped, and is
counted; the oldest open slot past its deadline is withheld; the oldest one that meets the conditions is committed. -/
def Obligations.PacingPostsCompletesAndCommits : Prop :=
  ∀ s : State, s.head = true → s.ready = true →
    (∀ j, s.gridRuns = true → s.cmp.next = some j →
      exec .pacingTick s = .next (s.flushWait.tryPost (slotAt s.grid s.tm.wall + s.leadN + 2 - j)).settle) ∧
    (∀ r, s.flushWait.composing = some r → s.flushWait.runDone r = true →
      exec .slotComplete s = .next (s.flushWait.completeRun r true).postNow.settle) ∧
    (∀ r, s.composing = some r → launchTime s.grid (r.j + 1) ≤ s.tm.wall → s.runDone r = false →
      let q := (r.jobs ++ r.wait.map Prod.fst).foldl (fun (x : State) y =>
        if x.jobDone y then x else x.skipTo y.grp ((y.seq + 1) % 65536) 65536) s
      exec .slotAbandon s = .next (((q.bump CMP_PACE_ABAND).completeRun { r with wait := [], bad := true } false).replaceFaulted).postNow.settle) ∧
    (∀ r l, s.openRuns = r :: l → s.deadline r.j < s.tm.wall → s.wallCmt = false →
      exec .commitDeadline s = .next (s.withhold r).settle) ∧
    (∀ r, s.wallCmt = false → s.openRuns.find? (fun r => s.runReady r && decide (s.tm.wall ≤ s.deadline r.j)) = some r →
      exec .sectionCommit s = .next (s.sendCommit r false).settle)

/-- R272-R274: a head tells READY for a slot by its due time and NOTREADY at it; the reference head decides 25 us after it;
READY, NOTREADY and decisions received are recorded, and an abort is counted once. -/
def Obligations.WallCommitMessagesAreKept : Prop :=
  ∀ s : State, s.head = true →
    (s.ready = true → s.gridRuns = true → s.wallCmt = true →
      let j := nextInStep s.cmp.told (s.readySlot s.tm.wall)
      (∀ r, s.cmp.slots.find? (fun r => r.j = j) = some r → s.runReady r = true → s.tm.wall ≤ s.readyDue j →
        exec .wallrdySend s = .next (s.tellReady j true).settle) ∧
      (s.cmp.slots.find? (fun r => r.j = j) = none → s.readyDue j ≤ s.tm.wall →
        exec .wallrdySend s = .next (s.tellReady j false).settle)) ∧
    (s.ready = true → s.gridRuns = true → s.wallCmt = true → s.get TMU_PEER_REFHEAD = s.headNum →
      let j := nextInStep s.cmp.decided (s.readySlot (s.tm.wall - 25000 * wNs))
      s.readyDue j + 25000 * wNs ≤ s.tm.wall → exec .wallDecide s = .next (s.wallDecide j).settle) ∧
    (∀ p i r, s.running = true → p < 16 → s.takeRx p (isSvc vWALLRDY) = some (i, r) →
      let b := svcPay i.f
      exec (.wallrdyRx p) s = .next (r.cmpSet fun k => { k with ready := (numAt b 0 2, numAt b 4 2 / 1024, decide (numAt b 2 1 = 1)) ::
        (k.ready.filter fun x => !(x.1 = numAt b 0 2 && x.2.1 = numAt b 4 2 / 1024)) }).settle) ∧
    (∀ p i r, s.running = true → p < 16 → s.takeRx p (isSvc vWALLDEC) = some (i, r) →
      let b := svcPay i.f
      (r.cmp.decs.any (fun d => d.1 = numAt b 0 2) = true → exec (.walldecRx p) s = .next r.settle) ∧
      (r.cmp.decs.any (fun d => d.1 = numAt b 0 2) = false →
        let t := (r.set CMP_PACE_STAT_WALLOUT 0).cmpSet fun k => { k with decs := ((numAt b 0 2, decide (numAt b 2 1 = 1)) :: k.decs).take 16 }
        exec (.walldecRx p) s = .next (if numAt b 2 1 = 1 then t else t.bump CMP_PACE_WALLHOLD).settle))

/-- Moves of tiles between heads (R276-R280): an offer is taken as a guest or declined with its reason; a reply settles the
offer in progress; a deadline declines it with reason 7; a move end returns the tile, to its owner or from its guest. -/
def Obligations.OffersAndMovesAreSettled : Prop :=
  ∀ s : State, s.head = true → s.ready = true →
    (∀ p full grid i r, p < 16 → s.takeRx p (isSvc vOFFER) = some (i, r) →
      exec (.offerRx p full grid) s = .next (r.offered p (svcPay i.f) full grid).settle) ∧
    (∀ p i r o, p < 16 → s.takeRx p (isSvc vOFFERREPLY) = some (i, r) → r.cmp.offer = some o →
      r.tileAddr o.tile = numAt (svcPay i.f) 0 2 → o.s % 65536 = numAt (svcPay i.f) 2 2 →
      exec (.offerreplyRx p) s = .next (if numAt (svcPay i.f) 4 1 = 0 then r.offerAccepted o
        else r.offerDeclined o (numAt (svcPay i.f) 4 1 % 16)).settle) ∧
    (∀ o, s.cmp.offer = some o → s.paceTick (o.s - 1) ≤ s.tm.wall →
      exec .offerTimeout s = .next (s.offerDeclined o 7).settle) ∧
    (∀ p i r, p < 16 → s.takeRx p (isSvc vMOVEEND) = some (i, r) → numAt (svcPay i.f) 0 2 / 1024 = r.headNum →
      exec (.moveendRx p) s = .next (r.reclaim (numAt (svcPay i.f) 0 2 % 1024)
        (nearSlot r.nextPost (numAt (svcPay i.f) 2 2)) (numAt (svcPay i.f) 4 1) false).settle) ∧
    (∀ p i r g, p < 16 → s.takeRx p (isSvc vMOVEEND) = some (i, r) → numAt (svcPay i.f) 0 2 / 1024 ≠ r.headNum →
      r.cmp.guests.find? (fun g => g.owner = numAt (svcPay i.f) 0 2) = some g →
      exec (.moveendRx p) s = .next (r.returnGuest g.g
        (nearSlot r.nextPost (numAt (svcPay i.f) 2 2)) (numAt (svcPay i.f) 4 1) false).settle)

/-- CMP_PLC_CMD (R265, R280): VACATE, RESTORE and REPLACE are held for the next slot posted; RESTORE below READY acts at
once; RECLAIM and RETURN end a move. What the rule refuses is refused with its reason. -/
def Obligations.PlacementCommandsAct : Prop :=
  ∀ s : State, s.running = true → s.head = true → s.busy CMP_PLC_CMD = false →
    (∀ e, e < 64 → let a := s.accepted CMP_PLC_CMD (1 + 16 * e)
      ((a.crewEngines (e / 8) = [e] ∧ a.cmp.own.any (fun x => a.get (CTX_CREW x.1) = e / 8) = true) →
        exec (.plcVacate e) s = .next (a.plcRefuse 1).settle) ∧
      (a.crewEngines (e / 8) ≠ [e] → exec (.plcVacate e) s = .next (a.plcHold 1 e).settle)) ∧
    (∀ e, e < 64 → s.ready = true → exec (.plcRestore e) s = .next ((s.accepted CMP_PLC_CMD (2 + 16 * e)).plcHold 2 e).settle) ∧
    (∀ e, e < 64 → s.ready = false → exec (.plcRestore e) s =
      .next (((s.accepted CMP_PLC_CMD (2 + 16 * e)).setVacated e false).setStat CMP_PLC_CMD stDONE).settle) ∧
    (s.power = psREADY → exec .plcReplace s = .next ((s.accepted CMP_PLC_CMD 3).plcHold 3 0).settle) ∧
    (s.power ≠ psREADY → exec .plcReplace s = .next ((s.accepted CMP_PLC_CMD 3).plcRefuse 2).settle) ∧
    (∀ t, t < 1024 → let a := s.accepted CMP_PLC_CMD (4 + 1024 * t)
      (s.cmp.moved.any (fun m => m.tile = t && m.back.isNone) = true →
        exec (.plcReclaim t) s = .next ((a.reclaim t (a.moveSlot a.lastPosted) 5 true).setStat CMP_PLC_CMD stDONE).settle) ∧
      (s.cmp.moved.any (fun m => m.tile = t && m.back.isNone) = false →
        exec (.plcReclaim t) s = .next (a.plcRefuse 3).settle)) ∧
    (∀ g, g < 1024 → let a := s.accepted CMP_PLC_CMD (5 + 1024 * g)
      (s.cmp.guests.any (fun x => x.g = g && x.last.isNone) = true →
        exec (.plcReturn g) s = .next ((a.returnGuest g (a.moveSlot a.lastPosted) 2 true).setStat CMP_PLC_CMD stDONE).settle) ∧
      (s.cmp.guests.any (fun x => x.g = g && x.last.isNone) = false →
        exec (.plcReturn g) s = .next (a.plcRefuse 3).settle))

/-! ### Serial lanes -/

/-- Bring-up of a port (R71-R77): it is enabled with its failures forgotten; receivers detected start training; a retry in
DETECT trains what is found and waits 10 ms for what is not; lock on every lane within the skew limit leads to the
capability exchange; a stepped bring-up takes the lower of the two maximum rates as its target and steps to it; the last
step that passes makes the port ACTIVE at its target; a step that fails makes it ACTIVE, capped, at the rate before. -/
def Obligations.BringUpAdvances : Prop :=
  ∀ (s : State) (p : Nat), s.running = true → p < s.portCount →
    (∀ cid, s.boot.bd.isSome = true → psSTANDBY ≤ s.power → s.portComplete p = true →
      (s.portLanes p).all (fun l => s.get (LNK_LSTAT_STATE l) = lOFF && s.quadOk (l / 4)) = true →
      exec (.portEnable p cid) s = .next ((s.linkSet p fun x => { x with fails := 0 }).bringUp p cid false).settle) ∧
    (s.portState p = lDETECT → exec (.receiverDetect p) s = .next ((s.setPortState p lTRAIN).linkSet p fun x =>
      { x with detAt := s.now, rate := if x.direct then x.target else 0, skewAt := none }).settle) ∧
    ((s.link p).nextDet ≤ s.now → s.portState p = lDETECT →
      exec (.detectRetry p true) s = .next (s.train p).settle ∧
      exec (.detectRetry p false) s = .next (s.linkSet p fun x => { x with nextDet := s.now + 10000000 }).settle) ∧
    (∀ lanes unc, s.portState p = lTRAIN → (s.link p).skewAt = none → lanes.length = (s.portLanes p).length →
      let r := (s.portLanes p).zip lanes |>.foldl (fun (x : State) q =>
        let v := if q.2.2 < 256 then (q.2.2, x) else (x.draw.1.toNat % 256, x.draw.2)
        v.2.setAll [(LNK_LSTAT_LLANE q.1, q.2.1), (LNK_LSTAT_DSKEW q.1, v.1)]) s
      let u := (s.portLanes p).foldl (fun (x : State) l => x.bumpN (LNK_FECUNC l) unc) r
      lanes.any (fun q => decide (256 < q.2)) = false →
      exec (.laneLock p lanes unc) s = .next (u.setPortState p lCAPX).settle) ∧
    (∀ (c : CapWord) eyes, s.portState p = lCAPX → eyes.length = (s.portLanes p).length → (s.link p).direct = false →
      (∀ l ∈ s.portLanes p, s.get (LNK_LCFG_WIDTH l) = c.width) → c.sameFw = true → 0 < min (s.link p).target c.rate →
      exec (.capabilityExchange p c eyes) s =
        .next ((s.linkSet p fun x => { x with target := min (s.link p).target c.rate }).setPortState p lSTEP).settle) ∧
    (∀ eyes, s.portState p = lSTEP → eyes.length = (s.portLanes p).length → eyes.all (eyeOk ((s.link p).rate + 1)) = true →
      (s.link p).rate + 1 = (s.link p).target →
      exec (.rateStep p true eyes true) s = .next (s.activate p (s.link p).target eyes).settle) ∧
    (∀ eyes far, s.portState p = lSTEP → eyes.length = (s.portLanes p).length →
      exec (.rateStep p false eyes far) s = .next ((s.setCapped p).activate p (s.link p).rate eyes).settle)

/-- What ends a bring-up (R69, R73, R78, R79): 100 ms after a deskew failure and 150 ms after detection it has failed, and
starts again at detection unless it is the eighth failure in a row; a direct one that has not locked 30 ms after detection
restarts stepped and is counted; a lane that loses lock in service is counted and its port brought up again. -/
def Obligations.BringUpFailuresRestart : Prop :=
  ∀ (s : State) (p : Nat), s.running = true → p < s.portCount →
    (∀ t, (s.link p).skewAt = some t → s.portState p = lTRAIN → t + 100000000 ≤ s.now →
      exec (.skewRestart p) s = .next ((s.linkSet p fun x => { x with skewAt := none }).bringUpFails p).settle) ∧
    (lTRAIN ≤ s.portState p → s.portState p ≤ lSTEP → (s.link p).detAt + 150000000 ≤ s.now → (s.link p).fails < 7 →
      exec (.bringupFailTimeout p) s =
        .next ((s.linkSet p fun x => { x with fails := (s.link p).fails + 1 }).detect p).settle) ∧
    ((s.link p).direct = true → s.portState p = lTRAIN → (s.link p).detAt + 30000000 ≤ s.now →
      exec (.directBringupTimeout p) s =
        .next ((((s.portLanes p).foldl (fun (x : State) l => x.bump (LNK_DIRFAIL l)) s).setPortState p lTRAIN).linkSet p
          fun x => { x with direct := false, rate := 0, skewAt := none }).settle) ∧
    (∀ l cid, l < 32 → s.get (LNK_LSTAT_STATE l) = lACTIVE → (s.bump (LNK_LOSS l)).linkOf l = p → p < 16 →
      exec (.laneLoss l cid) s = .next (((((s.bump (LNK_LOSS l)).lcmdEnd ((s.bump (LNK_LOSS l)).linkLanes p) 2 stFAILED).skdLost
        p).bringUp p cid false)).settle)

/-- Electrical idle (R81-R84): an entry asked for leaves the port IDLE with its frames waiting; an exit burst asks for the
exit; a fast exit makes the port ACTIVE with its stored settings, or is a new bring-up where R84 or R91 wants one; one that
has not locked after 2 us is counted on every lane and becomes a bring-up. -/
def Obligations.IdleEntryAndExit : Prop :=
  ∀ (s : State) (p : Nat), s.running = true → p < s.portCount →
    (∀ far, s.portState p = lACTIVE → (far = true ∨ (s.link p).ei = true) →
      let b := (s.setPortState p lIDLE).set (SKD_PORT_STAT_ACTIVE p) 0
      exec (.eiEntry p far) s =
        .next ((b.linkSet p fun x => { x with ei := false, runEnd := none }).lcmdEnd (b.portLanes p) 3 stDONE).settle) ∧
    (s.portState p = lIDLE → exec (.exitBurstDetect p) s =
      .next ((s.setPortState p lEXIT).setLink p { s.link p with exitAt := s.now, ei := false }).settle) ∧
    (∀ cid, s.portState p = lEXIT → (s.link p).full = false → s.tempNear p = true →
      exec (.fastExit p cid) s = .next (s.fastExit p).settle) ∧
    (∀ cid, s.portState p = lEXIT → ((s.link p).full = true ∨ s.tempNear p = false) →
      exec (.fastExit p cid) s = .next (s.bringUp p cid true).settle) ∧
    (∀ cid, s.portState p = lEXIT → (s.link p).exitAt + 2000 ≤ s.now → exec (.fastExitTimeout p cid) s =
      .next (((s.portLanes p).foldl (fun (x : State) l => x.bump (LNK_FXFAIL l)) s).bringUp p cid true).settle)

/-- Lane commands of R91-R93 where they are accepted, on a powered lane whose command register is free: PRBSON and PRBSOFF
change the lane alone; RETRAIN takes the port out of service and starts its bring-up; CAL makes a run due; IDLE asks for the
entry, WAKE for the exit. The status lands in the register of every lane the command acts on. -/
def Obligations.LaneCommandsAct : Prop :=
  ∀ (s : State) (l : Nat), s.running = true → l < 32 → s.bit (LNK_QSTAT_UNPWR (l / 4)) = false →
    s.busy (LNK_LCMD l) = false →
    let a := fun op : Nat => (s.cmdLanes l).foldl (fun (x : State) m => x.wr (LNK_LCMD m) (BitVec.ofNat 32 op)) (s.answer rOK)
    let done := fun (st : Nat) (x : State) => (s.cmdLanes l).foldl (fun (x : State) m => x.setStat (LNK_LCMD m) st) x
    (s.laneBusy l = false → (a 1).get (LNK_LSTAT_STATE l) ≠ lOFF → (a 1).get (LNK_LSTAT_STATE l) ≠ lPRBS → (a 1).linkOf l < 16 →
      let r := (a 1).skdLost ((a 1).linkOf l)
      exec (.laneRetrain l) s = .next (done stBUSY ((r.linkSet ((a 1).linkOf l) fun x =>
        { x with fails := 0, direct := r.mayDirect ((a 1).linkOf l), target := r.portMax ((a 1).linkOf l) }).detect
          ((a 1).linkOf l))).settle) ∧
    (s.laneBusy l = false → (a 2).get (LNK_LSTAT_STATE l) = lACTIVE →
      exec (.laneCal l) s = .next (done stBUSY (((a 2).linkSet ((a 2).linkOf l) fun x =>
        { x with calCmd := true, cal := false }).calDue ((a 2).linkOf l))).settle) ∧
    ((a 3).linkOf l < 16 → (a 3).get (LNK_LSTAT_STATE l) = lACTIVE →
      exec (.laneIdle l) s = .next (done stBUSY ((a 3).linkSet ((a 3).linkOf l) fun x => { x with ei := true })).settle) ∧
    ((a 4).linkOf l < 16 → (a 4).get (LNK_LSTAT_STATE l) = lIDLE →
      exec (.laneWake l) s = .next (done stBUSY ((a 4).wakePort ((a 4).linkOf l))).settle) ∧
    (∀ x y, x = s.accepted (LNK_LCMD l) 5 → y = x.draw.2.set (LNK_LSTAT_STATE l) lPRBS →
      x.get (LNK_LSTAT_STATE l) = lOFF → x.bit (LNK_QSTAT_PLLLOCK (l / 4)) = true → x.get (LNK_PRBS_PAT l) < 6 →
      exec (.lanePrbsOn l) s = .next ((y.set (LNK_PRBS_SYNC l)
        (if y.bit (LNK_PRBS_RXEN l) then x.draw.1.toNat % 2 else 0)).setStat (LNK_LCMD l) stDONE).settle) ∧
    (∀ x, x = s.accepted (LNK_LCMD l) 6 →
      x.get (LNK_LSTAT_STATE l) = lPRBS → exec (.lanePrbsOff l) s =
        .next (((x.set (LNK_LSTAT_STATE l) lOFF).set (LNK_PRBS_SYNC l) 0).setStat (LNK_LCMD l) stDONE).settle)

/-- Calibration runs (R85-R90): a run falls due; a tile asks its head for a window once a second; a request received joins
the head's queue and the oldest may be granted; a window granted by a head is recorded; at its start the sender holds its
frames and the receiver runs; 40 us later the run ends, keeps the wider eye of each lane and leaves the lanes ACTIVE; a run
that finds no window in WAITMAX seconds is flagged stale on every lane. -/
def Obligations.CalibrationRunsAdvance : Prop :=
  ∀ s : State, s.running = true →
    (∀ k, k < 20 → s.linkLanes k ≠ [] → (s.link k).runEnd = none →
      (s.linkLanes k).any (fun l => s.get (LNK_LSTAT_STATE l) = lACTIVE || s.get (LNK_LSTAT_STATE l) = lIDLE) = true →
      ((s.link k).cal = true ∨ s.calTrigger k = true) → exec (.calDue k) s = .next (s.calDue k).settle) ∧
    (∀ p, s.head = false → p < 4 → s.wantsWindow p = true → (s.link p).reqNext ≤ s.now →
      let r := s.linkSet p fun x => { x with reqNext := s.now + 1000000000 }
      exec (.calreqSend p) s = .next (r.sendSvc vCALREQ s.headOf
        (natLE 2 s.addr ++ natLE 1 p ++ natLE 1 (s.laneMask p) ++ zeros 4)).settle) ∧
    (∀ p ahead i r, s.head = true → p < 16 → s.takeRx p (isSvc vCALREQ) = some (i, r) →
      let b := svcPay i.f
      let q := (p, numAt b 0 2, numAt b 2 1, numAt b 3 1 % 16)
      exec (.calreqRx p ahead) s = .next ((if r.lnk.reqs.contains q then r else
        { r with lnk := { r.lnk with reqs := r.lnk.reqs ++ [q] } }).tryGrant p ahead).settle) ∧
    (∀ p i r, s.head = false → p < 4 → s.takeRx p (isSvc vCALGRANT) = some (i, r) → numAt (svcPay i.f) 0 2 = r.addr →
      exec (.calgrantRx p) s = .next (r.linkSet (numAt (svcPay i.f) 2 1 % 4) fun x =>
        { x with win := some (timeAt (svcPay i.f) 4) }).settle) ∧
    (∀ p w, p < s.portCount → s.lnk.txWin.find? (fun x => x.1 = p) = none → (s.link p).win = some w → w ≤ s.tm.wall →
      s.portState p = lACTIVE → exec (.calWindowStart p) s = .next (s.startRun p).settle) ∧
    (∀ p q w, p < s.portCount → s.lnk.txWin.find? (fun x => x.1 = p) = some (q, w) → w ≤ s.tm.wall → (s.link p).win = none →
      let r : State := { s with lnk := { s.lnk with txWin := s.lnk.txWin.filter (fun x => x.1 ≠ p) } }
      exec (.calWindowStart p) s = .next (r.setPort p { r.port p with calTx := s.now + calRunNs }).settle) ∧
    (∀ k t eyes, (s.link k).runEnd = some t → t ≤ s.now → eyes.length = (s.linkLanes k).length →
      exec (.calRunEnd k eyes) s = .next (s.runEnd k eyes).settle) ∧
    (∀ p, p < s.portCount → s.wantsWindow p = true →
      (s.portLanes p).all (fun l => decide ((s.link p).reqAt + s.get (LNK_CAL_WAITMAX l) * 10 ^ 9 ≤ s.now)) = true →
      exec (.calStarve p) s = .next ((s.portLanes p).foldl (fun (x : State) l =>
        x.setAll [(LNK_LSTAT_CALSTARVE l, 1), (LNK_EYE_STALE l, 1)]) s).settle)

/-! ### Ethernet, flows, stills and the monitor output -/

/-- Ethernet ports (R62, R80, R94-R96): bring-up makes the port ACTIVE and ends a pending RETRAIN; a frame that meets a full
FIFO, and one with a wrong FCS, change their counters alone; the first waiting frame of the lowest class number is sent; a
reference clock that fails takes the lanes of its two powered quads OFF. -/
def Obligations.EthernetPortsAct : Prop :=
  ∀ (s : State) (p : Nat), s.running = true → s.head = true → p < 4 →
    (s.get (LNK_QCFG_MODE p) = 2 → s.bit (ETH_PORT_CFG_EN p) = true → (s.ethLanes p).all (fun l => s.bit (LNK_LCFG_EN l)) = true →
      s.quadOk p = true → s.bit (ETH_PORT_STAT_ACTIVE p) = false →
      exec (.ethPortBringup p) s = .next (((s.setLanes (s.ethLanes p) lACTIVE).setAll [(ETH_PORT_STAT_ACTIVE p, 1),
        (ETH_PORT_STAT_WIDTH p, s.get (LNK_QCFG_ETHW p))]).lcmdEnd (s.ethLanes p) 1 stDONE).settle) ∧
    (s.bit (ETH_PORT_STAT_ACTIVE p) = true →
      (s.bit (ETH_PORT_CFG_EN p) = true → (∀ l fcs c v, exec (.ethFrameRx p l fcs true c v) s = .next (s.bump (ETH_RXDROP p)).settle) ∧
        (∀ l c v, (s.bump (ETH_RXFRM p)).ethClass p l false = 1 →
          exec (.ethFrameRx p l false false c v) s = .next ((s.bump (ETH_RXFRM p)).bump (ETH_RXFCS p)).settle) ∧
        (∀ l c v, (s.bump (ETH_RXFRM p)).ethClass p l true = 5 →
          exec (.ethFrameRx p l true false c v) s = .next ((s.bump (ETH_RXFRM p)).bump (ETH_CTLRX p)).settle)) ∧
      (∀ x b, s.ethFront p = some x → s.monNext = none →
        b = ({ s with eth := { s.eth with txq := s.eth.txq.erase x } }).bump (ETH_TXFRM p) →
        exec (.ethFrameTx p) s = .next ({ b with skd := { b.skd with out := .eth p x.2.1 x.2.2 :: b.skd.out } }).settle) ∧
      (∀ x w, s.ethFront p = some x → s.monNext = some w → s.monOn p = true → w < s.tm.wall + s.ethTime p x.2.2.length →
        exec (.ethFrameTx p) s = .next s.settle)) ∧
    (∀ (ok : Bool), exec (.referenceClockChange p ok) s = .next ([2 * p, 2 * p + 1].foldl (fun (x : State) q =>
      if x.bit (LNK_QSTAT_UNPWR q) then x
      else (if ok then x else (List.range 4).foldl (fun y n => y.laneOff (4 * q + n)) x).setAll
        [(LNK_QSTAT_REFOK q, if ok then 1 else 0), (LNK_QSTAT_PLLLOCK q, if ok then 1 else 0)]) s).settle)

/-- Flows and stills (R97-R106) where their commands are accepted: OPEN checks state, format, port, addresses and stores in
that order and opens the flow; CLOSE of a receiving flow reports to its groups and drops the frames being received; a frame
past its marker's arrival plus SKEW closes; a fence of a free buffer of an enabled still is DONE. -/
def Obligations.FlowsAndStillsAct : Prop :=
  ∀ (s : State) (f : Nat), s.running = true → s.head = true → f < 16 →
    (s.busy (ETH_FLOW_CMD f) = false →
      (∀ a t, a = s.accepted (ETH_FLOW_CMD f) 1 → a.get (ETH_FLOW_STAT_STATE f) = 0 → a.flowFmtOk f = true → a.flowPortOk f = true →
        a.flowAddrOk f = true → a.flowStores f 0 (a.nbuf f) = some t →
        exec (.flowOpen f) s = .next (((((t.setFlow f FlowSt.init).wr (ETH_FLOW_STAT f)
          (putBits (t.rd (ETH_FLOW_STAT f) &&& 0x1C#32) 0 2 1)).legReports f 2).setStat (ETH_FLOW_CMD f) stDONE)).settle) ∧
      (∀ a, a = s.accepted (ETH_FLOW_CMD f) 1 → a.get (ETH_FLOW_STAT_STATE f) ≠ 0 →
        exec (.flowOpen f) s = .next ((a.set (ETH_FLOW_STAT_REASON f) 1).setStat (ETH_FLOW_CMD f) stREFUSED).settle) ∧
      (∀ a b, a = s.accepted (ETH_FLOW_CMD f) 2 → a.get (ETH_FLOW_STAT_STATE f) = 1 →
        b = (a.legReports f 3).setAll [(ETH_FLOW_STAT_STATE f, 2), (ETH_FLOW_STAT_FRAME f, 0)] →
        exec (.flowClose f) s = .next ((b.setFlow f { b.flow f with frames := [] }).setStat (ETH_FLOW_CMD f) stDONE).settle)) ∧
    (∀ x m a, s.get (ETH_FLOW_STAT_STATE f) = 1 → (s.flow f).frames = [x] → x.mark = some (m, a) →
      a + s.skewTime f ≤ s.tm.wall → exec (.frameCloseTimeout f) s = .next (s.frameClose f x m).settle) ∧
    (∀ k b tok a, k < 64 → b < 2 → tok < 2 ^ 16 → s.busy (ETH_STILL_FENCE k) = false →
      a = (s.accepted (ETH_STILL_FENCE k) (b + 2 * tok)).stillRefresh k →
      (s.accepted (ETH_STILL_FENCE k) (b + 2 * tok)).bit (ETH_STILL_CFG_EN k) = true → a.bit (ETH_STILL_CFG_EN k) = true →
      a.bit (ETH_STILL_STAT_FREEOK k) = true → a.stillInUse k b = false →
      exec (.stillFence k b tok) s = .next ((a.stillFenced k b tok).setStat (ETH_STILL_FENCE k) stDONE).settle)

/-- The monitor output (R107-R113): START of a stopped, well set monitor takes its two stores and its contexts; STOP between
frames ends it at once; ARM waits for the APPLY line of a running monitor; at T_R a frame starts on the most recently
completed store, or is counted as missed; each packet is sent at its time, and the last ends the frame. -/
def Obligations.MonitorOutputActs : Prop :=
  ∀ s : State, s.running = true → s.head = true →
    (s.busy ETH_MON_CMD = false →
      (∀ a o1 t1 o2 t2, a = s.accepted ETH_MON_CMD 1 → a.get ETH_MON_STAT_STATE = 0 → a.monOk = true →
        a.allocWide a.monStoreBytes (.monitor 0) = some (o1, t1) → t1.allocWide a.monStoreBytes (.monitor 1) = some (o2, t2) →
        exec .monStart s = .next ((((t2.set ETH_MON_STAT_STATE 1).monSet fun m =>
          { m with pkt := none, done := [], sent := none, job := none, wrote := [],
                   nextFrame := a.monFrameNow + a.monDiv }).monContexts).setStat ETH_MON_CMD stDONE).settle) ∧
      (∀ a b, a = s.accepted ETH_MON_CMD 2 → a.get ETH_MON_STAT_STATE = 1 →
        b = ((a.freeUser 2048).monSet fun m => { m with job := none, wrote := [] }) →
        (b.dropThreads fun x => x.2.2.1 = b.get CMP_CFG_MONPROG).eth.mon.pkt = none →
        exec .monStop s = .next (((b.dropThreads fun x => x.2.2.1 = b.get CMP_CFG_MONPROG).monStopped).setStat ETH_MON_CMD
          stDONE).settle) ∧
      (∀ a, a = s.accepted ETH_MON_CMD 3 → a.get ETH_MON_STAT_STATE ≠ 0 →
        exec .monArm s = .next ((a.set ETH_MON_STAT_ARMED 1).setStat ETH_MON_CMD stDEFERRED).settle)) ∧
    (s.gridRuns = true → s.get ETH_MON_STAT_STATE = 1 → s.eth.mon.pkt = none → s.monFrameNow + s.monDiv ≠ s.eth.mon.nextFrame →
      s.monRaster s.monFrameNow ≤ s.tm.wall →
      let b := (s.monSet fun m => { m with nextFrame := s.monFrameNow + s.monDiv }).monEvent 0
      (s.eth.mon.done = [] → exec .monSof s = .next ((b.bump ETH_MON_UNDER).monEvent 4).settle) ∧
      (∀ d r, s.eth.mon.done = d :: r → s.eth.mon.sent ≠ some d → exec .monSof s =
        .next ((b.monSet fun m => { m with frame := s.monFrameNow, pkt := some 0, sent := some d }).setAll
          [(⟨ETH_MON_STAT, 3, 12⟩, 0), (⟨ETH_MON_STAT, 15, 1⟩, d.2)]).settle)) ∧
    (∀ i, s.eth.mon.pkt = some i → s.monPacketTime s.eth.mon.frame i ≤ s.tm.wall → i + 1 ≠ s.monPackets →
      let a := ((s.monPayload i).2).ethSend ((s.monPayload i).2.get ETH_MON_CFG_PORTA) 0 (s.monPayload i).1
      let b := (a.monSet fun m => { m with seq := (m.seq + 1) % 2 ^ 32 }).set ⟨ETH_MON_STAT, 3, 12⟩ (i / s.get ETH_MON_TIMING_PPL)
      a.bit ETH_MON_CFG_CLONE = false → i ≠ b.get ETH_MON_LINE_MATCH * s.get ETH_MON_TIMING_PPL →
      i ≠ b.get ETH_MON_LINE_APPLY * s.get ETH_MON_TIMING_PPL →
      exec .monPacket s = .next (b.monSet fun m => { m with pkt := some (i + 1) }).settle)

/-! ### The control plane and the control units -/

/-- Requests (R430-R435, R326, R327): without keys a request is served as it stands (its bound stream first); one that fails
its check changes the counters alone; a request from the chain joins a tile's queue of 16, acknowledged if asked, and the
oldest queued one is answered, an answer already given being sent again. A relay whose time is over is answered TIMEOUT, a
response answers its relay, and a response without one is counted. -/
def Obligations.ControlRequestsAreAnswered : Prop :=
  ∀ s : State, s.running = true →
    (s.head = true →
      (∀ p v6 ip udp l, p < 4 → s.ctl.keyA = none → s.ctl.keyB = none →
        exec (.controlRequest p v6 ip udp l) s = .next (s.serveMessage ⟨p, v6, ip, udp⟩ ⟨0, 0⟩ l).settle) ∧
      (∀ p v6 ip udp l, p < 4 → (s.ctl.keyA ≠ none ∨ s.ctl.keyB ≠ none) → s.keyMatch l = none →
        exec (.controlRequest p v6 ip udp l) s = .next (s.bump (ETH_AUTHFAIL p)).settle) ∧
      (∀ r a, s.ctl.relays.find? (fun r => decide (r.till ≤ s.now)) = some r → r.maps = false →
        a = ({ s with ctl := { s.ctl with relays := s.ctl.relays.filter fun x => x.tag ≠ r.tag } } : State) →
        exec .relayTimeout s = .next (a.relayAnswer r fun hd => refusal hd mTIMEOUT).settle) ∧
      (∀ p i r, p < 16 → s.takeRx p (fun f => f.typ = fCTL && f.fld 12 1 % 4 = 1) = some (i, r) →
        (r.ctl.relays.find? (fun x => x.tag = i.f.fld 10 2) = none →
          exec (.ctlResponseRx p) s = .next (r.bump SKD_CH_LATERSP).settle) ∧
        (∀ x a, r.ctl.relays.find? (fun x => x.tag = i.f.fld 10 2) = some x → x.maps = false →
          a = ({ r with ctl := { r.ctl with relays := r.ctl.relays.filter fun y => y.tag ≠ x.tag } } : State) →
          exec (.ctlResponseRx p) s = .next (a.relayAnswer x fun hd => putAt i.f.pay 2 (slice hd 2 2)).settle))) ∧
    (s.head = false →
      (∀ p i r, p < 4 → s.takeRx p (fun f => f.typ = fCTL && f.fld 12 1 % 4 = 0) = some (i, r) → r.ctl.tileQ.length < 16 →
        let q : State := { r with ctl := { r.ctl with tileQ := r.ctl.tileQ ++ [(p, i.f)] } }
        exec (.tileCtlRequest (some p)) s =
          .next (if i.f.fld 13 1 % 2 = 1 then q.sendAck i.f.src (i.f.fld 10 2) akOK fCTL 0 else q).settle) ∧
      (∀ x f q a, s.ctl.tileQ = (x, f) :: q → a = ({ s with ctl := { s.ctl with tileQ := q
                                                                                served := s.ctl.served.filter fun y => decide (s.now ≤ y.2.2.1 + 10 ^ 8) } } : State) →
        (∀ y, a.ctl.served.find? (fun y => y.1 = f.src && y.2.1 = f.fld 10 2) = some y →
          exec (.tileCtlRequest none) s =
            .next (a.sendTo f.src (ctlFrame f.src a.srcAddr false (f.fld 10 2) 1 false y.2.2.2)).settle) ∧
        (∀ b t, a.ctl.served.find? (fun y => y.1 = f.src && y.2.1 = f.fld 10 2) = none → a.tileAnswer f = (b, t) →
          let u : State := { t with ctl := { t.ctl with served := (f.src, f.fld 10 2, t.now, b) :: t.ctl.served } }
          exec (.tileCtlRequest none) s =
            .next (u.sendTo f.src (ctlFrame f.src u.srcAddr false (f.fld 10 2) 1 false b)).settle)))

/-- Notifications and control units (R440, R320, R448): a destination of a head that is enabled, due and owed something gets
one message of at most 64 records, and none within the next millisecond; a tile's goes to its head; a tile's records enter
the head's stream one by one. ENABLE of a control unit that nothing refuses starts it, DISABLE stops it. -/
def Obligations.NotificationsAndControlUnitsAct : Prop :=
  ∀ s : State, s.running = true →
    (s.head = true →
      (∀ x q a t b u, s.note.q0 = x :: q → s.note.lost0 = 0 → s.bit (GLB_NDEST_W4_EN 0) = true → s.note.next0 ≤ s.now →
        a = ({ s with note := { s.note with q0 := s.note.q0.drop 64, lost0 := 0, next0 := s.now + 1000000 } } : State) →
        a.noteBody a.srcAddr (s.note.q0.take 64) = (t, b, u) →
        exec (.notifySend 0) s = .next (u.sendBody (u.noteDest 0) 0 (u.cvuOf (u.noteDest 0)) b).settle) ∧
      (∀ p i r, p < 16 → s.takeRx p (fun f => f.typ = fCTL && f.fld 12 1 % 4 = 2) = some (i, r) →
        exec (.ctlNotificationRx p) s = .next ((List.range (min (numAt i.f.pay 6 2) ((i.f.pay.drop 16).length / 16))).foldl
          (fun (a : State) k => a.tileRecord (slice (i.f.pay.drop 16) (16 * k) 16)) r).settle)) ∧
    (s.head = false → ∀ d x q a t b u, s.note.tileQ = x :: q → s.note.next0 ≤ s.now → s.bit SKD_ADDR_VALID = true →
      a = ({ s with note := { s.note with tileQ := s.note.tileQ.drop 63, next0 := s.now + 1000000 } } : State) →
      a.noteBody a.headOf (s.note.tileQ.take 63) = (t, b, u) →
      exec (.notifySend d) s = .next (u.sendTo u.headOf (ctlFrame u.headOf u.srcAddr false t 2 false b)).settle) ∧
    (∀ u, u < 4 → s.busy (CVU_CMD u) = false →
      (∀ a, a = s.accepted (CVU_CMD u) 1 → a.cvuRefusal u = none →
        exec (.cvuEnable u) s = .next ((({ (a.set (CVU_STAT_EN u) 1) with
          ctl := { a.ctl with first := u :: a.ctl.first.filter (· ≠ u) } } : State).setStat (CVU_CMD u) stDONE)).settle) ∧
      (∀ a r, a = s.accepted (CVU_CMD u) 1 → a.cvuRefusal u = some r →
        exec (.cvuEnable u) s = .next ((a.set (CVU_STAT_REASON u) r).setStat (CVU_CMD u) stREFUSED).settle) ∧
      (∀ a, a = s.accepted (CVU_CMD u) 2 →
        exec (.cvuDisable u) s = .next ((a.set (CVU_STAT_EN u) 0).setStat (CVU_CMD u) stDONE).settle))

/-- The check value of R447: a unit set to each of the three models of the reference table gives, over the nine ASCII bytes
"123456789", the result the table states; and it is BADCFG to set a width outside 1-64 or bits above it. -/
def Obligations.CheckValuesAgreeWithTheReferenceTable : Prop :=
  ∀ (s : State) (u : Nat) (l : List Byte), l = [0x31#8, 0x32#8, 0x33#8, 0x34#8, 0x35#8, 0x36#8, 0x37#8, 0x38#8, 0x39#8] →
    (s.cvuWidth u = 16 → s.cvuPoly u = 0x1021 → s.cvuInit u = 0xFFFF → s.bit (CVU_CFG_REFIN u) = false →
      s.bit (CVU_CFG_REFOUT u) = false → s.cvuXor u = 0 → s.cvuCheck u l = 0x29B1) ∧
    (s.cvuWidth u = 32 → s.cvuPoly u = 0x1EDC6F41 → s.cvuInit u = 0xFFFFFFFF → s.bit (CVU_CFG_REFIN u) = true →
      s.bit (CVU_CFG_REFOUT u) = true → s.cvuXor u = 0xFFFFFFFF → s.cvuCheck u l = 0xE3069283) ∧
    (s.cvuWidth u = 64 → s.cvuPoly u = 0x42F0E1EBA9EA3693 → s.cvuInit u = 2 ^ 64 - 1 → s.bit (CVU_CFG_REFIN u) = true →
      s.bit (CVU_CFG_REFOUT u) = true → s.cvuXor u = 2 ^ 64 - 1 → s.cvuCheck u l = 0x995DC9BBDF1939FA) ∧
    (s.head = true → (s.cvuWidth u = 0 ∨ 64 < s.cvuWidth u ∨ 2 ^ s.cvuWidth u ≤ s.cvuPoly u) → s.cvuRefusal u = some cvBADCFG)

/-! ### Memory -/

/-- Memory commands and self-refresh (R127-R139): a due measurement sets the channel's timing and the next one; MEM_FREQ in READY starts the
training at the new rate, deferred while training runs, and is refused in SHOW; a training that passes takes the rate,
one that fails goes back, and one that fails there too takes memory out of service; a poll reads the worst refresh field,
with the multiplier capped at 2 unless SLOW, and flags over-temperature. In STANDBY a channel
idle for IDLE microseconds enters self-refresh, with the mask of R139 written at the entry and the entry counted; a request for
a channel in self-refresh takes it out and counts the wait; one that comes before the commitment aborts the entry; another only
restarts the idle time. -/
def Obligations.MemoryCommandsAndSelfRefreshAct : Prop :=
  (∀ s : State, s.running = true → s.phase = .firmware →
    (∀ c t, c < s.memc.nch → s.get (MEM_CH_STAT_STATE c) = mACTIVE → (s.chan c).meas ≤ s.now →
      exec (.wck2dqMeasure c t) s =
        .next (s.setChan c { s.chan c with meas := s.now + s.get MEM_TRN_PER * 1000000, wck := t }).settle) ∧
    (∀ r a, r < 2 → s.busy MEM_FREQ = false → a = s.accepted MEM_FREQ r →
      (a.power = psREADY →
        let b := a.setStat MEM_FREQ (if a.get MEM_TRN_STEP ≠ 0 then stDEFERRED else stBUSY)
        let d : State := { b with memc := { b.memc with prevRate := b.get MEM_STAT_RATE, started := b.now } }
        exec (.memFreqChange r) s = .next (((d.set MEM_STAT_STATE mRATECHG).setChannels mRATECHG).set MEM_TRN_STEP 1).settle) ∧
      (a.power = psSHOW → exec (.memFreqChange r) s = .next (a.setStat MEM_FREQ stREFUSED).settle)) ∧
    (s.get MEM_STAT_STATE = mRATECHG →
      (∀ again bad, exec (.rateChangeDone true again bad) s = .next (((((s.set MEM_STAT_RATE (s.get ⟨MEM_FREQ, 0, 1⟩)).memTrained).setStat
        MEM_FREQ stDONE).bump MEM_FREQCHG)).settle) ∧
      (∀ bad, exec (.rateChangeDone false true bad) s =
        .next (((s.set MEM_STAT_RATE s.memc.prevRate).memTrained).setStat MEM_FREQ stFAILED).settle) ∧
      (∀ bad, exec (.rateChangeDone false false bad) s =
        .next (((s.set MEM_STAT_RATE s.memc.prevRate).memFailed bad).setStat MEM_FREQ stFAILED).settle)) ∧
    (∀ c fields w, c + 1 < s.memc.nch → s.get (MEM_CH_STAT_STATE c) = mACTIVE → s.memc.nextPoll ≤ s.now → fields ≠ [] →
      w = fields.foldl max 0 →
      (w = 0x1F → exec (.mr4Poll c fields) s = .next (((s.set (MEM_CH_STAT_RRATE c) w).set (MEM_CH_STAT_MULT c) 0).set
        (MEM_CH_STAT_OVERT c) 1).settle) ∧
      (w ≠ 0x1F → exec (.mr4Poll c fields) s = .next ((s.set (MEM_CH_STAT_RRATE c) w).set (MEM_CH_STAT_MULT c)
        (if s.bit MEM_REF_SLOW then mr4Mult w else min 2 (mr4Mult w))).settle))) ∧
  ∀ (s : State) (c : Nat), c < s.memc.nch → s.power = psSTANDBY →
    (s.get (MEM_CH_STAT_STATE c) = mACTIVE → (s.chan c).idle + s.get MEM_SR_IDLE * 1000 ≤ s.now →
      let b := s.set MEM_PASR_APPLIED s.pasrMask
      let d := (b.set (MEM_CH_STAT_STATE c) mSELFREF).setChan c { b.chan c with pend := false }
      exec (.selfRefreshEntry c) s = .next ((d.bump MEM_SRENT).memRollup).settle) ∧
    (s.get (MEM_CH_STAT_STATE c) = mSELFREF → exec (.selfRefreshExit c) s = .next ((s.channelOut c).bump MEM_SRWAIT).settle) ∧
    (s.get (MEM_CH_STAT_STATE c) ≠ mSELFREF → (s.chan c).pend = true → exec (.selfRefreshExit c) s =
      .next ((s.setChan c { s.chan c with pend := false, idle := s.now }).bump MEM_SRABORT).settle) ∧
    (s.get (MEM_CH_STAT_STATE c) ≠ mSELFREF → (s.chan c).pend = false → exec (.selfRefreshExit c) s =
      .next (s.setChan c { s.chan c with idle := s.now }).settle)

/-! ### Kerf -/

/-- Vector arithmetic (R174, R176, R179-R183, R193): ADD and its logical forms, ADDS, MUL, MAC, MIN, MAX, CLMP, SHL, SHR, the
vector forms of CVT and BLND compute their form on each enabled lane from the operands as they were at issue. -/
def Obligations.VectorFormsComputeEachEnabledLane : Prop :=
  VectorForm .kAdd 0x10 (fun i => i.fn < 6) (fun i x l => noSat (addForm i.fn (x.vreg i.a l) (i.vecB x l))) ∧
  VectorForm .kAdds 0x11 (fun _ => True) (fun i x l => addsForm i.fn (x.vreg i.a l) (i.vecB x l)) ∧
  VectorForm .kMul 0x12 (fun _ => True) (fun i x l => mulForm i.fn i.c (x.vreg i.a l) (i.vecB x l)) ∧
  VectorForm .kMac 0x13 (fun _ => True) (fun i x l => macForm i.fn i.c (x.vreg i.a l) (i.vecB x l) (x.vreg i.d l)) ∧
  VectorForm .kMin 0x14 (fun _ => True) (fun i x l => noSat (minForm i.fn (x.vreg i.a l) (i.vecB x l))) ∧
  VectorForm .kMax 0x15 (fun _ => True) (fun i x l => noSat (maxForm i.fn (x.vreg i.a l) (i.vecB x l))) ∧
  VectorForm .kClmp 0x16 (fun _ => True) (fun i x l => noSat (clmpForm i.fn (x.vreg i.a l) (i.vecB x l) (x.vreg i.c l))) ∧
  VectorForm .kShl 0x17 (fun _ => True) (fun i x l => shlForm i.fn (x.vreg i.a l) (i.vecB x l)) ∧
  VectorForm .kShr 0x18 (fun _ => True) (fun i x l => noSat (shrForm i.fn (x.vreg i.a l) (i.vecB x l))) ∧
  VectorForm .kCvt 0x19 (fun i => i.fn < 5 ∨ i.fn = 9) (fun i x l => cvtForm i.fn i.imm (x.vreg i.a l) (i.vecB x l)) ∧
  VectorForm .kCvt 0x19 (fun i => i.fn = 5) (fun i x _ => noSat (x.sreg i.a)) ∧
  VectorForm .kCvt 0x19 (fun i => i.fn = 7) (fun i x l => noSat (x.sreg i.a + BitVec.ofNat 32 l * i.immW)) ∧
  VectorForm .kCvt 0x19 (fun i => i.fn = 8) (fun i _ _ => noSat i.immW) ∧
  VectorForm .kBlnd 0x58 (fun _ => True) (fun i x l => blndForm i.fn (x.vreg i.a l) (i.vecB x l) (x.vreg i.c l))

/-- Scalar arithmetic (R174, R176, R179-R183): the scalar opcodes of ADD, ADDS, MUL, MAC, MIN, MAX, CLMP, SHL, SHR and CVT, and
CVT.LANE, compute their form once into sD unless the guard is zero on every lane. -/
def Obligations.ScalarFormsComputeOneResult : Prop :=
  ScalarForm .kAdd 0x20 (fun i => i.fn < 6) (fun _ _ _ i x => noSat (addForm i.fn (x.sreg i.a) (i.scaB x))) ∧
  ScalarForm .kAdds 0x21 (fun _ => True) (fun _ _ _ i x => addsForm i.fn (x.sreg i.a) (i.scaB x)) ∧
  ScalarForm .kMul 0x22 (fun _ => True) (fun _ _ _ i x => mulForm i.fn i.c (x.sreg i.a) (i.scaB x)) ∧
  ScalarForm .kMac 0x23 (fun _ => True) (fun _ _ _ i x => macForm i.fn i.c (x.sreg i.a) (i.scaB x) (x.sreg i.d)) ∧
  ScalarForm .kMin 0x24 (fun _ => True) (fun _ _ _ i x => noSat (minForm i.fn (x.sreg i.a) (i.scaB x))) ∧
  ScalarForm .kMax 0x25 (fun _ => True) (fun _ _ _ i x => noSat (maxForm i.fn (x.sreg i.a) (i.scaB x))) ∧
  ScalarForm .kClmp 0x26 (fun _ => True) (fun _ _ _ i x => noSat (clmpForm i.fn (x.sreg i.a) (i.scaB x) (x.sreg i.c))) ∧
  ScalarForm .kShl 0x27 (fun _ => True) (fun _ _ _ i x => shlForm i.fn (x.sreg i.a) (i.scaB x)) ∧
  ScalarForm .kShr 0x28 (fun _ => True) (fun _ _ _ i x => noSat (shrForm i.fn (x.sreg i.a) (i.scaB x))) ∧
  ScalarForm .kCvt 0x29 (fun i => i.fn < 5 ∨ i.fn = 9) (fun _ _ _ i x => cvtForm i.fn i.imm (x.sreg i.a) (i.scaB x)) ∧
  ScalarForm .kCvt 0x29 (fun i => i.fn = 8) (fun _ _ _ i _ => noSat i.immW) ∧
  ScalarForm .kCvt 0x19 (fun i => i.fn = 6) (fun _ _ _ i x => noSat (x.vreg i.a (i.imm % 16))) ∧
  ScalarForm .kCvt 0x29 (fun i => i.fn = 10) (fun s e t i _ => noSat (BitVec.ofNat 32 (s.sysValue e t i.imm)))

/-- Predicates (R174, R179): the compares and the predicate forms of ADD write, on each enabled lane of pD, the condition of
that lane; a scalar compare writes its condition to all 16 bits, unless the guard is zero; writes to p0 have no effect. -/
def Obligations.PredicateFormsWriteEachEnabledLane : Prop :=
  ∀ (s : State) (e t : Nat) (i : KIns), s.Issues e t i →
    let x := s.slot e t
    let m := i.mask x
    (∀ c : Nat → Bool, (i.op = 0x10 ∧ isPred i.fn = true ∧
          (∀ l, l < 16 → c l = (predForm i.fn i.x2 (x.preg i.a) (x.preg i.b)).getLsbD l)) ∨
        (i.op = 0x10 ∧ 8 ≤ i.fn ∧ i.fn ≤ 13 ∧ ∀ l, l < 16 → c l = cmpForm i.fn (x.vreg i.a l) (i.vecB x l)) ∨
        (i.op = 0x20 ∧ 8 ≤ i.fn ∧ i.fn ≤ 13 ∧ m = 0xFFFF#16 ∧ ∀ l, l < 16 → c l = cmpForm i.fn (x.sreg i.a) (i.scaB x)) →
      ∃ r y, exec (.kAdd e t) s = .next r ∧ SlotResult s r e t y [] ∧ SameMemory s r ∧
        (i.d ≠ 0 → ∀ l, l < 16 → (y.preg i.d).getLsbD l = if laneOn m l then c l else (x.preg i.d).getLsbD l) ∧
        (∀ n, n ≠ i.d ∨ i.d = 0 → y.preg n = x.preg n) ∧ y = { x.unyielded t with p := y.p }) ∧
    (i.op = 0x20 → 8 ≤ i.fn → i.fn ≤ 13 → m = 0 →
      ∃ r, exec (.kAdd e t) s = .next r ∧ SlotResult s r e t (x.unyielded t) [] ∧ SameMemory s r) ∧
    (i.op = 0x20 → 8 ≤ i.fn → i.fn ≤ 13 → m ≠ 0 → ∃ r, exec (.kAdd e t) s = .next r ∧ SameMemory s r ∧
      SlotResult s r e t ((x.unyielded t).setP i.d (if cmpForm i.fn (x.sreg i.a) (i.scaB x) then 0xFFFF else 0)) [])

/-- The arithmetic forms themselves (R180-R182, R193): a form of ADDS takes the nearest bound of its range and says so just
when the exact result lies outside it; the shifted products of MUL and MAC are the rounded shift of the exact product,
bounded; a lower bound above an upper one clamps to the upper; BLND.OVER with alpha 65,535 is the foreground and with alpha 0
the background, and BLND.MUL of two values of 65,535 is 65,535. -/
def Obligations.ArithmeticFormsKeepTheirRules : Prop :=
  (∀ a b : Word,
    ((addsForm 0 a b).1.toInt = max (-2 ^ 31) (min (2 ^ 31 - 1) (a.toInt + b.toInt)) ∧
      ((addsForm 0 a b).2 = true ↔ a.toInt + b.toInt < -2 ^ 31 ∨ 2 ^ 31 - 1 < a.toInt + b.toInt)) ∧
    ((addsForm 1 a b).1.toInt = max (-2 ^ 31) (min (2 ^ 31 - 1) (a.toInt - b.toInt)) ∧
      ((addsForm 1 a b).2 = true ↔ a.toInt - b.toInt < -2 ^ 31 ∨ 2 ^ 31 - 1 < a.toInt - b.toInt)) ∧
    ((addsForm 2 a b).1.toNat = min (2 ^ 32 - 1) (a.toNat + b.toNat) ∧
      ((addsForm 2 a b).2 = true ↔ 2 ^ 32 - 1 < a.toNat + b.toNat)) ∧
    ((addsForm 3 a b).1.toNat = a.toNat - b.toNat ∧ ((addsForm 3 a b).2 = true ↔ a.toNat < b.toNat)) ∧
    (((addsForm 4 a b).1.toNat : Int) = max 0 (min 65535 (a.toInt + b.toInt)) ∧
      ((addsForm 4 a b).2 = true ↔ a.toInt + b.toInt < 0 ∨ 65535 < a.toInt + b.toInt)) ∧
    (((addsForm 5 a b).1.toNat : Int) = max 0 (min 65535 (a.toInt - b.toInt)) ∧
      ((addsForm 5 a b).2 = true ↔ a.toInt - b.toInt < 0 ∨ 65535 < a.toInt - b.toInt))) ∧
  (∀ (a b d : Word) (n : Nat), 0 < n → n < 32 →
    (mulForm 3 n a b).1.toInt = max (-2 ^ 31) (min (2 ^ 31 - 1) ((a.toInt * b.toInt + 2 ^ (n - 1)) / 2 ^ n)) ∧
    (mulForm 4 n a b).1.toNat = min (2 ^ 32 - 1) ((a.toNat * b.toNat + 2 ^ (n - 1)) / 2 ^ n) ∧
    (macForm 0 n a b d).1.toInt =
      max (-2 ^ 31) (min (2 ^ 31 - 1) (d.toInt + (a.toInt * b.toInt + 2 ^ (n - 1)) / 2 ^ n)) ∧
    (macForm 1 n a b d).1.toNat = min (2 ^ 32 - 1) (d.toNat + (a.toNat * b.toNat + 2 ^ (n - 1)) / 2 ^ n)) ∧
  (∀ a b c : Word, (c.toInt ≤ b.toInt → clmpForm 0 a b c = c) ∧ (c.toNat ≤ b.toNat → clmpForm 1 a b c = c)) ∧
  (∀ a b : Word, a.toNat ≤ 65535 → b.toNat ≤ 65535 →
    blndForm 0 a b 65535 = (a, false) ∧ blndForm 0 a b 0 = (b, false) ∧ blndForm 3 65535 65535 0 = (65535, false))

/-- The local store (R153, R184, R185): an access no enabled lane of which faults loads each enabled lane's word, or stores
it, the higher lane's where two name one word, and no byte outside the words named; one that faults does nothing but
stop the thread with the cause of the lowest lane that does. -/
def Obligations.LoadsAndStoresReachTheNamedWords : Prop :=
  ∀ (s : State) (e t : Nat) (i : KIns), s.Issues e t i →
    let x := s.slot e t
    let la := i.lsLanes x
    (i.op = 0x30 → (∀ p ∈ la, s.lsFault e p.2 false = none) → ∃ r y, exec (.kLd e t) s = .next r ∧ SameMemory s r ∧
      SlotResult s r e t y [ENG_LSCONF e, ENG_LSCONF e + 4] ∧
      (i.fn = 0 → (∀ n, y.sreg n = if n = i.d ∧ la ≠ [] then s.word (lsAddr e (x.sreg i.a + i.immW).toNat) else x.sreg n) ∧
        y = { x.unyielded t with s := y.s }) ∧
      (i.fn ≠ 0 → (∀ p ∈ la, y.vreg i.d p.1 = s.word (lsAddr e p.2)) ∧
        (∀ n l, l < 16 → n ≠ i.d ∨ laneOn (i.mask x) l = false → y.vreg n l = x.vreg n l) ∧
        y = { x.unyielded t with v := y.v })) ∧
    (i.op = 0x31 → (∀ p ∈ la, s.lsFault e p.2 true = none) → ∃ r, exec (.kSt e t) s = .next r ∧
      SlotResult s r e t (x.unyielded t) [ENG_LSCONF e, ENG_LSCONF e + 4] ∧
      (∀ a, (∀ p ∈ la, a < lsAddr e p.2 ∨ lsAddr e p.2 + 4 ≤ a) → r.byte a = s.byte a) ∧
      (∀ p ∈ la, (∀ q ∈ la, lsAddr e q.2 = lsAddr e p.2 → q.1 ≤ p.1) →
        r.word (lsAddr e p.2) = if i.fn = 0 then x.sreg i.d else x.vreg i.d p.1)) ∧
    (∀ c, (i.op = 0x30 → la.findSome? (fun p => s.lsFault e p.2 false) = some c →
        exec (.kLd e t) s = .next ((s.issued e t).threadFault e t c (s.kword e x.pc)).settle) ∧
      (i.op = 0x31 → la.findSome? (fun p => s.lsFault e p.2 true) = some c →
        exec (.kSt e t) s = .next ((s.issued e t).threadFault e t c (s.kword e x.pc)).settle))

/-- Flumes (R186, R187, R196): of a context bound to the thread, PULL takes the oldest entry and PUSH appends one, or waits, or
with X1 answers in a predicate; RELO gives the flume manager an entry under its tag, and waits only for a place; another
context faults with 0x6; a waiting thread that can complete does, with its trace entry. A guard of zero does nothing. -/
def Obligations.FlumeInstructionsAct : Prop :=
  ∀ (s : State) (e t : Nat),
    (∀ i : KIns, s.Issues e t i →
      let b := s.issued e t
      let x := b.slot e t
      let c := (x.sreg i.a).toNat
      let f := c * 16 + i.imm
      (i.mask x = 0 → (i.op = 0x40 → exec (.kPull e t) s = .next (b.past b e t).settle) ∧
        (i.op = 0x41 → exec (.kPush e t) s = .next (b.past b e t).settle) ∧
        (i.op = 0x62 → exec (.kRelo e t) s = .next (b.past b e t).settle)) ∧
      (i.mask x ≠ 0 → b.ctxBound e t c = false →
        let r := (b.threadFault e t 6 (s.kword e x.pc)).settle
        (i.op = 0x40 → exec (.kPull e t) s = .next r) ∧ (i.op = 0x41 → exec (.kPush e t) s = .next r) ∧
        (i.op = 0x62 → exec (.kRelo e t) s = .next r)) ∧
      (i.mask x ≠ 0 → b.ctxBound e t c = true →
        (i.op = 0x40 → b.pullOk f = true → i.x1 = 0 → exec (.kPull e t) s = .next (b.past (b.pullInto e t f i.d) e t).settle) ∧
        (i.op = 0x40 → b.pullOk f = true → i.x1 = 1 →
          exec (.kPull e t) s = .next (b.past ((b.pullInto e t f i.d).setOutcome e t i.b true) e t).settle) ∧
        (i.op = 0x40 → b.pullOk f = false → i.x1 = 0 →
          exec (.kPull e t) s = .next (b.waits e t .flumewait (.pull f i.d)).settle) ∧
        (i.op = 0x40 → b.pullOk f = false → i.x1 = 1 →
          exec (.kPull e t) s = .next (b.past (b.setOutcome e t i.b false) e t).settle) ∧
        (i.op = 0x41 → b.flumeFull f = false →
          let r := b.pushFrom e t f (x.sreg i.d) (x.sreg (i.d + 1)) (x.sreg (i.d + 2)) (x.sreg (i.d + 3))
          exec (.kPush e t) s = .next (b.past (if i.x1 = 1 then r.setOutcome e t i.b true else r) e t).settle) ∧
        (i.op = 0x41 → b.flumeFull f = true → i.x1 = 0 → exec (.kPush e t) s = .next (b.waits e t .flumewait (.push f
          (x.sreg i.d) (x.sreg (i.d + 1)) (x.sreg (i.d + 2)) (x.sreg (i.d + 3)))).settle) ∧
        (i.op = 0x41 → b.flumeFull f = true → i.x1 = 1 →
          exec (.kPush e t) s = .next (b.past (b.setOutcome e t i.b false) e t).settle) ∧
        (i.op = 0x62 →
          let pred := if i.x1 = 1 then some i.c else none
          (b.flumeFull f = false → exec (.kRelo e t) s = .next (b.past (b.reloFrom e t f (x.sreg i.d)
            (x.sreg (i.d + 1)) (x.sreg (i.d + 2)) (x.sreg (i.d + 3)) (x.sreg i.b) pred) e t).settle) ∧
          (b.flumeFull f = true → exec (.kRelo e t) s = .next (b.waits e t .flumewait (.relo f (x.sreg i.d)
            (x.sreg (i.d + 1)) (x.sreg (i.d + 2)) (x.sreg (i.d + 3)) (x.sreg i.b) pred)).settle)))) ∧
    (s.ready = true → (s.slot e t).st = .flumewait → s.flumeReady e t = true → ∀ f,
      (∀ d, (s.slot e t).blk = some (.pull f d) →
        let r := (s.pullInto e t f d).trace 0x11 3 (s.slot e t).thr e t f
        exec (.flumewaitRelease e t) s = .next (r.setSlot e t (r.slot e t).released).settle) ∧
      (∀ w0 w1 w2 w3, (s.slot e t).blk = some (.push f w0 w1 w2 w3) →
        let r := (s.pushFrom e t f w0 w1 w2 w3).trace 0x11 3 (s.slot e t).thr e t f
        exec (.flumewaitRelease e t) s = .next (r.setSlot e t (r.slot e t).released).settle) ∧
      (∀ w0 w1 w2 w3 g q, (s.slot e t).blk = some (.relo f w0 w1 w2 w3 g q) →
        let r := (s.reloFrom e t f w0 w1 w2 w3 g q).trace 0x11 3 (s.slot e t).thr e t f
        exec (.flumewaitRelease e t) s = .next (r.setSlot e t (r.slot e t).released).settle))

/-- Samplers and events (R147, R159, R188-R195): LUT3, SCLV and SCLH put a request in their crew's queue when the thread has
fewer than two outstanding, and wait when it has two; SCLV.OPEN, and a RUN whose lines are missing, wait as well;
SCLV.OPEN reads its descriptor at issue. WAITF takes the flags of its mask or waits; SIGF sets flags of a thread; a WAITF
whose flags have come completes; a sampler returns the result at the front of its queue. -/
def Obligations.SamplerAndEventInstructionsAct : Prop :=
  ∀ (s : State) (e t : Nat),
    (∀ i : KIns, s.Issues e t i →
      let b := s.issued e t
      let x := b.slot e t
      let m := i.mask x
      let desc := fun j : Nat => (x.sreg i.a + i.immW + BitVec.ofNat 32 (4 * j)).toNat
      (m = 0 → (i.op = 0x50 → exec (.kLut3 e t) s = .next (b.past b e t).settle) ∧
        (i.op = 0x51 → i.fn = 0 → exec (.kSclvOpen e t) s = .next (b.past b e t).settle) ∧
        (i.op = 0x51 → i.fn = 1 → exec (.kSclvRun e t) s = .next (b.past b e t).settle) ∧
        (i.op = 0x51 → i.fn = 2 → exec (.kSclvClose e t) s = .next (b.past b e t).settle) ∧
        (i.op = 0x52 → exec (.kSclh e t) s = .next (b.past b e t).settle) ∧
        (i.op = 0x60 → exec (.kWaitf e t) s = .next (b.past b e t).settle) ∧
        (i.op = 0x61 → exec (.kSigf e t) s = .next (b.past b e t).settle)) ∧
      (m ≠ 0 →
      (∀ k c a, (i.op = 0x51 ∧ i.fn = 1 ∧ k = .srun (x.sreg i.a) ∧ c = .kSclvRun e t ∧ a = b) ∨
          (i.op = 0x51 ∧ i.fn = 2 ∧ k = .sclose ∧ c = .kSclvClose e t ∧ a = b) ∨
          (i.op = 0x52 ∧ k = .sclh (x.sreg i.a) i.d m ∧ c = .kSclh e t ∧ a = b) ∨
          (∃ n, i.op = 0x50 ∧ n = (if i.x1 = 1 then (x.sreg i.b).toNat else i.imm) ∧ c = .kLut3 e t ∧
            a = (if lutClips x i.a m then (b.setSlot e t { x with sat := true }).bump (ENG_SATCNT e) else b) ∧
            k = .lut ((List.range 16).map (x.vreg i.a)) ((List.range 16).map (x.vreg (i.a + 1)))
              ((List.range 16).map (x.vreg (i.a + 2))) i.d m (nbits n 0 2) (nbits n 2 3) (nbits n 5 1 = 1)) ∨
          (∃ d, i.op = 0x51 ∧ i.fn = 0 ∧ k = .sopen d ∧ c = .kSclvOpen e t ∧ a = b ∧
            (∀ j, j < 8 → b.lsFault e (desc j) false = none) ∧
            passDesc (fun j => (b.word (lsAddr e (desc j))).toNat) = some d) →
        (2 ≤ a.smpOut e t → exec c s = .next (a.waits e t .smpwait (.third k)).settle) ∧
        (a.smpOut e t < 2 →
          let q := a.enqueue e t k
          let r := q.setCrew (e / 8) (q.crew (e / 8)).settle
          exec c s = .next (if a.holdsThread e t k then r.waits e t .smpwait .sampler else b.past r e t).settle)) ∧
      (i.op = 0x51 → i.fn = 0 →
        (∀ c, (List.range 8).findSome? (fun j => b.lsFault e (desc j) false) = some c →
          exec (.kSclvOpen e t) s = .next (b.threadFault e t c (s.kword e x.pc)).settle) ∧
        ((∀ j, j < 8 → b.lsFault e (desc j) false = none) →
          passDesc (fun j => (b.word (lsAddr e (desc j))).toNat) = none →
          exec (.kSclvOpen e t) s = .next (b.threadFault e t 1 (s.kword e x.pc)).settle)) ∧
      (i.op = 0x60 →
        let th := b.thread x.thr
        let w := x.sreg i.a
        let rel := waitRelease (i.fn = 1) th.flags w
        (rel = true ∨ i.x2 = 1 →
          exec (.kWaitf e t) s = .next (b.past (b.waitDone e t w (rel && i.x1 = 1) i.d) e t).settle) ∧
        (rel = false → i.x2 = 0 → exec (.kWaitf e t) s = .next (((b.setThread x.thr { th with
            waiting := true, waitall := i.fn = 1, mask := w }).waits e t .evwait (.waitf w (i.fn = 1) (i.x1 = 1) i.d))).settle)) ∧
      (i.op = 0x61 → exec (.kSigf e t) s = .next (b.past (b.signal (x.sreg i.a).toNat (x.sreg i.b)) e t).settle))) ∧
    (∀ m al clr d, s.ready = true → (s.slot e t).st = .evwait → (s.slot e t).blk = some (.waitf m al clr d) →
      waitRelease al (s.thread (s.slot e t).thr).flags m = true →
      let a := s.trace 0x12 3 (s.slot e t).thr e t ((s.thread (s.slot e t).thr).flags &&& m).toNat
      let r := a.waitDone e t m clr d
      exec (.evwaitRelease e t) s = .next (r.setSlot e t (r.slot e t).released).settle) ∧
    (∀ c lut, s.ready = true → s.crewOn c = true →
      exec (.samplerReturn c lut) s = .next (s.samplerReturn c lut).settle)

/-- Control and stops (R149, R173, R178, R198-R202, R207): BR goes to a target in the code region or, when not taken, to the
next instruction, clearing SAT if asked; JMP links and goes; YLD waits for the other READY threads of its priority or above;
HALT ends the thread. A fetch past the code region faults with 0x5, an illegal word with 0x1 whatever the guard,
and neither has another effect; a killed thread ends at its next issue. -/
def Obligations.ControlInstructionsAndStops : Prop :=
  ∀ (s : State) (e t : Nat),
    (∀ i : KIns, s.Issues e t i →
      let b := s.issued e t
      let x := b.slot e t
      let m := i.mask x
      (i.op = 0x70 →
        let taken := (i.fn = 0 ∧ m ≠ 0) ∨ (i.fn = 1 ∧ m = 0xFFFF#16) ∨ (i.fn = 2 ∧ x.sat = true) ∨ (i.fn = 3 ∧ x.sat = false)
        let r := if i.x1 = 1 then b.setSlot e t { x with sat := false } else b
        let target : Int := x.pc + i.simm * 8
        (¬ taken → exec (.kBr e t) s = .next (b.past r e t).settle) ∧
        (taken → 0 ≤ target → target % 8 = 0 → target < s.codeBytes e →
          exec (.kBr e t) s = .next (r.setSlot e t { r.slot e t with pc := target.toNat }).settle) ∧
        (taken → target < 0 ∨ (s.codeBytes e : Int) ≤ target →
          exec (.kBr e t) s = .next (b.threadFault e t 5 (s.kword e x.pc)).settle)) ∧
      (m = 0 → (i.op = 0x71 → exec (.kJmp e t) s = .next (b.past b e t).settle) ∧
        (i.op = 0x7E → exec (.kYld e t) s = .next (b.past b e t).settle) ∧
        (i.op = 0x7F → exec (.kHalt e t) s = .next (b.past b e t).settle)) ∧
      (i.op = 0x71 → m ≠ 0 →
        let target := (x.sreg i.a + i.immW).toNat
        let r := if i.x1 = 1 then b.setSlot e t (x.setS i.d (BitVec.ofNat 32 (x.pc + 8))) else b
        (target % 8 = 0 → target < s.codeBytes e →
          exec (.kJmp e t) s = .next (r.setSlot e t { r.slot e t with pc := target }).settle) ∧
        (target % 8 ≠ 0 ∨ s.codeBytes e ≤ target →
          exec (.kJmp e t) s = .next (b.threadFault e t 5 (s.kword e x.pc)).settle)) ∧
      (i.op = 0x7E → m ≠ 0 → exec (.kYld e t) s = .next (b.past (b.setSlot e t { x with
        yld := (List.range 8).filter fun u => u ≠ t && (b.slot e u).st = .ready && !b.held e u &&
          decide ((b.thread x.thr).prio ≤ (b.thread (b.slot e u).thr).prio) }) e t).settle) ∧
      (i.op = 0x7F → m ≠ 0 → exec (.kHalt e t) s = .next ((b.trace 0x03 0 x.thr e t x.pc).endSlot e t).settle)) ∧
    (s.engIssues e = true → s.pick e = some t →
      ((s.slot e t).killed = true → exec (.kHalt e t) s =
        .next (((s.issued e t).trace 0x03 0 (s.slot e t).thr e t (s.slot e t).pc).endSlot e t).settle) ∧
      (∀ c : Nat → Nat → Instr, c ∈ [.kAdd, .kAdds, .kMul, .kMac, .kMin, .kMax, .kClmp, .kShl, .kShr, .kCvt, .kLd, .kSt, .kPull,
          .kPush, .kLut3, .kSclvOpen, .kSclvRun, .kSclvClose, .kSclh, .kBlnd, .kWaitf, .kSigf, .kRelo, .kBr, .kJmp, .kYld, .kHalt] →
        ((s.slot e t).killed = false → s.codeBytes e < (s.slot e t).pc + 8 →
          exec (c e t) s = .next ((s.issued e t).threadFault e t 5 0).settle) ∧
        ((s.slot e t).killed = false → (s.slot e t).pc + 8 ≤ s.codeBytes e →
          kLegal (kdecode (s.kword e (s.slot e t).pc)) = false →
          exec (c e t) s = .next ((s.issued e t).threadFault e t 1 (s.kword e (s.slot e t).pc)).settle)))

/-! ### Engines, lattices, threads -/

/-- Engine commands (R150, R152, R170) on a powered crew whose command register is free: STOP waits until nothing is in flight
and then leaves every slot STOPPED; RESUME and STEP need a stopped engine and CLEAR a slot in FAULT; GATE needs every
slot free; UNGATE of an engine that is not gated is done at once; a pace window becomes its crew's pace. -/
def Obligations.EngineCommandsAct : Prop :=
  ∀ (s : State) (e : Nat), s.running = true → e < 64 → s.crewOn (e / 8) = true →
    (s.busy (ENG_CMD e) = false →
      (∀ a, a = s.accepted (ENG_CMD e) 1 → exec (.stopEngine e) s =
        .next (a.setStat (ENG_CMD e) (if a.bit (ENG_STAT_STOPPED e) then stDONE else stBUSY)).settle) ∧
      (∀ a, a = s.accepted (ENG_CMD e) 2 →
        (a.bit (ENG_STAT_STOPPED e) = false → exec (.resumeEngine e) s = .next (a.setStat (ENG_CMD e) stREFUSED).settle) ∧
        (a.bit (ENG_STAT_STOPPED e) = true → exec (.resumeEngine e) s = .next (((List.range 8).foldl
          (fun (x : State) t => x.resumeSlot e t) (a.set (ENG_STAT_STOPPED e) 0)).setStat (ENG_CMD e) stDONE).settle)) ∧
      (∀ t a, t < 8 → a = s.accepted (ENG_CMD e) (3 + 16 * t) →
        (a.bit (ENG_STAT_STOPPED e) = false → exec (.stepEngine e t) s = .next (a.setStat (ENG_CMD e) stREFUSED).settle) ∧
        (∀ b y, a.bit (ENG_STAT_STOPPED e) = true → (a.slot e t).st = .stopped → (a.slot e t).prior = .ready →
          (a.slot e t).killed = false → a.held e t = false →
          b = (a.setSlot e t { a.slot e t with st := .ready, prior := .free, yld := [] }).issueAny e t → y = b.slot e t →
          exec (.stepEngine e t) s = .next ((if y.st = .free then b else
            b.setSlot e t { y with st := .stopped, prior := y.st }).setStat (ENG_CMD e) stDONE).settle)) ∧
      (∀ t a, t < 8 → a = s.accepted (ENG_CMD e) (4 + 16 * t) →
        ((a.slot e t).st = .fault → exec (.clearSlot e t) s = .next ((a.endSlot e t).setStat (ENG_CMD e) stDONE).settle) ∧
        ((a.slot e t).st ≠ .fault → exec (.clearSlot e t) s = .next (a.setStat (ENG_CMD e) stREFUSED).settle)) ∧
      (∀ a, a = s.accepted (ENG_CMD e) 5 →
        (a.resident e ≠ [] → exec (.engGate e) s = .next (a.setStat (ENG_CMD e) stREFUSED).settle) ∧
        (a.resident e = [] → (a.set (ENG_STAT_GATED e) 1).crewGated (e / 8) = false →
          exec (.engGate e) s = .next ((a.set (ENG_STAT_GATED e) 1).setStat (ENG_CMD e) stDONE).settle)) ∧
      (∀ a, a = s.accepted (ENG_CMD e) 6 →
        (a.bit (ENG_STAT_GATED e) = false → exec (.engUngate e) s = .next (a.setStat (ENG_CMD e) stDONE).settle) ∧
        (a.bit (ENG_STAT_GATED e) = true → a.ready = true → a.crewGated (e / 8) = false → exec (.engUngate e) s =
          .next (((a.set (ENG_STAT_GATED e) 0).takeCode e).setStat (ENG_CMD e) stDONE).settle))) ∧
    (s.stopping e = true → s.engRequests e = 0 → exec (.engineStopDrained e) s =
      .next ((((List.range 8).foldl (fun (x : State) t => x.setSlot e t (x.slot e t).stop) s).set (ENG_STAT_STOPPED e) 1).setStat
        (ENG_CMD e) stDONE).settle) ∧
    (∀ n b, s.crewGated (e / 8) = false → n < 2 ^ 16 → (s.crew (e / 8)).paceWin ≤ s.now →
      b = (s.set (CMP_CREW_PACE_PACE (e / 8)) n).set (CMP_CREW_PACE_VALID (e / 8)) 1 →
      exec (.paceWindow (e / 8) n) s =
        .next ((b.setCrew (e / 8) { b.crew (e / 8) with paceWin := b.now + 1000000 }).paceRefresh).settle)

/-- Lattices (R161): a command of sub-index 7, on a locked slot, or of a 33-cubed lattice with a sub-index is refused; an
accepted LOAD makes its position read as not loaded until the copy completes, when all its bytes stand and it reads as
loaded; UNLOAD makes it read as not loaded, MARK as loaded. -/
def Obligations.LatticeCommandsAct : Prop :=
  ∀ (s : State) (c k u : Nat), s.running = true → s.crewOn c = true → k < 4 → u < 8 →
    (s.busy (CMP_CREW_LUTCMD c) = false →
      (∀ z a, z < 2 → a = s.accepted (CMP_CREW_LUTCMD c) (lutWord 1 k u z) →
        (u = 7 ∨ a.bit (CMP_CREW_LUTSLOT_LOCK c k) = true ∨ (z = 1 ∧ u ≠ 0) →
          exec (.lutLoad c k u z) s = .next (a.setStat (CMP_CREW_LUTCMD c) stREFUSED).settle) ∧
        (a.lutRefused c k u z true = false → a.dramUp = true →
          pageOff (a.rd (CMP_CREW_LUTSRC c)) + latticeBytes (z = 1) ≤ a.dramBytes → exec (.lutLoad c k u z) s =
          .next (((a.setLoaded c k u false).setCrew c { a.crew c with loading := some (k, u, z) }).setStat
            (CMP_CREW_LUTCMD c) stBUSY).settle)) ∧
      (∀ z a, z < 2 → a = s.accepted (CMP_CREW_LUTCMD c) (lutWord 3 k u z) → a.lutRefused c k u z true = false →
        exec (.lutMark c k u z) s = .next (((a.set (CMP_CREW_LUTSLOT_SIZE c k) z).setLoaded c k u true).setStat
          (CMP_CREW_LUTCMD c) stDONE).settle) ∧
      (∀ a, a = s.accepted (CMP_CREW_LUTCMD c) (lutWord 2 k u 0) → a.lutRefused c k u 0 false = false →
        exec (.lutUnload c k u) s = .next ((a.setLoaded c k u false).setStat (CMP_CREW_LUTCMD c) stDONE).settle)) ∧
    (∀ z l d b, (s.crew c).loading = some (k, u, z) →
      s.dramRead (pageOff (s.rd (CMP_CREW_LUTSRC c))) (latticeBytes (z = 1)) = (l, d) →
      b = ((d.putBytes (latticeBase c k u) l).set (CMP_CREW_LUTSLOT_SIZE c k) z).setLoaded c k u true →
      exec (.lutLoadDone c) s =
        .next ((b.setCrew c { b.crew c with loading := none }).setStat (CMP_CREW_LUTCMD c) stDONE).settle)

/-- Threads (R206-R213): SPAWN gives the new thread's number or the reason it is refused; KILL and SETPRIO need a thread that is
not the kernel's, and SIGNAL sets flags of any thread or counts the loss; a placement takes the best thread into the lowest open
slot of its best engine, its program counter at its entry, s0 and s1 as spawned, and nothing else in its registers. -/
def Obligations.ThreadCommandsAct : Prop :=
  ∀ s : State, s.running = true →
    (s.busy TDP_CMD = false →
      (∀ a n q b, a = s.accepted TDP_CMD 1 → a.spawn (a.get TDP_ARG0_ENTRY) (a.get TDP_ARG0_PRIO) (a.get TDP_ARG0_AFFIN)
          (a.get TDP_ARG1_CTX) (a.get TDP_ARG1_NCTX + 1) (a.rd TDP_ARG2) (a.rd TDP_ARG3) false = ((some n, q), b) →
        exec .thrSpawn s = .next (((b.set TDP_RES_THREAD n).set TDP_RES_REASON 0).setStat TDP_CMD stDONE).settle) ∧
      (∀ a q b, a = s.accepted TDP_CMD 1 → a.spawn (a.get TDP_ARG0_ENTRY) (a.get TDP_ARG0_PRIO) (a.get TDP_ARG0_AFFIN)
          (a.get TDP_ARG1_CTX) (a.get TDP_ARG1_NCTX + 1) (a.rd TDP_ARG2) (a.rd TDP_ARG3) false = ((none, q), b) →
        exec .thrSpawn s = .next ((b.set TDP_RES_REASON q).setStat TDP_CMD stREFUSED).settle) ∧
      (∀ n, n < 1024 →
        (∀ a, a = s.accepted TDP_CMD (2 + 2 ^ 4 * n) →
          ((a.thread n).st = .free ∨ (a.thread n).st = .kernel →
            exec (.thrKill n) s = .next (a.setStat TDP_CMD stREFUSED).settle) ∧
          ((a.thread n).st ≠ .free → (a.thread n).st ≠ .kernel →
            exec (.thrKill n) s = .next ((a.setStat TDP_CMD stBUSY).killThread n).settle)) ∧
        (∀ a, a = s.accepted TDP_CMD (3 + 2 ^ 4 * n) →
          exec (.thrSignal n) s = .next ((a.signal n (a.rd TDP_ARG2)).setStat TDP_CMD stDONE).settle) ∧
        (∀ p a, p < 32 → a = s.accepted TDP_CMD (4 + 2 ^ 4 * n + 2 ^ 14 * p) →
          ((a.thread n).st = .placed →
            exec (.thrSetprio n p) s = .next ((a.setThread n { a.thread n with prio := p }).setStat TDP_CMD stDONE).settle) ∧
          (∀ b, (a.thread n).st = .unplaced → b = a.setThread n { a.thread n with prio := p } →
            exec (.thrSetprio n p) s = .next (({ b with eng := { b.eng with
              ready := b.eng.ready.filter (fun u => u ≠ n) ++ [n] } } : State).setStat TDP_CMD stDONE).settle)))) ∧
    (∀ n e t, s.ready = true → s.bestThread = some n → s.bestEngine (s.thread n).affin = some e →
      (List.range 8).find? (fun t => s.slotOpen e t) = some t →
      exec .threadPlace s = .next (s.placeIn n e t).settle ∧
      ((s.placeIn n e t).slot e t).pc = (s.thread n).entry ∧ ((s.placeIn n e t).slot e t).st = .ready ∧
      ((s.placeIn n e t).slot e t).sreg 0 = (s.thread n).s0 ∧
      ((s.placeIn n e t).slot e t).sreg 1 = BitVec.ofNat 32 (s.thread n).ctx ∧
      (∀ r, 2 ≤ r → ((s.placeIn n e t).slot e t).sreg r = 0) ∧ ((s.placeIn n e t).thread n).st = .placed ∧
      n ∉ (s.placeIn n e t).eng.ready)

/-! ### Contexts, flumes, order groups, fetch and OUT, trace, programs -/

/-- Flume-manager commands (R216-R232, R236, R546): what the host may not use is refused with STATE; firmware's CTXALLOC
binds the lowest free context, CTXFREE starts the drain, which ends when its flumes hold nothing; SETDEPTH needs an empty
flume nobody waits on, FLM_PUSH room; GOPEN an unused group number, GCLOSE and GSKIP an open one. -/
def Obligations.FlumeCommandsAct : Prop :=
  ∀ s : State, s.running = true →
    (s.busy FLM_CMD = false → ∀ src : Src,
      (∀ a, a = s.accepted FLM_CMD 1 →
        exec (.ctxalloc .host) s = .next (a.flmRefuse fSTATE).settle ∧
        (∀ c q b, src ≠ .host → a.ctxAlloc (getBits (a.rd (FLM_ARG 0)) 0 16) (getBits (a.rd (FLM_ARG 0)) 16 4)
            (getBits (a.rd (FLM_ARG 0)) 20 3) (getBits (a.rd (FLM_ARG 0)) 23 1) (getBits (a.rd (FLM_ARG 0)) 24 1) = ((some c, q), b) →
          exec (.ctxalloc src) s = .next (b.flmDone c).settle)) ∧
      (∀ a c, a = s.accepted FLM_CMD 2 → c = a.get FLM_SEL_SEL → src ≠ .host → c < a.ctxCount → a.get (CTX_STATE c) = cBOUND →
        exec (.ctxfree src) s = .next (((a.set (CTX_STATE c) cDRAINING).trace0 0x19 4 c).flmDone c).settle) ∧
      (∀ d a f, d ≤ 16 → a = s.accepted FLM_CMD (3 + 2 ^ 4 * d) → f = a.get FLM_SEL_SEL → (src ≠ .host ∨ 12 ≤ f % 16) →
        f / 16 < a.ctxCount → a.get (CTX_STATE (f / 16)) ≠ cFREE →
        (a.flumeLen f = 0 → a.flumeWaiter f = false →
          (d < 2 → exec (.setdepth src d) s =
            .next (((a.freeOwner (.flume f)).set (CTX_DEPTH (f / 16) (f % 16)) d).flmDone f).settle) ∧
          (∀ o b, 2 ≤ d → (a.freeOwner (.flume f)).allocCrew (a.get (CTX_CREW (f / 16))) (2 ^ d * 16) (.flume f) = some (o, b) →
            exec (.setdepth src d) s = .next ((b.set (CTX_DEPTH (f / 16) (f % 16)) d).flmDone f).settle)) ∧
        (a.flumeLen f ≠ 0 ∨ a.flumeWaiter f = true → exec (.setdepth src d) s = .next (a.flmRefuse fBUSY).settle)) ∧
      (∀ a f, a = s.accepted FLM_CMD 4 → f = a.get FLM_SEL_SEL → (src ≠ .host ∨ 11 ≤ f % 16) → f / 16 < a.ctxCount →
        a.get (CTX_STATE (f / 16)) ≠ cFREE →
        (a.flumeFull f = true → exec (.flmPush src) s = .next (a.flmRefuse fFULL).settle) ∧
        (a.flumeFull f = false → exec (.flmPush src) s = .next ((a.pushVis f ⟨a.rd (FLM_ARG 0), a.rd (FLM_ARG 1),
          a.rd (FLM_ARG 2), a.rd (FLM_ARG 3), 0x3FF, 0, 0, 0, 0⟩).flmDone f).settle)) ∧
      (∀ w a g, w < 256 → a = s.accepted FLM_CMD (5 + 2 ^ 9 * w) → g = a.get FLM_SEL_SEL → src ≠ .host → g < 4096 →
        a.eng.groups.length ≠ 4096 →
        (a.group g = none → exec (.gopen src w) s =
          .next (((a.setGroup g ⟨w + 1, getBits (a.rd (FLM_ARG 0)) 0 16, []⟩).trace0 0x1A 4 g).flmDone g).settle) ∧
        (a.group g ≠ none → exec (.gopen src w) s = .next (a.flmRefuse fBUSY).settle)) ∧
      (∀ a g, a = s.accepted FLM_CMD 6 → g = a.get FLM_SEL_SEL → src ≠ .host → g < 4096 →
        (a.group g = none → exec (.gclose src) s = .next (a.flmRefuse fSTATE).settle) ∧
        (a.group g ≠ none → exec (.gclose src) s = .next ((a.closeGroup g).flmDone g).settle)) ∧
      (∀ a g q x, a = s.accepted FLM_CMD 7 → g = a.get FLM_SEL_SEL → g < 4096 → q = getBits (a.rd (FLM_ARG 0)) 0 16 →
        a.group g = some x →
        (inWindow x q = false ∨ usedSeq x q = true → exec (.gskip src) s = .next (a.flmRefuse fBADARG).settle) ∧
        (∀ y, inWindow x q = true → usedSeq x q = false → (a.skipSeq g q).group g = some y →
          exec (.gskip src) s = .next ((a.skipSeq g q).flmDone y.base).settle))) ∧
    (∀ c, c < s.ctxCount → s.get (CTX_STATE c) = cDRAINING → s.ctxEmpty c = true →
      exec (.ctxDrainDone c) s = .next ((s.faultWaiters c).ctxDone c).settle)

/-- The engines of FETCH and OUT, and the trace (R219-R224, R234): the next entry a unit serves is taken; an entry whose
lines have moved completes; TRC CLEAR empties the trace unless it is enabled. -/
def Obligations.FetchOutAndTraceAct : Prop :=
  ∀ s : State,
    (∀ c, s.ready = true → s.crewOn c = true →
      (∀ unc f x, s.nextEntry (s.fetchServes c) = some (f, x) →
        exec (.fetchTake c unc) s = .next (s.takeFetch c f x unc).settle) ∧
      (∀ i l j r, s.eng.flight = i :: l → i.unit = c → s.fetchMore i = (j, r) → i.e.fLines ≤ j.done →
        exec (.fetchDone c) s = .next (({ r with eng := { r.eng with flight := l } } : State).completeEntry j).settle)) ∧
    (∀ u, s.ready = true → u ≤ uMONITOR →
      (∀ unc f x, s.nextEntry (s.outServes u) = some (f, x) → (u ≠ uOWN ∨ x.outOk = false ∨ s.ownFree x = true) →
        exec (.outTake u unc) s = .next (s.takeOut u f x unc).settle) ∧
      (∀ i, s.outDone u = some i → exec (.outComplete u) s =
        .next ((({ s with eng := { s.eng with flight := dropFlight i s.eng.flight } } : State).completeEntry i).monSettle).settle)) ∧
    (∀ a, s.running = true → s.busy TRC_CMD = false → a = s.accepted TRC_CMD 1 →
      (a.bit TRC_CTL_EN = true → exec .trcClear s = .next (a.setStat TRC_CMD stREFUSED).settle) ∧
      (a.bit TRC_CTL_EN = false → exec .trcClear s = .next ((({ a with eng := { a.eng with trc := [], trcN := 0 } } : State).wr
        TRC_WIDX 0).setStat TRC_CMD stDONE).settle))

/-- Programs and records (R242, R251-R253): LOAD checks its image in the order of the table and starts the copy; when it
completes the code stands in every powered engine and the index reads LOADED; UNLOAD of an unused program clears its index,
of a used one is BUSY; ARM of a set nothing refuses marks it pending, for its slot or the next; DISARM clears the mark. -/
def Obligations.ProgramAndRecordCommandsAct : Prop :=
  ∀ s : State, s.running = true → s.head = true →
    (s.busy CMP_CMD = false →
      (∀ p a h n l o, p < 32 → a = s.accepted CMP_CMD (1 + 16 * p) → o = (a.rd CMP_ARG0).toNat * 4096 → a.dramUp = true →
        h = a.bytes (dramBase + o) 0xC0 → n = imgWord h 8 → o + 0xC0 + n ≤ a.dramBytes → n ≤ 131072 →
        l = a.bytes (dramBase + o) (0xC0 + n) →
        (∀ b, a.loadCheck p l = .ok b → exec (.progLoad p) s = .next ((({ a with cmp := { a.cmp with
          loading := some (p, { imgProg l with base := b }, l.drop 0xC0) } } : State).setStat CMP_CMD stBUSY)).settle) ∧
        (∀ r, a.loadCheck p l = .error r → exec (.progLoad p) s = .next ((a.cmpRefuse r).bump CMP_LOADREF).settle)) ∧
      (∀ p a, p < 32 → a = s.accepted CMP_CMD (2 + 16 * p) →
        (a.progUsed p = true → exec (.progUnload p) s = .next (a.cmpRefuse (qBUSY, 0)).settle) ∧
        (∀ b, a.progUsed p = false → b = ({ a with
            eng := { a.eng with code := a.eng.code.filter (fun c => c.prog ≠ p) }
            cmp := { a.cmp with progs := merase p a.cmp.progs } } : State) →
          exec (.progUnload p) s =
            .next ((((b.wr (CMP_PROG0 p) 0).wr (CMP_PROG1 p) 0).lockRefresh).setStat CMP_CMD stDONE).settle)) ∧
      (∀ nx a, a = s.accepted CMP_CMD (3 + if nx then 512 else 0) →
        (a.armCheck nx = none → exec (.armSet nx) s = .next (((a.setAll [(CMP_STAT_ARMPEND, 1),
          (CMP_STAT_ARMNEXT, if nx then 1 else 0), (CMP_STAT_ATSEQ, if nx then 0 else getBits (a.rd CMP_ARG0) 0 16)]).lockRefresh).setStat
          CMP_CMD stDONE).settle) ∧
        (∀ r, a.armCheck nx = some r → r.1 ≠ qLATE → exec (.armSet nx) s = .next (a.cmpRefuse r).settle)) ∧
      (∀ a, a = s.accepted CMP_CMD 4 →
        exec .disarm s = .next (((a.wr CMP_STAT 0).lockRefresh).setStat CMP_CMD stDONE).settle)) ∧
    (∀ i g code b d, s.cmp.loading = some (i, g, code) →
      b = ({ s with eng := { s.eng with code := s.eng.code ++ [⟨i, g.base, code⟩] } } : State) →
      d = ((List.range 64).filter b.engOn).foldl (fun (x : State) e => x.putBytes (lsBase e + g.base) code) b →
      exec .programLoadDone s = .next ((((({ d with cmp := { d.cmp with loading := none, progs := minsert i g (merase i d.cmp.progs) } } :
        State).showProg i (some g)).lockRefresh).setStat CMP_CMD stDONE)).settle)

/-! ### Skidline -/

/-- Reception and transmission on an ACTIVE port (R286-R288, R295, R301-R304, R308): a good TALLY sets the sender's counts and a
bad one is only counted; frames behind a held PIX wait with it, and a frame whose header fails its check is counted, recorded and
otherwise dropped; the next frame by class and credit is sent, outside a calibration window. -/
def Obligations.FramesAndCreditMove : Prop :=
  ∀ (s : State) (p : Nat), p < s.portCount → s.active p = true →
    (∀ u, numAt u 0 1 = 2 → u.length = 32 → crc16 (u.take 30) = numAt u 30 2 → numAt u 12 1 % 2 = 0 →
      exec (.tallyRx p u) s = .next (s.setPort p { s.port p with
        cumB := numAt u 2 3, cumC := numAt u 5 3, bufB := numAt u 8 2, bufC := numAt u 10 2, seq := numAt u 1 1 }).settle) ∧
    (∀ u, numAt u 0 1 = 2 → u.length = 32 → crc16 (u.take 30) = numAt u 30 2 → numAt u 12 1 % 2 = 1 →
      exec (.tallyRx p u) s = .next (s.setPort p { s.port p with
        sentB := 0, sentC := 0, cumB := numAt u 2 3, cumC := numAt u 5 3, bufB := numAt u 8 2, bufC := numAt u 10 2, seq := numAt u 1 1 }).settle) ∧
    (∀ u, (numAt u 0 1 ≠ 2 ∨ u.length ≠ 32 ∨ crc16 (u.take 30) ≠ numAt u 30 2) →
      exec (.tallyRx p u) s = .next (s.bump (SKD_TALLYERR p)).settle) ∧
    (∀ r, s.running = true → s.bit (SKD_PORT_CFG_EN p) = true →
      ((s.port p).held = true → exec (.frameHeaderRx p r) s =
        .next (s.setPort p { s.port p with behind := (s.port p).behind ++ [(r, s.tm.wall)] }).settle) ∧
      ((s.port p).held = false → headerCrcOk r.hdr = false → exec (.frameHeaderRx p r) s =
        .next (((s.setPort p { s.port p with last := s.now }).bump (SKD_HCRC p)).disc p (parseHeader r.hdr).1.typ dHCRC
          (parseHeader r.hdr).1.src).settle) ∧
      ((s.port p).held = false → headerCrcOk r.hdr = true → headerOk r.hdr = false → exec (.frameHeaderRx p r) s =
        .next (((s.setPort p { s.port p with last := s.now }).bump (SKD_BADHDR p)).disc p (parseHeader r.hdr).1.typ dBADHDR
          (parseHeader r.hdr).1.src).settle) ∧
      (∀ f a, (s.port p).held = false → headerCrcOk r.hdr = true → headerOk r.hdr = true →
        f = { (parseHeader r.hdr).1 with pay := r.data.take (parseHeader r.hdr).2 } →
        rxEnd r (parseHeader r.hdr).2 (crc32c (r.hdr ++ f.pay)) = .ok → a = s.setPort p { s.port p with last := s.now } →
        a.route p f = ⟨true, none, false⟩ → (s.head = true ∨ f.isSync = false) →
        exec (.frameHeaderRx p r) s = .next ((a.countEnd p f .ok).consume p f s.tm.wall true).settle)) ∧
    (∀ n a, (s.port p).calTx ≤ s.now → a = s.creditWaits p →
      (a.nextTx p = none → exec (.frameTx p n) s = .next a.settle) ∧
      (∀ i, a.nextTx p = some i → exec (.frameTx p n) s = .next ((a.transmit p i n).creditWaits p).settle))

/-- The intake of a tile and what it consumes (R291, R307-R309, R315, R316, R322): a PIX or CMT at the front enters the intake
when there is room, and otherwise a PIX holds the port; a release lets it and what waited behind it in; an ACK goes to firmware;
a DISCOVER on a downstream port is only counted, and on an upstream one gives the tile its position. -/
def Obligations.TileIntakeAndDiscoveryAct : Prop :=
  ∀ (s : State) (p : Nat), s.running = true → p < 4 → s.head = false →
    (∀ i l t c, s.ready = true → (s.port p).rx = i :: l → (t = fPIX ∧ c = .pixRx p ∨ t = fCMT ∧ c = .cmtRx p) → i.f.typ = t →
      (s.port p).held = false →
      (s.intakeOk i.f = true →
        let a := s.setPort p { s.port p with rx := l, held := false }
        let b := if i.owed then a.freeUnits (some p) i.f else a
        exec c s = .next (if t = fPIX then b.takePix p i.f else b.takeCmt i.f).settle) ∧
      (s.intakeOk i.f = false →
        exec c s = .next ((s.setPort p { s.port p with held := true }).bump (SKD_HOLD p)).settle)) ∧
    (∀ i l, s.ready = true → (s.port p).rx = i :: l → (s.port p).held = true → s.intakeOk i.f = true →
      exec (.pixHoldRelease p) s = .next ((s.intake p).releaseBehind p).settle) ∧
    (∀ i r, s.takeRx p (fun f => f.typ = fACK) = some (i, r) → r.head = false → exec (.ackRx p) s = .next r.settle) ∧
    (∀ i r, s.takeRx p (fun f => f.typ = fDIS && f.fld 10 1 % 2 = 0) = some (i, r) →
      (p % 2 = 1 → exec (.discoverRx p) s = .next (r.bump SKD_CH_REVDISC).settle) ∧
      (p % 2 = 0 → exec (.discoverRx p) s =
        .next (r.discovered p (i.f.fld 11 1 % 64) (i.f.src / 64 * 64) (i.f.fld 12 2)).settle))

/-- Enumeration by a head (R312, R314, R316, R319, R336): ENUM of chain ports sends one DISCOVER with a new ENUMID on each and is
BUSY until every chain has reported or 10 ms have passed; a REPORT of a chain too long marks it; a head number written in
HALT or READY takes effect and enumerates, an equal one changes nothing, and in STANDBY and SHOW it is refused. -/
def Obligations.EnumerationActs : Prop :=
  ∀ s : State, s.running = true →
    (∀ p all a l, p < 16 → s.busy SKD_ENUM = false → a = s.accepted SKD_ENUM (1 + 16 * p + (if all then 256 else 0)) →
      l = (if all then List.range 16 else [p]).filter (fun q => a.role q = rCHAIN) →
      (a.head = false ∨ l = [] → exec (.skdEnum p all) s = .next (a.setStat SKD_ENUM stREFUSED).settle) ∧
      (∀ b, a.head = true → l ≠ [] → b = a.enumerate l → exec (.skdEnum p all) s =
        .next (({ b with skd := { b.skd with enumPend := some (b.now, l) } } : State).setStat SKD_ENUM stBUSY).settle)) ∧
    (∀ t l, s.skd.enumPend = some (t, l) → t + 10000000 ≤ s.now → exec .enumDone s =
      .next (({ s with skd := { s.skd with enumPend := none } } : State).setStat SKD_ENUM stDONE).settle) ∧
    (∀ t l, s.skd.enumPend = some (t, l) → l.all (fun p => s.reported (if s.isTwin p then p - 8 else p)) = true →
      exec .enumDone s = .next (({ s with skd := { s.skd with enumPend := none } } : State).setStat SKD_ENUM stDONE).settle) ∧
    (∀ v, (s.head = false ∨ s.power = psSTANDBY ∨ s.power = psSHOW) →
      exec (.headNumWrite v) s = .next (s.answer rSTATE).settle) ∧
    (∀ v, s.head = true → (s.power = psHALT ∨ s.power = psREADY) →
      (getBits v 0 6 = s.headNum → exec (.headNumWrite v) s = .next (s.answer rOK).settle) ∧
      (getBits v 0 6 ≠ s.headNum → exec (.headNumWrite v) s =
        .next (((s.answer rOK).setHeadNum (getBits v 0 6)).enumerate (List.range 16)).settle)) ∧
    (∀ p i r, s.head = true → p < 16 → s.takeRx p (fun f => f.typ = fDIS && f.fld 10 1 % 2 = 1) = some (i, r) →
      (numAt i.f.pay 23 1 % 2 = 1 → exec (.reportRx p) s =
        .next (r.set (SKD_CH_STAT_OVERLONG (if r.isTwin p then p - 8 else p)) 1).settle) ∧
      (numAt i.f.pay 23 1 % 2 = 0 → exec (.reportRx p) s = .next (r.report p i.f).settle))

/-! ### Wall commands and images -/

/-- The coordinator's commands and deadlines (R329, R331-R333, R336): ISSUE that is refused starts nothing, and one that is not
takes the next CMDID and arms its units; CANCEL before the decision aborts; at the arm deadline those that gave no
answer are listed and BESTEFF decides; a member reports at its own; an arm held past its deadline is reverted and counted. -/
def Obligations.WallCommandsAreCoordinated : Prop :=
  ∀ s : State, s.running = true →
    (s.busy SKD_WC_CMD = false →
      (∀ a, a = s.accepted SKD_WC_CMD 1 →
        (a.head = false ∨ a.issueRefused a.newJob = true →
          exec .wcIssue s = .next (a.setStat SKD_WC_CMD stREFUSED).settle) ∧
        (∀ j b d, a.head = true → a.issueRefused a.newJob = false → j = a.newJob →
          b = ((({ a with wc := { a.wc with jobs := a.wc.jobs ++ [j], nextId := a.wc.nextId % 65535 + 1 } } : State).setAll
            [(SKD_WC_STAT_PHASE, wpARMING), (SKD_WC_STAT_CMDID, j.id), (SKD_WC_NFAIL_FAILED, 0), (SKD_WC_NFAIL_NODONE, 0)]).setStat
            SKD_WC_CMD stDONE) →
          d = j.heads.foldl (fun (x : State) h => x.toHead j woARM h)
            ((List.range 64).foldl (fun (x : State) i => x.wr (SKD_WC_FAIL i) 0) b) →
          exec .wcIssue s = .next (((d.showCount j).armSection j).wcAdvance j.id j.coord).settle)) ∧
      (∀ a, a = s.accepted SKD_WC_CMD 2 →
        (∀ j, a.wc.jobs.find? (fun j => a.coordinates j && j.dec.isNone) = some j →
          exec .wcCancel s = .next ((a.wcDecide j false).setStat SKD_WC_CMD stDONE).settle) ∧
        (a.wc.jobs.find? (fun j => a.coordinates j && j.dec.isNone) = none →
          exec .wcCancel s = .next (a.setStat SKD_WC_CMD stREFUSED).settle))) ∧
    (∀ j, s.head = true → s.wc.jobs.find? (fun j => decide (j.next ≤ s.now)) = some j →
      (s.coordinates j = true ∨ j.dec ≠ none → exec .wallcmdRepeat s = .next (s.repeatJob j).settle) ∧
      (s.coordinates j = false → j.dec = none → j.dead + wSec ≤ s.tm.wall →
        exec .wallcmdRepeat s = .next (s.jobEnds j false).settle)) ∧
    (∀ j, s.head = true → s.wc.jobs.find? (fun j => !s.coordinates j && j.told.isNone && j.dec.isNone &&
        decide (j.dead ≤ s.tm.wall + 10 ^ 6 * wNs)) = some j →
      exec .hreportDeadline s = .next (s.sendHreport j true).settle) ∧
    (∀ j, s.head = true → s.wc.jobs.find? (fun j => s.coordinates j && j.dec.isNone && decide (j.dead ≤ s.tm.wall)) = some j →
      exec .armDeadline s = .next ((s.noReplies j).wcDecide j j.best).settle) ∧
    (∀ a, s.wc.arms.find? (fun a => decide (a.dead + wSec ≤ s.tm.wall)) = some a → exec .wallcmdRevert s =
      .next ((((s.unstage a).armGone a 3).bump SKD_WC_REVERTS).notify nWCREVERT (a.id + 2 ^ 16 * a.typ)).settle)

/-- A unit's side of wall commands (R330-R332): a tile answers an ARM with ARMED or REFUSED and its reason, and a repeated one
with the same reason and no other effect; it answers a decision with DONE, or NOTARMED when it holds no arm; a head passes a
decision on once and answers it; an answer to a command of no job is dropped. -/
def Obligations.WallCommandMessagesAreAnswered : Prop :=
  (∀ (s : State) (src r : Nat) (m : WcMsg) (t : State), s.unitArm src m = (r, t) → t.unitArm src m = (r, t)) ∧
  ∀ (s : State) (p : Nat), s.running = true → p < s.portCount →
    (∀ i b r t, s.takeRx p (isWc [woARM]) = some (i, b) →
      (b.head = false → b.unitArm i.f.src (readWc (svcPay i.f)) = (r, t) →
        exec (.wallcmdArmRx p) s = .next (t.wcAnswer i.f.src (if r = 0 then woARMED else woREFUSED) (readWc (svcPay i.f)).typ r
          (readWc (svcPay i.f)).id (readWc (svcPay i.f)).coord).settle) ∧
      (b.head = true → exec (.wallcmdArmRx p) s = .next (b.memberArm i.f (readWc (svcPay i.f))).settle)) ∧
    (∀ i b m c (k : Instr), m = readWc (svcPay i.f) →
      (s.takeRx p (isWc [woCOMMIT]) = some (i, b) ∧ k = .wallcmdCommitRx p ∧ c = true ∨
        s.takeRx p (isWc [woABORT]) = some (i, b) ∧ k = .wallcmdAbortRx p ∧ c = false) →
      (b.head = false → b.armOf m.id m.typ = none →
        exec k s = .next (b.wcAnswer i.f.src woNOTARMED m.typ wrNOTARMED m.id m.coord).settle) ∧
      (∀ a q t, b.head = false → b.armOf m.id m.typ = some a → b.unitCommit a = (q, t) →
        exec k s = .next (if c then t.wcAnswer i.f.src woDONE m.typ q m.id m.coord
          else ((b.unstage a).armGone a 0).wcAnswer i.f.src woDONE m.typ 0 m.id m.coord).settle) ∧
      (b.head = true → b.job m.id m.coord = none →
        exec k s = .next (b.wcAnswer i.f.src woNOTARMED m.typ wrNOTARMED m.id m.coord).settle) ∧
      (∀ j, b.head = true → b.job m.id m.coord = some j → exec k s =
        .next ((if j.dec.isNone then b.applyDecision j c else b).wcAnswer i.f.src woDONE m.typ 0 m.id m.coord).settle)) ∧
    (∀ i b m, s.head = true → m = readWc (svcPay i.f) →
      s.takeRx p (isWc [woARMED, woREFUSED, woDONE, woNOTARMED, woHREPORT]) = some (i, b) →
      (b.job m.id m.coord = none → exec (.wallcmdAnswerRx p) s = .next b.settle) ∧
      (∀ j, b.job m.id m.coord = some j → exec (.wallcmdAnswerRx p) s =
        .next ((if m.op = woHREPORT then b.hreportRx i.f m j else b.answerRx i.f.src m j).wcAdvance m.id m.coord).settle))

/-- Firmware images over the chain (R334, R335, R471): START of a head that can announces the image and starts its first
pass, STOP ends it; each piece of the pass is broadcast and the next due GAP milliseconds later; at the end of the pass every
tile is asked, and when all have answered the next pass is planned; a tile opens an announced download, and takes its pieces. -/
def Obligations.ImageDistributionActs : Prop :=
  ∀ s : State, s.running = true →
    (s.busy SKD_IMG_CMD = false →
      (∀ a, a = s.accepted SKD_IMG_CMD 1 →
        (a.head = false ∨ a.imgBusy = true ∨ a.dramUp = false ∨ a.imgBytesN = 0 ∨ a.imgPorts = [] →
          exec .imgStart s = .next (a.setStat SKD_IMG_CMD stREFUSED).settle) ∧
        (∀ b : State, a.head = true → a.imgBusy = false → a.dramUp = true → a.imgBytesN ≠ 0 → a.imgPorts ≠ [] →
          b = a.imgPorts.foldl (fun (x : State) p =>
            (((x.svcFrame vIMGANN (x.headNum * 1024 + p * 64) true x.imgAnnounce).2).bcastPorts p).foldl (fun (y : State) q =>
              y.send q (x.svcFrame vIMGANN (x.headNum * 1024 + p * 64) true x.imgAnnounce).1)
              (x.svcFrame vIMGANN (x.headNum * 1024 + p * 64) true x.imgAnnounce).2) a →
          exec .imgStart s = .next ((({ b with img := ⟨List.range b.imgPieces, b.now, [], [], []⟩ } : State).setAll
            [(SKD_IMG_STAT_STATE, imPASS), (SKD_IMG_STAT_PASS, 1), (SKD_IMG_STAT_NEXT, 0)]).setStat SKD_IMG_CMD stDONE).settle)) ∧
      (∀ a, a = s.accepted SKD_IMG_CMD 2 → a.head = true → a.imgBusy = true → exec .imgStop s =
        .next ((({ a with img := ⟨[], 0, [], [], []⟩ } : State).set SKD_IMG_STAT_STATE imIDLE).setStat SKD_IMG_CMD stDONE).settle)) ∧
    (∀ i l b d e, s.head = true → s.dramUp = true → s.get SKD_IMG_STAT_STATE = imPASS → s.img.next ≤ s.now → s.img.need = i :: l →
      s.dramRead (pageOff (s.rd SKD_IMG_SRC) + 16384 * i) (pieceLen s.imgBytesN i) = (b, d) →
      e = d.imgPorts.foldl (fun (x : State) p => (x.bcastPorts p).foldl (fun (y : State) q => y.send q (y.imgFrame p i b)) x) d →
      exec .imgPieceSend s = .next (({ e with img := { e.img with need := l, next := e.now + e.get SKD_IMG_CFG_GAP * 1000000 } } :
        State).set SKD_IMG_STAT_NEXT (match l with | j :: _ => j | [] => e.imgPieces)).settle) ∧
    (s.head = true → s.get SKD_IMG_STAT_STATE = imPASS → s.img.need = [] → ∀ b : State,
      b = s.set SKD_IMG_STAT_STATE imQUERY → exec .imgPassEnd s = .next (s.imgTiles.foldl (fun (x : State) a => x.imgQuery a)
        ({ b with img := { b.img with wait := [], miss := [], inc := [] } } : State)).settle) ∧
    (s.head = true → s.get SKD_IMG_STAT_STATE = imQUERY → s.img.wait = [] → exec .imgPassEnd s = .next s.imgPlan.settle) ∧
    (∀ p i b t, s.head = false → p < 4 → s.takeRx p (isSvc vIMGANN) = some (i, b) → b.dlServed = true →
      b.dlOpen (numAt (svcPay i.f) 0 4) (numAt (svcPay i.f) 4 4) = .ok t → exec (.imgannRx p) s = .next t.settle) ∧
    (∀ p i b, s.head = false → p < 4 → s.takeRx p (fun f => f.typ = fIMG) = some (i, b) →
      exec (.imgRx p) s = .next (b.imgPiece p i.f).settle)

/-! ### Lamp drive, lamp correction, loop engine -/

/-- Scan-out (R344, R346, R349-R355, R370): ARMGEOM and ARMDRV check their limits and arm a set that is not armed already,
DISARM discards both; a launch whose time has come starts the next slot, a row start the next row, and the pad follows the last
row; supplies in range for 10 ms count again; a slot committed and complete gets its FLIP at its launch time. -/
def Obligations.ScanOutActs : Prop :=
  ∀ s : State, s.running = true →
    (s.busy LDU_CMD = false →
      (∀ a, a = s.accepted LDU_CMD 1 → a.lampSide = true → a.ldu.geom = none → a.gridChanging = false →
        (∀ r, geomBad a.grid (a.rd LDU_GEOM0) (a.rd LDU_GEOM1) = some r →
          exec .armgeom s = .next ((a.set LDU_RES_REASON r).setStat LDU_CMD stREFUSED).settle) ∧
        (geomBad a.grid (a.rd LDU_GEOM0) (a.rd LDU_GEOM1) = none → exec .armgeom s = .next (({ a with ldu := { a.ldu with
          geom := some (a.rd LDU_GEOM0, a.rd LDU_GEOM1, a.now) } } : State).setStat LDU_CMD stDONE).settle)) ∧
      (∀ a, a = s.accepted LDU_CMD 2 → a.lampSide = true → a.ldu.drv = none →
        (a.get LDU_GEOM0A_ROWS < a.get LDU_LINE_APPLY →
          exec .armdrv s = .next ((a.set LDU_RES_REASON 1).setStat LDU_CMD stREFUSED).settle) ∧
        (a.get LDU_LINE_APPLY ≤ a.get LDU_GEOM0A_ROWS → (∀ c, c < 3 → 32 ≤ a.get (LDU_ICUR_BASE c) ∧ a.get (LDU_ICUR_BASE c) ≤ 1536) →
          exec .armdrv s =
            .next (({ a with ldu := { a.ldu with drv := some a.now } } : State).setStat LDU_CMD stDONE).settle)) ∧
      (∀ a, a = s.accepted LDU_CMD 3 → a.lampSide = true → exec .lduDisarm s =
        .next (({ a with ldu := { a.ldu with geom := none, drv := none } } : State).setStat LDU_CMD stDONE).settle)) ∧
    (s.gridRuns = true → s.scanOf s.tm.nextJ ≤ s.tm.wall → s.lqDue 0 (launchTime s.grid s.tm.nextJ) = false →
      s.gridFirst = false → exec .ldLaunch s = .next s.launch.stopDown.settle ∧ s.launch.tm.nextJ = s.tm.nextJ + 1) ∧
    (∀ c vled vd vg fa fb mv pins probes, s.ldu.cur = some c → s.gridRuns = true → c.row < c.rows * c.segs →
      c.rowAt c.row ≤ s.tm.wall → c.rowAt c.row < s.nextScan → exec (.rowStart vled vd vg fa fb mv pins probes) s =
        .next (s.rowStart c vled vd vg fa fb mv pins probes).settle) ∧
    (∀ c tr re b, s.ldu.cur = some c → s.gridRuns = true → c.pad = false → c.padAt ≤ s.tm.wall → c.padAt < s.nextScan →
      b = s.lduEvent evSOB → exec (.slotPadStart tr re) s = .next ((({ b with ldu := { b.ldu with
        cur := some { c with pad := true }, on := [] } } : State).calPiece
        (if c.rows * c.segs * c.rcyc < c.grid.cyc then (s.nextScan - c.padAt) / wNs else 0) tr re)).settle) ∧
    (∀ t, s.ldu.hvSince = some t → t + 10000000 ≤ s.now → exec .hvRecover s =
      .next ({ s with ldu := { s.ldu with hvOk := true, hvSince := none } } : State).settle) ∧
    (∀ q b d, s.ready = true → s.lampSide = true → b = s.fwDrain → b.flipReady = some q →
      d = b.putWord (selBase + 20) (w32 (q + 65536)) → exec .flipQueue s = .next ((({ d with fw := { d.fw with
        cmts := d.fw.cmts.filter (· ≠ q), dones := d.fw.dones.filter fun x => x.1 ≠ q } } : State).lqPost aFLIP
        (q + 65536 * (q % 8)) (launchTime d.grid (nearSlot d.tm.nextJ q) / wNs * wNs)).2).settle) ∧
    (∀ v f a : Nat, v < 65536 → f ≤ 65536 → a < 64 →
      64 * (onTime v f a).1 + (onTime v f a).2 = a + (v - v / 1024) * f / 65536 ∧
      (onTime v f a).2 < 64 ∧ (onTime v f a).1 ≤ 1023)

/-- Lamp records (R359-R366, R371, R383): STORESET and STOREMAP of a wrong image are refused, and a right one is written while
the register reads BUSY; when it stands, everything is staged again; ERASESET of the set in use is refused, of another erases it;
RESCAN takes the identity the EEPROM returned and stages what it keys. -/
def Obligations.LampRecordCommandsAct : Prop :=
  ∀ s : State, s.running = true →
    (s.busy LCR_CMD = false →
      (∀ n a h l b, n < 8 → a = s.accepted LCR_CMD (1 + 16 * n) → a.dramUp = true → h = a.bytes (dramBase + a.lcrSrc) 64 →
        sizeOk (imgW h) (imgH h) = true → a.dramRead a.lcrSrc (setLen h) = (l, b) →
        (b.setBad l = true → exec (.storeset n) s = .next (b.lcrRefuse lrBADIMG 0).settle) ∧
        (b.setBad l = false → b.calRoom (recSet n) l.length = true → exec (.storeset n) s =
          .next (({ b with lcr := { b.lcr with store := some ⟨recSet n, l⟩ } } : State).setStat LCR_CMD stBUSY).settle)) ∧
      (∀ n a, n < 8 → a = s.accepted LCR_CMD (2 + 16 * n) →
        (a.get LCR_STAT_SETINUSE = n → exec (.eraseset n) s = .next (a.lcrRefuse lrINUSE 0).settle) ∧
        (a.get LCR_STAT_SETINUSE ≠ n → a.bit LCR_SWITCH_PEND = false →
          exec (.eraseset n) s = .next ((a.eraseRec (recSet n)).stage.setStat LCR_CMD stDONE).settle)) ∧
      (∀ a h l b, a = s.accepted LCR_CMD 3 → a.dramUp = true → h = a.bytes (dramBase + a.lcrSrc) 64 →
        sizeOk (imgW h) (imgH h) = true → a.dramRead a.lcrSrc (boardLen h) = (l, b) →
        (∀ r i, boardRefusal l = some (r, i) → exec .storemap s = .next (b.lcrRefuse r i).settle) ∧
        (∀ x, boardRefusal l = none → b.boards.find? (fun x => imgBtype x.2 = imgBtype l) = some x →
          b.calRoom (recBoard x.1) l.length = true → exec .storemap s =
            .next (({ b with lcr := { b.lcr with store := some ⟨recBoard x.1, l⟩ } } : State).setStat LCR_CMD stBUSY).settle) ∧
        (∀ n, boardRefusal l = none → b.boards.find? (fun x => imgBtype x.2 = imgBtype l) = none →
          (List.range 2).find? (fun n => (b.recData (recBoard n)).isNone) = some n →
          b.calRoom (recBoard n) l.length = true → exec .storemap s =
            .next (({ b with lcr := { b.lcr with store := some ⟨recBoard n, l⟩ } } : State).setStat LCR_CMD stBUSY).settle)) ∧
      (∀ ee a, a = s.accepted LCR_CMD 4 →
        (a.lampSide = false → exec (.rescan ee) s = .next (a.lcrRefuse lrNOLAMP 0).settle) ∧
        (a.lampSide = true → exec (.rescan ee) s = .next ((a.identity ee).stage.setStat LCR_CMD stDONE).settle))) ∧
    (∀ x b, s.lcr.store = some x → s.bit LCR_STAT_CALMIS = false → b = s.writeRec x.id x.data →
      exec .lcrStoreDone s = .next (((({ b with lcr := { b.lcr with store := none } } : State).stage).setStat LCR_CMD stDONE)).settle)

/-- Lamp tests, sensors and the loop engine (R373-R382, R386): a calibration runs while none does, a due one starts or is stale
in hold mode, and its end writes trims, residue and time; PROBE needs light and a blanking window, SHORTTEST darkness; CLRFLT
forgets verdicts and empties the list; sensors are converted on their periods; the loop engine evaluates the channels due
at its next instant and delivers the outputs whose time has come. -/
def Obligations.LampTestsSensorsAndLoopAct : Prop :=
  ∀ s : State, s.running = true →
    (s.busy LCR_CMD = false →
      (∀ a, s.bit LCR_SCALQ_RUNNING = false → a = s.accepted LCR_CMD 5 → a.lampSide = true → exec .sinkCal s =
        .next ((({ a.setAll [(LCR_SCALQ_RUNNING, 1), (LCR_SCALQ_PIECES, 0)] with lcr := { a.lcr with
          calEnd := a.now + 48 * 1600 } } : State).setStat LCR_CMD stBUSY)).settle) ∧
      (∀ a, a = s.accepted LCR_CMD 6 → a.lampSide = true →
        (a.bit LDU_STAT_LIT = false → exec .lcrProbe s = .next (a.lcrRefuse lrSTATE 0).settle) ∧
        (a.bit LDU_STAT_LIT = true → a.probeFits = false → exec .lcrProbe s = .next (a.lcrRefuse lrWINDOW 0).settle) ∧
        (a.bit LDU_STAT_LIT = true → a.probeFits = true → a.get LCR_PROBE_PER ≠ 0 → exec .lcrProbe s =
          .next ((a.set LCR_PROBEST_REPEATING (a.get LCR_PROBE_REP)).passStart.setStat LCR_CMD stDONE).settle)) ∧
      (∀ a, a = s.accepted LCR_CMD 7 → a.lampSide = true →
        exec .probestop s = .next ((a.set LCR_PROBEST_REPEATING 0).setStat LCR_CMD stDONE).settle) ∧
      (∀ a, a = s.accepted LCR_CMD 8 → a.lampSide = true →
        (a.bit LDU_STAT_LIT = true → exec .shorttest s = .next (a.lcrRefuse lrSTATE 0).settle) ∧
        (a.bit LDU_STAT_LIT = false → exec .shorttest s = .next ((({ a.set LCR_STAT_SHORTRUN 1 with lcr := { a.lcr with
          shortEnd := a.now + 1500000 } } : State).setStat LCR_CMD stBUSY)).settle)) ∧
      (∀ a, a = s.accepted LCR_CMD 9 → a.lampSide = true → ∃ t, exec .clrflt s = .next t ∧ t.get LCR_FLCNT_COUNT = 0 ∧
        t.bit LCR_FLCNT_OVF = false ∧ t.stat LCR_CMD = stDONE ∧ (∀ k, (t.lamp k).verdict = vUNKNOWN) ∧ SameMemory s t)) ∧
    (s.bit LCR_SCALQ_RUNNING = true → exec .sinkCal s = .next (s.answer rBUSY).settle) ∧
    (s.ready = true → s.lampSide = true → s.sinkCalTrigger = true → s.bit LCR_SCALQ_RUNNING = false →
      (s.get LCR_SCAL_MODE = 1 → exec .sinkCalDue s = .next (s.set LCR_SCALQ_STALE 1).settle) ∧
      (s.get LCR_SCAL_MODE ≠ 1 → exec .sinkCalDue s = .next s.calStart.settle)) ∧
    (∀ tr re, s.ready = true → s.bit LCR_SCALQ_RUNNING = true → s.bit LDU_STAT_LIT = false → s.lcr.calEnd ≤ s.now →
      exec (.sinkCalibrationRunEnd tr re) s = .next (s.calComplete tr re).settle) ∧
    (∀ t, s.ready = true → s.bit LDU_STAT_LIT = true → s.bit LCR_PROBEST_REPEATING = true → s.lcr.pass = none →
      s.lcr.lastPass = some t → t + s.get LCR_PROBE_PER * 10 ^ 9 ≤ s.now → exec .probeRepeat s = .next s.passStart.settle) ∧
    (∀ l, s.bit LCR_STAT_SHORTRUN = true → exec (.shorttestDone l) s = .next (s.shortDone l).settle) ∧
    (s.ready = true → s.lampSide = true →
      (∀ l, s.lcr.nextNtc ≤ s.now → exec (.ntcConvert l) s = .next (s.ntcConvert l).settle ∧
        (s.ntcConvert l).lcr.nextNtc = s.now + 10000000) ∧
      (∀ l, s.lcr.nextDig ≤ s.now → exec (.lbSensorRead l) s = .next (s.lbSensors l).settle ∧
        (s.lbSensors l).lcr.nextDig = s.now + 100000000)) ∧
    (s.lpeRuns = true →
      (s.lpe.next ≤ s.tm.wall → s.lqDue 1 s.lpe.next = false → exec .lpeSample s = .next s.lpeSample.settle ∧
        s.lpeSample.lpe.next = s.lpe.next + 10000 * wNs) ∧
      (∀ b : State, b = { s with lpe := { s.lpe with outs := s.lpe.outs.filter fun o => decide (s.tm.wall < o.1) } } →
        exec .lpeOutputDeliver s = .next ((s.lpe.outs.filter fun o => decide (o.1 ≤ s.tm.wall)).foldl
          (fun (x : State) o => x.deliver o.2.1 o.2.2) b).settle))

/-! ### Redundant pairs -/

/-- A pair's states (R409, R415, R416, R419, R423-R426): the heartbeat is sent once a base frame, and a frame without one is counted
as missed; START ends in SOLO after WAIT base frames, doubled on the head that is not primary; three missed frames make ACTIVE
SOLO; a partner in STANDBY makes SOLO ACTIVE, and one that feeds makes START SYNC with a full epoch asked for; only SOLO, ACTIVE
and a SWAP entered from them feed; DRILL and CLEAR are refused outside their states, RESYNC asks for a full epoch; an agreed swap
enters SWAP, a late request is cancelled; the feeding head closes an epoch that has changes, and a full epoch that checks joins
those to install. -/
def Obligations.PairStatesAct : Prop :=
  ∀ s : State, s.running = true → s.head = true →
    (s.ready = true → s.gridRuns = true → s.rdnState ≠ rdOFF →
      (s.rdn.sentBf ≠ some s.frameNow → exec .hbtSend s = .next s.hbtSend.settle ∧ s.hbtSend.rdn.sentBf = some s.closeFrames.frameNow) ∧
      (s.rdn.heard = [] → s.rdn.bf < s.frameNow → exec .hbtMiss s = .next s.closeFrame.settle ∧
        (s.get RDN_PATH_MISS < 2 → s.closeFrame.rdn.bf = s.rdn.bf + 1 ∧ s.closeFrame.get RDN_PATH_MISS = s.get RDN_PATH_MISS + 1)) ∧
      (s.rdnState = rdSTART → s.rdn.pairMis = false →
        s.rdn.since + s.get RDN_CFG_WAIT * (if s.bit RDN_CFG_PRIMARY then 1 else 2) ≤ s.frameNow →
        exec .rdnStartWait s = .next (s.rdnEnter rdSOLO).settle) ∧
      (s.rdn.feeds = true → s.changedItems ≠ [] → s.rdn.epBf ≠ some s.frameNow →
        exec .epochClose s = .next s.epochClose.settle)) ∧
    (∀ st, s.rdnState ≠ st → (s.rdnEnter st).rdn.feeds =
      if st = rdSOLO ∨ st = rdACTIVE then true else if st = rdSWAP then s.rdn.feeds else false) ∧
    (s.rdnState = rdACTIVE → s.threeMissed = s.rdnEnter rdSOLO) ∧
    (s.rdnState = rdSOLO → s.partnerIn rdSTANDBY = (({ s with rdn := { s.rdn with dual := false } } : State).rdnEnter rdACTIVE)) ∧
    (s.rdnState = rdSTART → s.rdn.pairMis = false → s.partnerIn rdACTIVE = (s.rdnEnter rdSYNC).askFull) ∧
    (∀ p, p < 16 →
      (∀ i b prim rev, s.takeRx p (fun f => f.typ = fHBT) = some (i, b) → i.f.src = b.partnerAddr → b.ready = true →
        b.gridRuns = true → b.rdnState ≠ rdOFF → exec (.hbtRx p prim rev) s = .next (b.hbtRx p i.f prim rev).settle) ∧
      (∀ i b l q c d, s.takeRx p (isSvc vSWAP) = some (i, b) → b.ready = true → b.gridRuns = true → b.rdnState ≠ rdOFF →
        l = svcPay i.f → q = nearSlot b.nextPost (numAt l 0 2) → c = numAt l 3 1 → d = numAt l 4 2 →
        (∀ t, numAt l 2 1 = 1 → b.swapPart c = some t → b.paceTick q ≤ b.tm.wall →
          exec (.swapRx p) s = .next (b.sendSwap q 3 c d).settle) ∧
        (∀ t, numAt l 2 1 = 1 → b.swapPart c = some t → b.tm.wall < b.paceTick q → exec (.swapRx p) s =
          .next (((b.setSwap (some ⟨q, t, c, d, b.rdnState, true⟩)).rdnEnter rdSWAP).sendSwap q 2 c d).settle) ∧
        (∀ w, numAt l 2 1 = 2 → b.rdn.swap = some w → w.slot = q → w.agreed = false → b.tm.wall < b.paceTick q →
          exec (.swapRx p) s = .next ((b.setSwap (some { w with agreed := true })).rdnEnter rdSWAP).settle) ∧
        (∀ w, numAt l 2 1 = 3 → b.rdn.swap = some w → w.slot = q → exec (.swapRx p) s = .next b.swapCancel.settle)) ∧
      (∀ i b, s.takeRx p (isSvc vEPOCH) = some (i, b) → b.ready = true → b.compares = true → 8 ≤ (svcPay i.f).length →
        exec (.epochRx p) s = .next (b.epochRx (svcPay i.f)).settle) ∧
      (∀ i b, s.takeRx p (isSvc vEPREQ) = some (i, b) → b.rdn.feeds = true → numAt (svcPay i.f) 2 1 % 2 = 1 →
        exec (.epreqRx p) s = .next ({ b with rdn := { b.rdn with full := true } } : State).settle)) ∧
    (s.busy RDN_CMD = false →
      (∀ d a, d < 4096 → a = s.accepted RDN_CMD (1 + 16 * d) →
        (a.rdnState ≠ rdACTIVE ∨ a.rdn.vote ≠ none ∨ a.bit CMP_PACE_STAT_CATCHUP = true →
          exec (.rdnDrill d) s = .next (a.setStat RDN_CMD stREFUSED).settle) ∧
        (a.rdnState = rdACTIVE → a.rdn.vote = none → a.bit CMP_PACE_STAT_CATCHUP = false → d ≠ 0 →
          exec (.rdnDrill d) s = .next ((a.setStat RDN_CMD stBUSY).swapRequest false 1 d).settle)) ∧
      (∀ a, a = s.accepted RDN_CMD 2 →
        (a.rdnState ≠ rdFAULTY → exec .rdnClear s = .next (a.setStat RDN_CMD stREFUSED).settle) ∧
        (a.rdnState = rdFAULTY → exec .rdnClear s =
          .next ((((a.rdnEnter rdSYNC).askFull).placeChanged).setStat RDN_CMD stDONE).settle)) ∧
      (∀ a, a = s.accepted RDN_CMD 3 → a.rdnState ≠ rdOFF → a.rdnState ≠ rdSTART → a.rdnState ≠ rdFAULTY →
        (a.rdn.feeds = true → exec .rdnResync s =
          .next (({ a with rdn := { a.rdn with full := true } } : State).setStat RDN_CMD stDONE).settle) ∧
        (a.rdn.feeds = false → exec .rdnResync s = .next (a.askFull.setStat RDN_CMD stDONE).settle))) ∧
    (∀ x : Epoch, (s.installEpoch x).rdn.installed = true) ∧
    (∀ num b c items, parseItems (numAt c 8 4) b = some items → numAt c 0 2 = num → items.length = numAt c 8 4 →
      b.length = numAt c 12 4 → crc32c b = numAt c 20 4 → numAt c 4 1 % 2 = 1 →
      (s.epochEnd num b c).rdn.inst = s.rdn.inst ++ [⟨num, numAt c 2 2, true, items, numAt c 16 2⟩])

/-- Digests and votes (R410-R413, R421): a digest of the partner enters the comparison, and at L(q) + T the rings of the oldest
slot are compared with what there is; a request starts a vote on the feeding head; the recompute gives a verdict, which is sent;
on the feeding head two good verdicts set DISAGREE and two bad ones end ACTIVE, and without verdicts the vote ends inconclusive
after 4 base frames. -/
def Obligations.DigestsAndVotesAct : Prop :=
  ∀ s : State, s.running = true → s.head = true →
    (∀ p, p < 16 →
      (∀ i b, s.takeRx p (fun f => f.typ = fDIG) = some (i, b) → b.compares = true → i.f.src = b.partnerAddr →
        exec (.digRx p) s = .next (b.digRx p i.f).settle) ∧
      (∀ i b l, s.takeRx p (isSvc vVOTEREQ) = some (i, b) → l = svcPay i.f → b.rdn.feeds = true → b.rdn.vote = none →
        b.rdnState ≠ rdOFF →
        exec (.votereqRx p) s = .next (b.voteStart (numAt l 0 2) (numAt l 2 1 % 16) (numAt l 4 2)).settle) ∧
      (∀ i b l v, s.takeRx p (isSvc vVERDICT) = some (i, b) → l = svcPay i.f → b.rdn.vote = some v → v.tile = numAt l 0 2 →
        v.slice = numAt l 2 1 % 16 → v.seq = numAt l 4 2 → exec (.verdictRx p) s = .next (({ b with rdn := { b.rdn with
          vote := some { v with theirs := some (numAt l 6 1 = 1) } } } : State).judge).settle)) ∧
    (∀ r, s.ready = true → s.compares = true → s.cmp.slots.reverse.find? (fun r =>
        decide (launchTime s.grid (r.j + 1) ≤ s.tm.wall) && s.ringEnds.any (fun p => !r.digOut.contains p)) = some r →
      exec .compareDeadline s = .next ((s.ringEnds.foldl (fun s p => match s.runOf (r.j % 65536) with
        | some x => s.compareRing x p true
        | none => s) s).stillsRefresh).settle) ∧
    (∀ v d r x, s.rdn.vote = some v → v.dig = some d → v.mine = none → s.runOf v.seq = some r →
      r.digs.find? (fun x => x.1 = v.tile && x.2.1 = v.slice) = some x → exec .recomputeDone s =
        .next ((((if x.2.2 = d then s else s.set RDN_STAT_SELFBAD 1).sendVerdict { v with mine := some (decide (x.2.2 = d)) }
          (decide (x.2.2 = d)))).judge).settle) ∧
    (∀ v, s.rdn.vote = some v → v.start + 4 ≤ s.frameNow → exec .voteTimeout s = .next (s.voteEnd 6).settle) ∧
    (∀ v m t, s.rdn.vote = some v → v.mine = some m → v.theirs = some t → s.rdn.feeds = true →
      (m = true → t = true → s.judge = (s.voteEnd 4).set RDN_STAT_DISAGREE 1) ∧
      (m = false → t = false → s.judge = if (s.voteEnd 5).rdnState = rdACTIVE then (s.voteEnd 5).rdnEnter rdSOLO
        else s.voteEnd 5)) ∧
    (∀ v, s.rdn.vote = some v → (s.voteEnd 6).rdn.vote = none)

/-! ### Starts, updates and power -/

/-- Starts, images and recovery mode (R451-R457, R464, R465, R470-R476, R481-R483, R491, R521): the unit starts when PORST_N rises
or its supplies recover, with the straps latched, and is held while either is away; an unusable
flash device leads to recovery mode; the lamp-side test shows its outcome; firmware starts when the hashes and the settings
allow; a download is opened, filled by pieces that check, and activated; each boot command acts in a state that allows it, and
its end comes when the flash is written; a recovery request is answered, and INFO and ERASE with a failing CRC have no other
effect. -/
def Obligations.StartsUpdatesAndRecoveryAct : Prop :=
  ∀ s : State,
    (∀ hd n bs dev, s.pins.porst = false → s.pwr.supply = none → exec (.porstRise hd n bs dev) s =
      .next (({ s with pins := { s.pins with porst := true } } : State).start hd n bs dev).settle) ∧
    (∀ hd n bs dev, s.pwr.supply ≠ none → s.pins.porst = true → exec (.supplyRecover hd n bs dev) s =
      .next (({ s with pwr := { s.pwr with supply := none } } : State).start hd n bs dev).settle) ∧
    (s.hold.phase = .held ∧ s.hold.boot.img = s.boot.img ∧ s.hold.boot.recs = s.boot.recs ∧ s.hold.regs = State.reset.regs ∧
      exec .porstNFall s = .next ({ s.hold with
        pins := { s.hold.pins with porst := false }
        pwr := { s.hold.pwr with supply := s.pwr.supply } } : State).settle ∧
      exec .supplyFault s = .next ({ s.hold with pwr := { s.hold.pwr with supply := some 0 } } : State).settle) ∧
    (∀ hd n bs dev, dev.flashOk = false → (s.start hd n bs dev).phase = .recovery) ∧
    (∀ vd vg t, s.boot.lampAt = some t → s.phase ≠ .held → t ≤ s.now → ∃ q, exec (.lampSideTest vd vg) s = .next q ∧
      q.bit GLB_STRAP_NOLAMP = (decide (vd < 200) && decide (vg < 200)) ∧ q.bit PWR_LSDET_DONE = true ∧
      q.bit PWR_LSDET_VDRVT = decide (vd < 200) ∧ q.bit PWR_LSDET_VGATET = decide (vg < 200) ∧
      SameRegisters s q [PWR_LSDET, GLB_STRAP] ∧ SameMemory s q ∧
      q = { s with regs := q.regs, mem := q.mem, boot := { s.boot with lampAt := none } }) ∧
    (∀ ee cv b d, s.phase = .rom → b = ({ s with phase := .firmware, boot := { s.boot with count := s.boot.count + 1 } } : State) →
      b.hashesOk b.boot.run 3 (· ≠ 1) = true → b.showStart.startSettings cv = some d →
      exec (.firmwareStart ee cv) s = .next (d.firmwareRuns ee).settle) ∧
    (s.running = true → s.busy BOOT_CMD = false →
      (∀ a, a = s.accepted BOOT_CMD 1 → a.boot.dl = none → exec .bootActivate s =
        .next (a.bootRefuse BOOT_CMD boNOTCOMPLETE).settle) ∧
      (∀ a d, a = s.accepted BOOT_CMD 1 → a.boot.dl = some d → d.complete = true → exec .bootActivate s =
        .next ((({ a.bsrWrite [(9, 1, d.slot), (0x0A, 1, csPENDING), (0x0B, 1, 0), (0x0C + d.slot, 1, slDOWN),
          (0x10 + 8 * d.slot, 8, a.imgVersion d.slot)] with boot := { (a.bsrWrite [(9, 1, d.slot), (0x0A, 1, csPENDING), (0x0B, 1, 0),
          (0x0C + d.slot, 1, slDOWN), (0x10 + 8 * d.slot, 8, a.imgVersion d.slot)]).boot with dl := none } } : State)).setStat
          BOOT_CMD stDONE).settle) ∧
      (∀ a, a = s.accepted BOOT_CMD 2 →
        (a.power = psHALT ∨ a.power = psREADY → exec .bootRestart s = .next (a.restart false).settle) ∧
        (a.power ≠ psHALT → a.power ≠ psREADY → exec .bootRestart s = .next (a.bootRefuse BOOT_CMD boSTATE).settle)) ∧
      (∀ a, a = s.accepted BOOT_CMD 3 → a.boot.trial = true → exec .bootConfirm s = .next (a.bootBusy 3 []).settle) ∧
      (∀ a, a = s.accepted BOOT_CMD 4 → a.bsrCand = none → a.slotState a.inactive = slGOOD → exec .bootRevert s =
        .next ((a.bsrWrite [(9, 1, a.inactive), (0x0A, 1, csPENDING), (0x0B, 1, 0)]).setStat BOOT_CMD stDONE).settle) ∧
      (∀ a h l b, a = s.accepted BOOT_CMD 5 → a.boot.trial = false → a.power ≠ psHALT → a.dramUp = true →
        h = a.bytes (dramBase + a.bootSrc) 32 → numAt h 0 4 = 0x5453454B → settLen h ≤ a.areaSize (2 + a.boot.run) / 2 →
        a.dramRead a.bootSrc (settLen h) = (l, b) → settOk l = true → settVer l = b.imgSetver b.boot.run →
        exec .bootSave s = .next (b.bootBusy 5 l).settle) ∧
      (∀ a, a = s.accepted BOOT_CMD 22 → a.power ≠ psHALT → a.dramUp = true →
        exec (.bootStage true) s = .next (a.bootBusy 6 [1#8]).settle) ∧
      (∀ a h l b, a = s.accepted BOOT_CMD 7 → a.dramUp = true → h = a.bytes (dramBase + a.bootSrc) 32 →
        a.dramRead a.bootSrc (min 65536 (max 32 (numAt h 0x0C 4))) = (l, b) →
        exec .storebd s = .next (b.bootBusy 7 l).settle) ∧
      (∀ a n l b, a = s.accepted BOOT_CMD 8 → a.dramUp = true →
        n = 0xC0 + imgWord (a.bytes (dramBase + a.bootSrc) 0xC0) 8 → n ≤ a.areaSize 5 / 2 → a.dramRead a.bootSrc n = (l, b) →
        imgOk l = true → (imgProg l).mon = false → exec .storecor s = .next (b.bootBusy 8 l).settle)) ∧
    (∀ op l, s.boot.busy = some (op, l) → exec .bootCommandDone s =
      .next (({ s with boot := { s.boot with busy := none } } : State).bootDone op l).settle) ∧
    (s.running = true → s.busy BOOT_DLCMD = false →
      (∀ a, a = s.accepted BOOT_DLCMD 1 → a.dlServed = true →
        (∀ r, a.dlOpen (a.rd BOOT_DLARG0).toNat (a.rd BOOT_DLARG1).toNat = .error r →
          exec .dlOpen s = .next (a.bootRefuse BOOT_DLCMD r).settle) ∧
        (∀ b, a.dlOpen (a.rd BOOT_DLARG0).toNat (a.rd BOOT_DLARG1).toNat = .ok b →
          exec .dlOpen s = .next (b.setStat BOOT_DLCMD stDONE).settle)) ∧
      (∀ a d i l, a = s.accepted BOOT_DLCMD 2 → a.dlServed = true → a.boot.dl = some d → i = a.get BOOT_DLARG2_PIECE →
        i < d.n → i ∉ d.held → l = (a.pieceBuffer 16384).take (pieceLen d.len i) →
        (crc32c l ≠ (a.rd BOOT_DLARG3).toNat →
          exec .dlPiece s = .next ((a.bump BOOT_PIECEBAD).bootRefuse BOOT_DLCMD boBADPIECE).settle) ∧
        (crc32c l = (a.rd BOOT_DLARG3).toNat → exec .dlPiece s = .next (({ a with boot := { a.boot with
          piece := some (i, l, none) } } : State).setStat BOOT_DLCMD stBUSY).settle)) ∧
      (∀ a d b, a = s.accepted BOOT_DLCMD 3 → a.dlServed = true → a.boot.dl = some d → b = a.bsrWrite [(0x0C + d.slot, 1, slEMPTY)] →
        exec .dlAbort s = .next (({ b with boot := { b.boot with dl := none } } : State).setStat BOOT_DLCMD stDONE).settle)) ∧
    (∀ i l b, s.boot.piece = some (i, l, none) → b = ({ s with boot := { s.boot with piece := none } } : State) →
      exec (.downloadPieceDone true) s = .next ((b.pieceHeld i l).setStat BOOT_DLCMD stDONE).settle ∧
      exec (.downloadPieceDone false) s = .next ((b.bump BOOT_FLERR).bootRefuse BOOT_DLCMD boFLASH).settle) ∧
    (∀ q : Nat, s.phase = .recovery →
      (∀ k, k = Instr.recoveryInfo q false ∨ k = .recoveryErase q false 0 → ∃ t ty, exec k s = .next t ∧
        t.boot = s.boot ∧ t.skd.out = .bus 2 (uartFrame ty q [1#8]) :: s.skd.out) ∧
      exec (.recoveryInfo q true) s = .next (s.uartAnswer 1 q rcOK (natLE 4 s.idWord ++ natLE 8 Config.unitSN.toNat ++
        natLE 4 s.fuseWord ++ s.bsrBytes ++ natLE 8 (s.imgVersion 0) ++ natLE 8 (s.imgVersion 1))).settle ∧
      (∀ r b, b = s.uartAnswer 2 q rcOK [] → 115200 ≤ r → r ≤ 3000000 → exec (.recoveryBaud q true r) s =
        .next ({ b with boot := { b.boot with baud := r } } : State).settle) ∧
      (∀ k i l b, k < 2 → i < 1024 → l.length ≤ 16384 → b = s.recoveryEmpty k → exec (.recoveryWrite q true k i (crc32c l) l true) s =
        .next (({ b with boot := { b.boot with
          img := minsert (1024 * k + i) l (merase (1024 * k + i) b.boot.img) } } : State).uartAnswer 3 q rcOK []).settle) ∧
      (∀ k, k < 2 → s.verifyImage k true = 0 → exec (.recoveryCommit q true k (s.imgLen k)) s = .next ((s.bsrWrite [(8, 1, k),
        (0x0C + k, 1, slGOOD), (9, 1, 0xFF), (0x10 + 8 * k, 8, s.imgVersion k)]).uartAnswer 4 q rcOK []).settle) ∧
      (∀ m, s.get GLB_STRAP_BOOTSEL ≠ 3 → exec (.recoveryErase q true m) s = .next (s.uartAnswer 5 q rcREFUSED []).settle) ∧
      (s.get GLB_STRAP_BOOTSEL = 3 → exec (.recoveryErase q true 1) s =
        .next ((s.eraseRec recKEYS).uartAnswer 5 q rcOK []).settle) ∧
      (∀ o l, 65536 < o + l.length → exec (.recoveryWritebd q true o l) s = .next (s.uartAnswer 6 q rcREFUSED []).settle) ∧
      exec (.recoveryBoot q true) s = .next ((s.uartAnswer 7 q rcOK []).restart true).settle)

/-- Power, voltage and temperature (R486-R501): PWR_CMD starts a transition or is refused with its reason; each power step
steps up or down, held back while a command of memory or boot is busy; the core voltage moves by 5 mV a step between multiples of
5 mV and ends at its target, or fails after 5 ms; two samples at 120 °C trip, and after a trip that does not cool the unit goes
OFF; a stop reaches factor 0 after 200 ms; a round of housekeeping reads ten supplies. -/
def Obligations.PowerVoltageAndTemperatureAct : Prop :=
  (∀ t c : Nat, c % 5 = 0 → t % 5 = 0 → t ≠ c → (nextStep t c = c + 5 ∨ nextStep t c + 5 = c) ∧ nextStep t c % 5 = 0 ∧
    (c < t → nextStep t c ≤ t) ∧ (t < c → t ≤ nextStep t c)) ∧
  ∀ s : State, s.running = true →
    (∀ t a, t < 8 → s.busy PWR_CMD = false → a = s.accepted PWR_CMD t →
      (∀ r, a.powerRefusal t = some r →
        exec (.powerCommand t) s = .next ((a.set PWR_STAT_REASON r).setStat PWR_CMD stREFUSED).settle) ∧
      (a.powerRefusal t = none → t ≠ a.power → exec (.powerCommand t) s = .next ((a.powerTo t).setStat PWR_CMD stBUSY).settle)) ∧
    (∀ t, psSHOW < t → s.powerRefusal t = some prRANGE) ∧
    (s.bit PWR_STAT_TRANS = true → ∀ f b, b = s.stepStat stBUSY →
      (s.stepBlocked = true → exec (.powerStep f) s = .next (s.stepStat stDEFERRED).settle) ∧
      (s.stepBlocked = false → b.power < b.get PWR_STAT_TARGET → exec (.powerStep f) s = .next (b.stepUp f).settle) ∧
      (s.stepBlocked = false → b.get PWR_STAT_TARGET ≤ b.power → exec (.powerStep f) s = .next b.stepDown.settle)) ∧
    (∀ v a, v < 1024 → s.busy PWR_VCMD = false → a = s.accepted PWR_VCMD v →
      (700 ≤ v → v ≤ 800 → v % 5 = 0 → exec (.vcmd v) s = .next (({ a with pwr := { a.pwr with
        vcmd := some (v, s.setPoint, a.now) } } : State).setStat PWR_VCMD stBUSY).settle) ∧
      (v < 700 ∨ 800 < v ∨ v % 5 ≠ 0 →
        exec (.vcmd v) s = .next ((a.set PWR_STAT_REASON prRANGE).setStat PWR_VCMD stREFUSED).settle)) ∧
    (∀ t c u m b, s.pwr.vcmd = some (t, c, u) → b = s.set PWR_VMEAS_MV (min 1023 m) →
      (m ≤ c + 10 → c ≤ m + 10 → t = c → ∀ k, exec (.voltageStep m k) s = .next (b.voltageEnd stDONE t).settle) ∧
      (¬ (m ≤ c + 10 ∧ c ≤ m + 10) → u + 5000000 ≤ b.now → ∀ k,
        exec (.voltageStep m k) s = .next (b.voltageEnd stFAILED c).settle) ∧
      (m ≤ c + 10 → c ≤ m + 10 → t ≠ c → u * max 1 (b.get PWR_VCFG_SLEW) + 5000000 ≤ b.now * max 1 (b.get PWR_VCFG_SLEW) →
        exec (.voltageStep m false) s = .next (b.voltageEnd stFAILED c).settle ∧
        exec (.voltageStep m true) s = .next ({ b.sendStep (nextStep t c) with pwr := { (b.sendStep (nextStep t c)).pwr with
          vcmd := some (t, nextStep t c, b.now) } } : State).settle)) ∧
    (∀ n t, s.sensorValid n = true → s.sampleDue n = true →
      exec (.thmSample n t) s = .next (((s.pushSample n t).showSample n t).thmAct n t).settle) ∧
    (∀ n t, reached (s.sensorHist n) 1920 = true → s.bit THM_STAT_TRIPPED = false → s.thm.warn = true →
      s.thmAct n t = ((s.tripNow n t).riseCheck n t).warnClear n t) ∧
    (∀ t b, s.thm.stopAt = some t → s.inStop = true → s.thm.zero = false → t + 200000000 ≤ s.now → s.gridRuns = true →
      b = ({ s with thm := { s.thm with zero := true } } : State).set THM_STAT_STOPF 0 →
      exec .stopFactorZero s = .next ({ b with cmp := { b.cmp with next := none } } : State).settle) ∧
    (∀ t x b q, s.thm.tripAt = some t → t + 1000000000 ≤ s.now → b = ({ s with thm := { s.thm with tripAt := none } } : State) →
      b.readings.find? (fun x => decide (1920 ≤ x.2)) = some x → q = (b.thermal 9 x.1 x.2).allOff →
      exec .tripOffCheck s = .next (({ q with pins := { q.pins with faultN := true } } : State).set PWR_STAT_LASTAUTO 4).settle) ∧
    (∀ mv b, s.thm.nextRound ≤ s.now → mv.length = 10 → s.pwr.vcmd ≠ none →
      b = ({ s with thm := { s.thm with nextRound := s.now + 50000000 } } : State) → exec (.housekeepingRound mv) s =
        .next (mv.zipIdx.foldl (fun (x : State) y => x.supplyRead y.2 y.1) b).thmMax.memOver.settle)
end

