-- ==== Sys2Proof/Laws/Map.lean ====
section
/-! SUPPORT. The laws of the finite maps: a read after a write, and the canonical form that every write keeps. -/

namespace Sys2Proof.Machine

variable {α : Type}

theorem mget_minsert_same (d : α) (m : List (Nat × α)) (k : Nat) (v : α) (h : ∀ x ∈ m, x.1 ≠ k) :
    mget d (minsert k v m) k = v := by
  induction m with
  | nil => simp [minsert, mget]
  | cons x m ih =>
    obtain ⟨j, w⟩ := x
    simp only [minsert]
    split
    · simp [mget]
    · have hj : j ≠ k := h (j, w) (by simp)
      simp only [mget, hj, if_false]
      exact ih fun y hy => h y (by simp [hy])

theorem mget_minsert_ne (d : α) (m : List (Nat × α)) {k i : Nat} (v : α) (h : i ≠ k) :
    mget d (minsert k v m) i = mget d m i := by
  induction m with
  | nil => simp [minsert, mget, Ne.symm h]
  | cons x m ih =>
    obtain ⟨j, w⟩ := x
    simp only [minsert]
    split
    · simp [mget, Ne.symm h]
    · simp only [mget, ih]

theorem mem_merase_ne {m : List (Nat × α)} {k : Nat} : ∀ x ∈ merase k m, x.1 ≠ k := by
  induction m with
  | nil => simp [merase]
  | cons x m ih =>
    obtain ⟨j, w⟩ := x
    simp only [merase]
    split
    · exact ih
    · rename_i h
      intro y hy
      rcases List.mem_cons.1 hy with rfl | hy
      · exact h
      · exact ih y hy

theorem mget_merase_same (d : α) (m : List (Nat × α)) (k : Nat) : mget d (merase k m) k = d := by
  induction m with
  | nil => rfl
  | cons x m ih =>
    obtain ⟨j, w⟩ := x
    simp only [merase]
    split
    · exact ih
    · rename_i h
      simp only [mget, h, if_false, ih]

theorem mget_merase_ne (d : α) (m : List (Nat × α)) {k i : Nat} (h : i ≠ k) :
    mget d (merase k m) i = mget d m i := by
  induction m with
  | nil => rfl
  | cons x m ih =>
    obtain ⟨j, w⟩ := x
    simp only [merase]
    split
    · rename_i hj
      subst hj
      simp [mget, Ne.symm h, ih]
    · simp only [mget, ih]

/-- A read after a write to the same key gives the value written. -/
@[simp] theorem mget_mput_same [DecidableEq α] (d : α) (m : List (Nat × α)) (k : Nat) (v : α) :
    mget d (mput d m k v) k = v := by
  unfold mput
  split
  · rename_i h
    rw [h]
    exact mget_merase_same d m k
  · exact mget_minsert_same d _ k v mem_merase_ne

/-- A write leaves every other key alone, whatever the default of the key read. -/
theorem mget_mput_ne [DecidableEq α] (d e : α) (m : List (Nat × α)) {k i : Nat} (v : α) (h : i ≠ k) :
    mget d (mput e m k v) i = mget d m i := by
  unfold mput
  split
  · exact mget_merase_ne d m h
  · rw [mget_minsert_ne d _ v h, mget_merase_ne d m h]

/-! ### The canonical form -/

/-- All keys of the map lie above `k`. -/
def mabove (k : Nat) (m : List (Nat × α)) : Prop := ∀ x ∈ m, k < x.1

theorem msorted_cons (j : Nat) (v : α) (m : List (Nat × α)) :
    msorted ((j, v) :: m) = true ↔ mabove j m ∧ msorted m = true := by
  induction m generalizing j v with
  | nil => simp [msorted, mabove]
  | cons x m ih =>
    obtain ⟨k, w⟩ := x
    simp only [msorted, Bool.and_eq_true, decide_eq_true_eq]
    constructor
    · rintro ⟨h, hs⟩
      refine ⟨?_, hs⟩
      intro y hy
      rcases List.mem_cons.1 hy with rfl | hy
      · exact h
      · exact Nat.lt_trans h (((ih k w).1 hs).1 y hy)
    · rintro ⟨h, hs⟩
      exact ⟨h (k, w) (by simp), hs⟩

theorem mem_merase {m : List (Nat × α)} {k : Nat} {x : Nat × α} (h : x ∈ merase k m) : x ∈ m := by
  induction m with
  | nil => simp [merase] at h
  | cons y m ih =>
    obtain ⟨j, w⟩ := y
    simp only [merase] at h
    split at h
    · exact List.mem_cons_of_mem _ (ih h)
    · rcases List.mem_cons.1 h with rfl | h
      · simp
      · exact List.mem_cons_of_mem _ (ih h)

theorem msorted_merase {m : List (Nat × α)} (k : Nat) (h : msorted m = true) : msorted (merase k m) = true := by
  induction m with
  | nil => rfl
  | cons x m ih =>
    obtain ⟨j, w⟩ := x
    have h' := (msorted_cons j w m).1 h
    simp only [merase]
    split
    · exact ih h'.2
    · exact (msorted_cons _ _ _).2 ⟨fun y hy => h'.1 y (mem_merase hy), ih h'.2⟩

theorem mem_minsert {m : List (Nat × α)} {k : Nat} {v : α} {x : Nat × α} (h : x ∈ minsert k v m) :
    x = (k, v) ∨ x ∈ m := by
  induction m with
  | nil =>
    simp only [minsert, List.mem_singleton] at h
    exact Or.inl h
  | cons y m ih =>
    obtain ⟨j, w⟩ := y
    simp only [minsert] at h
    split at h
    · rcases List.mem_cons.1 h with h | h
      · exact Or.inl h
      · exact Or.inr h
    · rcases List.mem_cons.1 h with rfl | h
      · exact Or.inr (by simp)
      · rcases ih h with h | h
        · exact Or.inl h
        · exact Or.inr (List.mem_cons_of_mem _ h)

theorem msorted_minsert {m : List (Nat × α)} {k : Nat} (v : α) (h : msorted m = true) (hk : ∀ x ∈ m, x.1 ≠ k) :
    msorted (minsert k v m) = true := by
  induction m with
  | nil => rfl
  | cons x m ih =>
    obtain ⟨j, w⟩ := x
    have h' := (msorted_cons j w m).1 h
    have hj : j ≠ k := hk (j, w) (by simp)
    simp only [minsert]
    split
    · rename_i hlt
      refine (msorted_cons _ _ _).2 ⟨?_, h⟩
      intro y hy
      rcases List.mem_cons.1 hy with rfl | hy
      · exact hlt
      · exact Nat.lt_trans hlt (h'.1 y hy)
    · rename_i hlt
      refine (msorted_cons _ _ _).2 ⟨?_, ih h'.2 fun y hy => hk y (List.mem_cons_of_mem _ hy)⟩
      intro y hy
      rcases mem_minsert hy with rfl | hy
      · show j < k
        omega
      · exact h'.1 y hy

theorem mclean_iff [DecidableEq α] (d : Nat → α) (m : List (Nat × α)) :
    mclean d m = true ↔ ∀ x ∈ m, x.2 ≠ d x.1 := by
  induction m with
  | nil => simp [mclean]
  | cons x m ih =>
    obtain ⟨j, w⟩ := x
    simp only [mclean, Bool.and_eq_true, decide_eq_true_eq, ih, List.mem_cons, forall_eq_or_imp]

/-- The canonical form of the empty map. -/
@[simp] theorem mwf_nil [DecidableEq α] (d : Nat → α) : mwf d [] = true := rfl

/-- A write keeps the canonical form. -/
theorem mwf_mput [DecidableEq α] (d : Nat → α) (m : List (Nat × α)) (k : Nat) (v : α) (h : mwf d m = true) :
    mwf d (mput (d k) m k v) = true := by
  simp only [mwf, Bool.and_eq_true] at h ⊢
  have hc := (mclean_iff d m).1 h.2
  unfold mput
  split
  · exact ⟨msorted_merase k h.1, (mclean_iff d _).2 fun x hx => hc x (mem_merase hx)⟩
  · rename_i hv
    refine ⟨msorted_minsert v (msorted_merase k h.1) mem_merase_ne, (mclean_iff d _).2 ?_⟩
    intro x hx
    rcases mem_minsert hx with rfl | hx
    · exact hv
    · exact hc x (mem_merase hx)

/-- The canonical form is reached whatever the map. -/
@[simp] theorem mwf_mnorm [DecidableEq α] (d : Nat → α) (m : List (Nat × α)) : mwf d (mnorm d m) = true := by
  unfold mnorm
  split
  · assumption
  · rename_i h
    clear h
    induction m with
    | nil => rfl
    | cons x m ih => exact mwf_mput d _ x.1 x.2 ih

/-- A map in its canonical form stays as it is. -/
theorem mnorm_of_mwf [DecidableEq α] {d : Nat → α} {m : List (Nat × α)} (h : mwf d m = true) : mnorm d m = m := by
  simp [mnorm, h]

/-- The canonical form reads as the map did. -/
@[simp] theorem mget_mnorm [DecidableEq α] (d : Nat → α) (m : List (Nat × α)) (k : Nat) :
    mget (d k) (mnorm d m) k = mget (d k) m k := by
  unfold mnorm
  split
  · rfl
  · rename_i h
    clear h
    induction m with
    | nil => rfl
    | cons x m ih =>
      obtain ⟨j, w⟩ := x
      simp only [List.foldr_cons, mget]
      by_cases hj : j = k
      · subst hj
        simp
      · rw [mget_mput_ne _ _ _ _ (Ne.symm hj), ih]
        simp [hj]

/-! ### Lists -/

@[simp] theorem lset_length (l : List α) (i : Nat) (v : α) : (lset l i v).length = l.length := by
  induction l generalizing i with
  | nil => rfl
  | cons h t ih => cases i <;> simp [lset, ih]

theorem lget_lset_same (d : α) {l : List α} {i : Nat} (v : α) (h : i < l.length) : lget d (lset l i v) i = v := by
  induction l generalizing i with
  | nil => simp at h
  | cons x t ih =>
    cases i with
    | zero => rfl
    | succ n => exact ih (by simpa using h)

theorem lget_lset_ne (d : α) (l : List α) {i j : Nat} (v : α) (h : j ≠ i) : lget d (lset l i v) j = lget d l j := by
  induction l generalizing i j with
  | nil => rfl
  | cons x t ih =>
    cases i <;> cases j <;> simp_all [lset, lget]

end Sys2Proof.Machine
end

