-- ==== Sys2Proof/Laws/State.lean ====
section
/-! SUPPORT. What each update of the state leaves in every field: one lemma for each field and update. -/

namespace Sys2Proof.Machine

variable (s : State) (a st n r : Nat) (v : Word) (b : Byte) (f : Fld)

/-! ### wr -/

@[simp] theorem State.wr_head : (s.wr a v).head = s.head := rfl
@[simp] theorem State.wr_phase : (s.wr a v).phase = s.phase := rfl
@[simp] theorem State.wr_now : (s.wr a v).now = s.now := rfl
@[simp] theorem State.wr_mem : (s.wr a v).mem = s.mem := rfl
@[simp] theorem State.wr_pins : (s.wr a v).pins = s.pins := rfl
@[simp] theorem State.wr_tm : (s.wr a v).tm = s.tm := rfl
@[simp] theorem State.wr_eng : (s.wr a v).eng = s.eng := rfl
@[simp] theorem State.wr_note : (s.wr a v).note = s.note := rfl
@[simp] theorem State.wr_memc : (s.wr a v).memc = s.memc := rfl
@[simp] theorem State.wr_skd : (s.wr a v).skd = s.skd := rfl
@[simp] theorem State.wr_lnk : (s.wr a v).lnk = s.lnk := rfl
@[simp] theorem State.wr_eth : (s.wr a v).eth = s.eth := rfl
@[simp] theorem State.wr_cmp : (s.wr a v).cmp = s.cmp := rfl
@[simp] theorem State.wr_rdn : (s.wr a v).rdn = s.rdn := rfl
@[simp] theorem State.wr_ldu : (s.wr a v).ldu = s.ldu := rfl
@[simp] theorem State.wr_lcr : (s.wr a v).lcr = s.lcr := rfl
@[simp] theorem State.wr_lpe : (s.wr a v).lpe = s.lpe := rfl
@[simp] theorem State.wr_fw : (s.wr a v).fw = s.fw := rfl
@[simp] theorem State.wr_boot : (s.wr a v).boot = s.boot := rfl
@[simp] theorem State.wr_wc : (s.wr a v).wc = s.wc := rfl
@[simp] theorem State.wr_img : (s.wr a v).img = s.img := rfl
@[simp] theorem State.wr_ctl : (s.wr a v).ctl = s.ctl := rfl
@[simp] theorem State.wr_pwr : (s.wr a v).pwr = s.pwr := rfl
@[simp] theorem State.wr_thm : (s.wr a v).thm = s.thm := rfl
@[simp] theorem State.wr_fresh : (s.wr a v).fresh = s.fresh := rfl
@[simp] theorem State.wr_resp : (s.wr a v).resp = s.resp := rfl
@[simp] theorem State.wr_pending : (s.wr a v).pending = s.pending := rfl

/-! ### set -/

@[simp] theorem State.set_head : (s.set f n).head = s.head := rfl
@[simp] theorem State.set_phase : (s.set f n).phase = s.phase := rfl
@[simp] theorem State.set_now : (s.set f n).now = s.now := rfl
@[simp] theorem State.set_mem : (s.set f n).mem = s.mem := rfl
@[simp] theorem State.set_pins : (s.set f n).pins = s.pins := rfl
@[simp] theorem State.set_tm : (s.set f n).tm = s.tm := rfl
@[simp] theorem State.set_eng : (s.set f n).eng = s.eng := rfl
@[simp] theorem State.set_note : (s.set f n).note = s.note := rfl
@[simp] theorem State.set_memc : (s.set f n).memc = s.memc := rfl
@[simp] theorem State.set_skd : (s.set f n).skd = s.skd := rfl
@[simp] theorem State.set_lnk : (s.set f n).lnk = s.lnk := rfl
@[simp] theorem State.set_eth : (s.set f n).eth = s.eth := rfl
@[simp] theorem State.set_cmp : (s.set f n).cmp = s.cmp := rfl
@[simp] theorem State.set_rdn : (s.set f n).rdn = s.rdn := rfl
@[simp] theorem State.set_ldu : (s.set f n).ldu = s.ldu := rfl
@[simp] theorem State.set_lcr : (s.set f n).lcr = s.lcr := rfl
@[simp] theorem State.set_lpe : (s.set f n).lpe = s.lpe := rfl
@[simp] theorem State.set_fw : (s.set f n).fw = s.fw := rfl
@[simp] theorem State.set_boot : (s.set f n).boot = s.boot := rfl
@[simp] theorem State.set_wc : (s.set f n).wc = s.wc := rfl
@[simp] theorem State.set_img : (s.set f n).img = s.img := rfl
@[simp] theorem State.set_ctl : (s.set f n).ctl = s.ctl := rfl
@[simp] theorem State.set_pwr : (s.set f n).pwr = s.pwr := rfl
@[simp] theorem State.set_thm : (s.set f n).thm = s.thm := rfl
@[simp] theorem State.set_fresh : (s.set f n).fresh = s.fresh := rfl
@[simp] theorem State.set_resp : (s.set f n).resp = s.resp := rfl
@[simp] theorem State.set_pending : (s.set f n).pending = s.pending := rfl

/-! ### setStat -/

@[simp] theorem State.setStat_head : (s.setStat a st).head = s.head := rfl
@[simp] theorem State.setStat_phase : (s.setStat a st).phase = s.phase := rfl
@[simp] theorem State.setStat_now : (s.setStat a st).now = s.now := rfl
@[simp] theorem State.setStat_mem : (s.setStat a st).mem = s.mem := rfl
@[simp] theorem State.setStat_pins : (s.setStat a st).pins = s.pins := rfl
@[simp] theorem State.setStat_tm : (s.setStat a st).tm = s.tm := rfl
@[simp] theorem State.setStat_eng : (s.setStat a st).eng = s.eng := rfl
@[simp] theorem State.setStat_note : (s.setStat a st).note = s.note := rfl
@[simp] theorem State.setStat_memc : (s.setStat a st).memc = s.memc := rfl
@[simp] theorem State.setStat_skd : (s.setStat a st).skd = s.skd := rfl
@[simp] theorem State.setStat_lnk : (s.setStat a st).lnk = s.lnk := rfl
@[simp] theorem State.setStat_eth : (s.setStat a st).eth = s.eth := rfl
@[simp] theorem State.setStat_cmp : (s.setStat a st).cmp = s.cmp := rfl
@[simp] theorem State.setStat_rdn : (s.setStat a st).rdn = s.rdn := rfl
@[simp] theorem State.setStat_ldu : (s.setStat a st).ldu = s.ldu := rfl
@[simp] theorem State.setStat_lcr : (s.setStat a st).lcr = s.lcr := rfl
@[simp] theorem State.setStat_lpe : (s.setStat a st).lpe = s.lpe := rfl
@[simp] theorem State.setStat_fw : (s.setStat a st).fw = s.fw := rfl
@[simp] theorem State.setStat_boot : (s.setStat a st).boot = s.boot := rfl
@[simp] theorem State.setStat_wc : (s.setStat a st).wc = s.wc := rfl
@[simp] theorem State.setStat_img : (s.setStat a st).img = s.img := rfl
@[simp] theorem State.setStat_ctl : (s.setStat a st).ctl = s.ctl := rfl
@[simp] theorem State.setStat_pwr : (s.setStat a st).pwr = s.pwr := rfl
@[simp] theorem State.setStat_thm : (s.setStat a st).thm = s.thm := rfl
@[simp] theorem State.setStat_fresh : (s.setStat a st).fresh = s.fresh := rfl
@[simp] theorem State.setStat_resp : (s.setStat a st).resp = s.resp := rfl
@[simp] theorem State.setStat_pending : (s.setStat a st).pending = s.pending := rfl

/-! ### clearCount -/

@[simp] theorem State.clearCount_head : (s.clearCount a).head = s.head := rfl
@[simp] theorem State.clearCount_phase : (s.clearCount a).phase = s.phase := rfl
@[simp] theorem State.clearCount_now : (s.clearCount a).now = s.now := rfl
@[simp] theorem State.clearCount_mem : (s.clearCount a).mem = s.mem := rfl
@[simp] theorem State.clearCount_pins : (s.clearCount a).pins = s.pins := rfl
@[simp] theorem State.clearCount_tm : (s.clearCount a).tm = s.tm := rfl
@[simp] theorem State.clearCount_eng : (s.clearCount a).eng = s.eng := rfl
@[simp] theorem State.clearCount_note : (s.clearCount a).note = s.note := rfl
@[simp] theorem State.clearCount_memc : (s.clearCount a).memc = s.memc := rfl
@[simp] theorem State.clearCount_skd : (s.clearCount a).skd = s.skd := rfl
@[simp] theorem State.clearCount_lnk : (s.clearCount a).lnk = s.lnk := rfl
@[simp] theorem State.clearCount_eth : (s.clearCount a).eth = s.eth := rfl
@[simp] theorem State.clearCount_cmp : (s.clearCount a).cmp = s.cmp := rfl
@[simp] theorem State.clearCount_rdn : (s.clearCount a).rdn = s.rdn := rfl
@[simp] theorem State.clearCount_ldu : (s.clearCount a).ldu = s.ldu := rfl
@[simp] theorem State.clearCount_lcr : (s.clearCount a).lcr = s.lcr := rfl
@[simp] theorem State.clearCount_lpe : (s.clearCount a).lpe = s.lpe := rfl
@[simp] theorem State.clearCount_fw : (s.clearCount a).fw = s.fw := rfl
@[simp] theorem State.clearCount_boot : (s.clearCount a).boot = s.boot := rfl
@[simp] theorem State.clearCount_wc : (s.clearCount a).wc = s.wc := rfl
@[simp] theorem State.clearCount_img : (s.clearCount a).img = s.img := rfl
@[simp] theorem State.clearCount_ctl : (s.clearCount a).ctl = s.ctl := rfl
@[simp] theorem State.clearCount_pwr : (s.clearCount a).pwr = s.pwr := rfl
@[simp] theorem State.clearCount_thm : (s.clearCount a).thm = s.thm := rfl
@[simp] theorem State.clearCount_fresh : (s.clearCount a).fresh = s.fresh := rfl
@[simp] theorem State.clearCount_resp : (s.clearCount a).resp = s.resp := rfl
@[simp] theorem State.clearCount_pending : (s.clearCount a).pending = s.pending := rfl

/-! ### answer -/

@[simp] theorem State.answer_head : (s.answer r).head = s.head := rfl
@[simp] theorem State.answer_phase : (s.answer r).phase = s.phase := rfl
@[simp] theorem State.answer_now : (s.answer r).now = s.now := rfl
@[simp] theorem State.answer_regs : (s.answer r).regs = s.regs := rfl
@[simp] theorem State.answer_mem : (s.answer r).mem = s.mem := rfl
@[simp] theorem State.answer_pins : (s.answer r).pins = s.pins := rfl
@[simp] theorem State.answer_tm : (s.answer r).tm = s.tm := rfl
@[simp] theorem State.answer_eng : (s.answer r).eng = s.eng := rfl
@[simp] theorem State.answer_note : (s.answer r).note = s.note := rfl
@[simp] theorem State.answer_memc : (s.answer r).memc = s.memc := rfl
@[simp] theorem State.answer_skd : (s.answer r).skd = s.skd := rfl
@[simp] theorem State.answer_lnk : (s.answer r).lnk = s.lnk := rfl
@[simp] theorem State.answer_eth : (s.answer r).eth = s.eth := rfl
@[simp] theorem State.answer_cmp : (s.answer r).cmp = s.cmp := rfl
@[simp] theorem State.answer_rdn : (s.answer r).rdn = s.rdn := rfl
@[simp] theorem State.answer_ldu : (s.answer r).ldu = s.ldu := rfl
@[simp] theorem State.answer_lcr : (s.answer r).lcr = s.lcr := rfl
@[simp] theorem State.answer_lpe : (s.answer r).lpe = s.lpe := rfl
@[simp] theorem State.answer_fw : (s.answer r).fw = s.fw := rfl
@[simp] theorem State.answer_boot : (s.answer r).boot = s.boot := rfl
@[simp] theorem State.answer_wc : (s.answer r).wc = s.wc := rfl
@[simp] theorem State.answer_img : (s.answer r).img = s.img := rfl
@[simp] theorem State.answer_ctl : (s.answer r).ctl = s.ctl := rfl
@[simp] theorem State.answer_pwr : (s.answer r).pwr = s.pwr := rfl
@[simp] theorem State.answer_thm : (s.answer r).thm = s.thm := rfl
@[simp] theorem State.answer_fresh : (s.answer r).fresh = s.fresh := rfl
@[simp] theorem State.answer_pending : (s.answer r).pending = s.pending := rfl

/-! ### putByte -/

@[simp] theorem State.putByte_head : (s.putByte a b).head = s.head := rfl
@[simp] theorem State.putByte_phase : (s.putByte a b).phase = s.phase := rfl
@[simp] theorem State.putByte_now : (s.putByte a b).now = s.now := rfl
@[simp] theorem State.putByte_regs : (s.putByte a b).regs = s.regs := rfl
@[simp] theorem State.putByte_pins : (s.putByte a b).pins = s.pins := rfl
@[simp] theorem State.putByte_tm : (s.putByte a b).tm = s.tm := rfl
@[simp] theorem State.putByte_eng : (s.putByte a b).eng = s.eng := rfl
@[simp] theorem State.putByte_note : (s.putByte a b).note = s.note := rfl
@[simp] theorem State.putByte_memc : (s.putByte a b).memc = s.memc := rfl
@[simp] theorem State.putByte_skd : (s.putByte a b).skd = s.skd := rfl
@[simp] theorem State.putByte_lnk : (s.putByte a b).lnk = s.lnk := rfl
@[simp] theorem State.putByte_eth : (s.putByte a b).eth = s.eth := rfl
@[simp] theorem State.putByte_cmp : (s.putByte a b).cmp = s.cmp := rfl
@[simp] theorem State.putByte_rdn : (s.putByte a b).rdn = s.rdn := rfl
@[simp] theorem State.putByte_ldu : (s.putByte a b).ldu = s.ldu := rfl
@[simp] theorem State.putByte_lcr : (s.putByte a b).lcr = s.lcr := rfl
@[simp] theorem State.putByte_lpe : (s.putByte a b).lpe = s.lpe := rfl
@[simp] theorem State.putByte_fw : (s.putByte a b).fw = s.fw := rfl
@[simp] theorem State.putByte_boot : (s.putByte a b).boot = s.boot := rfl
@[simp] theorem State.putByte_wc : (s.putByte a b).wc = s.wc := rfl
@[simp] theorem State.putByte_img : (s.putByte a b).img = s.img := rfl
@[simp] theorem State.putByte_ctl : (s.putByte a b).ctl = s.ctl := rfl
@[simp] theorem State.putByte_pwr : (s.putByte a b).pwr = s.pwr := rfl
@[simp] theorem State.putByte_thm : (s.putByte a b).thm = s.thm := rfl
@[simp] theorem State.putByte_fresh : (s.putByte a b).fresh = s.fresh := rfl
@[simp] theorem State.putByte_resp : (s.putByte a b).resp = s.resp := rfl
@[simp] theorem State.putByte_pending : (s.putByte a b).pending = s.pending := rfl

/-! ### settle -/

@[simp] theorem State.settle_head : s.settle.head = s.head := rfl
@[simp] theorem State.settle_phase : s.settle.phase = s.phase := rfl
@[simp] theorem State.settle_now : s.settle.now = s.now := rfl
@[simp] theorem State.settle_regs : s.settle.regs = s.regs := rfl
@[simp] theorem State.settle_pins : s.settle.pins = s.pins := rfl
@[simp] theorem State.settle_tm : s.settle.tm = s.tm := rfl
@[simp] theorem State.settle_eng : s.settle.eng = s.eng := rfl
@[simp] theorem State.settle_note : s.settle.note = s.note := rfl
@[simp] theorem State.settle_memc : s.settle.memc = s.memc := rfl
@[simp] theorem State.settle_skd : s.settle.skd = s.skd := rfl
@[simp] theorem State.settle_lnk : s.settle.lnk = s.lnk := rfl
@[simp] theorem State.settle_eth : s.settle.eth = s.eth := rfl
@[simp] theorem State.settle_cmp : s.settle.cmp = s.cmp := rfl
@[simp] theorem State.settle_rdn : s.settle.rdn = s.rdn := rfl
@[simp] theorem State.settle_ldu : s.settle.ldu = s.ldu := rfl
@[simp] theorem State.settle_lcr : s.settle.lcr = s.lcr := rfl
@[simp] theorem State.settle_lpe : s.settle.lpe = s.lpe := rfl
@[simp] theorem State.settle_fw : s.settle.fw = s.fw := rfl
@[simp] theorem State.settle_boot : s.settle.boot = s.boot := rfl
@[simp] theorem State.settle_wc : s.settle.wc = s.wc := rfl
@[simp] theorem State.settle_img : s.settle.img = s.img := rfl
@[simp] theorem State.settle_ctl : s.settle.ctl = s.ctl := rfl
@[simp] theorem State.settle_pwr : s.settle.pwr = s.pwr := rfl
@[simp] theorem State.settle_thm : s.settle.thm = s.thm := rfl
@[simp] theorem State.settle_fresh : s.settle.fresh = s.fresh := rfl
@[simp] theorem State.settle_resp : s.settle.resp = s.resp := rfl
@[simp] theorem State.settle_pending : s.settle.pending = s.pending := rfl

@[simp] theorem State.answer_resp : (s.answer r).resp = r := rfl

/-! ### queue -/

@[simp] theorem State.queue_head (l : List Instr) : (s.queue l).head = s.head := rfl
@[simp] theorem State.queue_phase (l : List Instr) : (s.queue l).phase = s.phase := rfl
@[simp] theorem State.queue_now (l : List Instr) : (s.queue l).now = s.now := rfl
@[simp] theorem State.queue_regs (l : List Instr) : (s.queue l).regs = s.regs := rfl
@[simp] theorem State.queue_mem (l : List Instr) : (s.queue l).mem = s.mem := rfl
@[simp] theorem State.queue_pins (l : List Instr) : (s.queue l).pins = s.pins := rfl
@[simp] theorem State.queue_tm (l : List Instr) : (s.queue l).tm = s.tm := rfl
@[simp] theorem State.queue_eng (l : List Instr) : (s.queue l).eng = s.eng := rfl
@[simp] theorem State.queue_note (l : List Instr) : (s.queue l).note = s.note := rfl
@[simp] theorem State.queue_memc (l : List Instr) : (s.queue l).memc = s.memc := rfl
@[simp] theorem State.queue_skd (l : List Instr) : (s.queue l).skd = s.skd := rfl
@[simp] theorem State.queue_lnk (l : List Instr) : (s.queue l).lnk = s.lnk := rfl
@[simp] theorem State.queue_eth (l : List Instr) : (s.queue l).eth = s.eth := rfl
@[simp] theorem State.queue_cmp (l : List Instr) : (s.queue l).cmp = s.cmp := rfl
@[simp] theorem State.queue_rdn (l : List Instr) : (s.queue l).rdn = s.rdn := rfl
@[simp] theorem State.queue_ldu (l : List Instr) : (s.queue l).ldu = s.ldu := rfl
@[simp] theorem State.queue_lcr (l : List Instr) : (s.queue l).lcr = s.lcr := rfl
@[simp] theorem State.queue_lpe (l : List Instr) : (s.queue l).lpe = s.lpe := rfl
@[simp] theorem State.queue_fw (l : List Instr) : (s.queue l).fw = s.fw := rfl
@[simp] theorem State.queue_boot (l : List Instr) : (s.queue l).boot = s.boot := rfl
@[simp] theorem State.queue_wc (l : List Instr) : (s.queue l).wc = s.wc := rfl
@[simp] theorem State.queue_img (l : List Instr) : (s.queue l).img = s.img := rfl
@[simp] theorem State.queue_ctl (l : List Instr) : (s.queue l).ctl = s.ctl := rfl
@[simp] theorem State.queue_pwr (l : List Instr) : (s.queue l).pwr = s.pwr := rfl
@[simp] theorem State.queue_thm (l : List Instr) : (s.queue l).thm = s.thm := rfl
@[simp] theorem State.queue_fresh (l : List Instr) : (s.queue l).fresh = s.fresh := rfl
@[simp] theorem State.queue_resp (l : List Instr) : (s.queue l).resp = s.resp := rfl
@[simp] theorem State.queue_pending (l : List Instr) : (s.queue l).pending = l := rfl

/-! ### setAll -/

@[simp] theorem State.setAll_head (l : List (Fld × Nat)) : (s.setAll l).head = s.head := by
  induction l generalizing s with
  | nil => rfl
  | cons x l ih => exact ih _
@[simp] theorem State.setAll_phase (l : List (Fld × Nat)) : (s.setAll l).phase = s.phase := by
  induction l generalizing s with
  | nil => rfl
  | cons x l ih => exact ih _
@[simp] theorem State.setAll_now (l : List (Fld × Nat)) : (s.setAll l).now = s.now := by
  induction l generalizing s with
  | nil => rfl
  | cons x l ih => exact ih _
@[simp] theorem State.setAll_mem (l : List (Fld × Nat)) : (s.setAll l).mem = s.mem := by
  induction l generalizing s with
  | nil => rfl
  | cons x l ih => exact ih _
@[simp] theorem State.setAll_pins (l : List (Fld × Nat)) : (s.setAll l).pins = s.pins := by
  induction l generalizing s with
  | nil => rfl
  | cons x l ih => exact ih _
@[simp] theorem State.setAll_tm (l : List (Fld × Nat)) : (s.setAll l).tm = s.tm := by
  induction l generalizing s with
  | nil => rfl
  | cons x l ih => exact ih _
@[simp] theorem State.setAll_eng (l : List (Fld × Nat)) : (s.setAll l).eng = s.eng := by
  induction l generalizing s with
  | nil => rfl
  | cons x l ih => exact ih _
@[simp] theorem State.setAll_note (l : List (Fld × Nat)) : (s.setAll l).note = s.note := by
  induction l generalizing s with
  | nil => rfl
  | cons x l ih => exact ih _
@[simp] theorem State.setAll_memc (l : List (Fld × Nat)) : (s.setAll l).memc = s.memc := by
  induction l generalizing s with
  | nil => rfl
  | cons x l ih => exact ih _
@[simp] theorem State.setAll_skd (l : List (Fld × Nat)) : (s.setAll l).skd = s.skd := by
  induction l generalizing s with
  | nil => rfl
  | cons x l ih => exact ih _
@[simp] theorem State.setAll_lnk (l : List (Fld × Nat)) : (s.setAll l).lnk = s.lnk := by
  induction l generalizing s with
  | nil => rfl
  | cons x l ih => exact ih _
@[simp] theorem State.setAll_eth (l : List (Fld × Nat)) : (s.setAll l).eth = s.eth := by
  induction l generalizing s with
  | nil => rfl
  | cons x l ih => exact ih _
@[simp] theorem State.setAll_cmp (l : List (Fld × Nat)) : (s.setAll l).cmp = s.cmp := by
  induction l generalizing s with
  | nil => rfl
  | cons x l ih => exact ih _
@[simp] theorem State.setAll_rdn (l : List (Fld × Nat)) : (s.setAll l).rdn = s.rdn := by
  induction l generalizing s with
  | nil => rfl
  | cons x l ih => exact ih _
@[simp] theorem State.setAll_ldu (l : List (Fld × Nat)) : (s.setAll l).ldu = s.ldu := by
  induction l generalizing s with
  | nil => rfl
  | cons x l ih => exact ih _
@[simp] theorem State.setAll_lcr (l : List (Fld × Nat)) : (s.setAll l).lcr = s.lcr := by
  induction l generalizing s with
  | nil => rfl
  | cons x l ih => exact ih _
@[simp] theorem State.setAll_lpe (l : List (Fld × Nat)) : (s.setAll l).lpe = s.lpe := by
  induction l generalizing s with
  | nil => rfl
  | cons x l ih => exact ih _
@[simp] theorem State.setAll_fw (l : List (Fld × Nat)) : (s.setAll l).fw = s.fw := by
  induction l generalizing s with
  | nil => rfl
  | cons x l ih => exact ih _
@[simp] theorem State.setAll_boot (l : List (Fld × Nat)) : (s.setAll l).boot = s.boot := by
  induction l generalizing s with
  | nil => rfl
  | cons x l ih => exact ih _
@[simp] theorem State.setAll_wc (l : List (Fld × Nat)) : (s.setAll l).wc = s.wc := by
  induction l generalizing s with
  | nil => rfl
  | cons x l ih => exact ih _
@[simp] theorem State.setAll_img (l : List (Fld × Nat)) : (s.setAll l).img = s.img := by
  induction l generalizing s with
  | nil => rfl
  | cons x l ih => exact ih _
@[simp] theorem State.setAll_ctl (l : List (Fld × Nat)) : (s.setAll l).ctl = s.ctl := by
  induction l generalizing s with
  | nil => rfl
  | cons x l ih => exact ih _
@[simp] theorem State.setAll_pwr (l : List (Fld × Nat)) : (s.setAll l).pwr = s.pwr := by
  induction l generalizing s with
  | nil => rfl
  | cons x l ih => exact ih _
@[simp] theorem State.setAll_thm (l : List (Fld × Nat)) : (s.setAll l).thm = s.thm := by
  induction l generalizing s with
  | nil => rfl
  | cons x l ih => exact ih _
@[simp] theorem State.setAll_fresh (l : List (Fld × Nat)) : (s.setAll l).fresh = s.fresh := by
  induction l generalizing s with
  | nil => rfl
  | cons x l ih => exact ih _
@[simp] theorem State.setAll_resp (l : List (Fld × Nat)) : (s.setAll l).resp = s.resp := by
  induction l generalizing s with
  | nil => rfl
  | cons x l ih => exact ih _
@[simp] theorem State.setAll_pending (l : List (Fld × Nat)) : (s.setAll l).pending = s.pending := by
  induction l generalizing s with
  | nil => rfl
  | cons x l ih => exact ih _

/-! ### putBytes -/

@[simp] theorem State.putBytes_head (l : List Byte) : (s.putBytes a l).head = s.head := by
  induction l generalizing s a with
  | nil => rfl
  | cons x l ih => exact ih _ _
@[simp] theorem State.putBytes_phase (l : List Byte) : (s.putBytes a l).phase = s.phase := by
  induction l generalizing s a with
  | nil => rfl
  | cons x l ih => exact ih _ _
@[simp] theorem State.putBytes_now (l : List Byte) : (s.putBytes a l).now = s.now := by
  induction l generalizing s a with
  | nil => rfl
  | cons x l ih => exact ih _ _
@[simp] theorem State.putBytes_regs (l : List Byte) : (s.putBytes a l).regs = s.regs := by
  induction l generalizing s a with
  | nil => rfl
  | cons x l ih => exact ih _ _
@[simp] theorem State.putBytes_pins (l : List Byte) : (s.putBytes a l).pins = s.pins := by
  induction l generalizing s a with
  | nil => rfl
  | cons x l ih => exact ih _ _
@[simp] theorem State.putBytes_tm (l : List Byte) : (s.putBytes a l).tm = s.tm := by
  induction l generalizing s a with
  | nil => rfl
  | cons x l ih => exact ih _ _
@[simp] theorem State.putBytes_eng (l : List Byte) : (s.putBytes a l).eng = s.eng := by
  induction l generalizing s a with
  | nil => rfl
  | cons x l ih => exact ih _ _
@[simp] theorem State.putBytes_note (l : List Byte) : (s.putBytes a l).note = s.note := by
  induction l generalizing s a with
  | nil => rfl
  | cons x l ih => exact ih _ _
@[simp] theorem State.putBytes_memc (l : List Byte) : (s.putBytes a l).memc = s.memc := by
  induction l generalizing s a with
  | nil => rfl
  | cons x l ih => exact ih _ _
@[simp] theorem State.putBytes_skd (l : List Byte) : (s.putBytes a l).skd = s.skd := by
  induction l generalizing s a with
  | nil => rfl
  | cons x l ih => exact ih _ _
@[simp] theorem State.putBytes_lnk (l : List Byte) : (s.putBytes a l).lnk = s.lnk := by
  induction l generalizing s a with
  | nil => rfl
  | cons x l ih => exact ih _ _
@[simp] theorem State.putBytes_eth (l : List Byte) : (s.putBytes a l).eth = s.eth := by
  induction l generalizing s a with
  | nil => rfl
  | cons x l ih => exact ih _ _
@[simp] theorem State.putBytes_cmp (l : List Byte) : (s.putBytes a l).cmp = s.cmp := by
  induction l generalizing s a with
  | nil => rfl
  | cons x l ih => exact ih _ _
@[simp] theorem State.putBytes_rdn (l : List Byte) : (s.putBytes a l).rdn = s.rdn := by
  induction l generalizing s a with
  | nil => rfl
  | cons x l ih => exact ih _ _
@[simp] theorem State.putBytes_ldu (l : List Byte) : (s.putBytes a l).ldu = s.ldu := by
  induction l generalizing s a with
  | nil => rfl
  | cons x l ih => exact ih _ _
@[simp] theorem State.putBytes_lcr (l : List Byte) : (s.putBytes a l).lcr = s.lcr := by
  induction l generalizing s a with
  | nil => rfl
  | cons x l ih => exact ih _ _
@[simp] theorem State.putBytes_lpe (l : List Byte) : (s.putBytes a l).lpe = s.lpe := by
  induction l generalizing s a with
  | nil => rfl
  | cons x l ih => exact ih _ _
@[simp] theorem State.putBytes_fw (l : List Byte) : (s.putBytes a l).fw = s.fw := by
  induction l generalizing s a with
  | nil => rfl
  | cons x l ih => exact ih _ _
@[simp] theorem State.putBytes_boot (l : List Byte) : (s.putBytes a l).boot = s.boot := by
  induction l generalizing s a with
  | nil => rfl
  | cons x l ih => exact ih _ _
@[simp] theorem State.putBytes_wc (l : List Byte) : (s.putBytes a l).wc = s.wc := by
  induction l generalizing s a with
  | nil => rfl
  | cons x l ih => exact ih _ _
@[simp] theorem State.putBytes_img (l : List Byte) : (s.putBytes a l).img = s.img := by
  induction l generalizing s a with
  | nil => rfl
  | cons x l ih => exact ih _ _
@[simp] theorem State.putBytes_ctl (l : List Byte) : (s.putBytes a l).ctl = s.ctl := by
  induction l generalizing s a with
  | nil => rfl
  | cons x l ih => exact ih _ _
@[simp] theorem State.putBytes_pwr (l : List Byte) : (s.putBytes a l).pwr = s.pwr := by
  induction l generalizing s a with
  | nil => rfl
  | cons x l ih => exact ih _ _
@[simp] theorem State.putBytes_thm (l : List Byte) : (s.putBytes a l).thm = s.thm := by
  induction l generalizing s a with
  | nil => rfl
  | cons x l ih => exact ih _ _
@[simp] theorem State.putBytes_fresh (l : List Byte) : (s.putBytes a l).fresh = s.fresh := by
  induction l generalizing s a with
  | nil => rfl
  | cons x l ih => exact ih _ _
@[simp] theorem State.putBytes_resp (l : List Byte) : (s.putBytes a l).resp = s.resp := by
  induction l generalizing s a with
  | nil => rfl
  | cons x l ih => exact ih _ _
@[simp] theorem State.putBytes_pending (l : List Byte) : (s.putBytes a l).pending = s.pending := by
  induction l generalizing s a with
  | nil => rfl
  | cons x l ih => exact ih _ _

/-! ### bumpN -/

@[simp] theorem State.bumpN_head : (s.bumpN a n).head = s.head := by
  simp only [State.bumpN]; split <;> rfl
@[simp] theorem State.bumpN_phase : (s.bumpN a n).phase = s.phase := by
  simp only [State.bumpN]; split <;> rfl
@[simp] theorem State.bumpN_now : (s.bumpN a n).now = s.now := by
  simp only [State.bumpN]; split <;> rfl
@[simp] theorem State.bumpN_mem : (s.bumpN a n).mem = s.mem := by
  simp only [State.bumpN]; split <;> rfl
@[simp] theorem State.bumpN_pins : (s.bumpN a n).pins = s.pins := by
  simp only [State.bumpN]; split <;> rfl
@[simp] theorem State.bumpN_tm : (s.bumpN a n).tm = s.tm := by
  simp only [State.bumpN]; split <;> rfl
@[simp] theorem State.bumpN_eng : (s.bumpN a n).eng = s.eng := by
  simp only [State.bumpN]; split <;> rfl
@[simp] theorem State.bumpN_note : (s.bumpN a n).note = s.note := by
  simp only [State.bumpN]; split <;> rfl
@[simp] theorem State.bumpN_memc : (s.bumpN a n).memc = s.memc := by
  simp only [State.bumpN]; split <;> rfl
@[simp] theorem State.bumpN_skd : (s.bumpN a n).skd = s.skd := by
  simp only [State.bumpN]; split <;> rfl
@[simp] theorem State.bumpN_lnk : (s.bumpN a n).lnk = s.lnk := by
  simp only [State.bumpN]; split <;> rfl
@[simp] theorem State.bumpN_eth : (s.bumpN a n).eth = s.eth := by
  simp only [State.bumpN]; split <;> rfl
@[simp] theorem State.bumpN_cmp : (s.bumpN a n).cmp = s.cmp := by
  simp only [State.bumpN]; split <;> rfl
@[simp] theorem State.bumpN_rdn : (s.bumpN a n).rdn = s.rdn := by
  simp only [State.bumpN]; split <;> rfl
@[simp] theorem State.bumpN_ldu : (s.bumpN a n).ldu = s.ldu := by
  simp only [State.bumpN]; split <;> rfl
@[simp] theorem State.bumpN_lcr : (s.bumpN a n).lcr = s.lcr := by
  simp only [State.bumpN]; split <;> rfl
@[simp] theorem State.bumpN_lpe : (s.bumpN a n).lpe = s.lpe := by
  simp only [State.bumpN]; split <;> rfl
@[simp] theorem State.bumpN_fw : (s.bumpN a n).fw = s.fw := by
  simp only [State.bumpN]; split <;> rfl
@[simp] theorem State.bumpN_boot : (s.bumpN a n).boot = s.boot := by
  simp only [State.bumpN]; split <;> rfl
@[simp] theorem State.bumpN_wc : (s.bumpN a n).wc = s.wc := by
  simp only [State.bumpN]; split <;> rfl
@[simp] theorem State.bumpN_img : (s.bumpN a n).img = s.img := by
  simp only [State.bumpN]; split <;> rfl
@[simp] theorem State.bumpN_ctl : (s.bumpN a n).ctl = s.ctl := by
  simp only [State.bumpN]; split <;> rfl
@[simp] theorem State.bumpN_pwr : (s.bumpN a n).pwr = s.pwr := by
  simp only [State.bumpN]; split <;> rfl
@[simp] theorem State.bumpN_thm : (s.bumpN a n).thm = s.thm := by
  simp only [State.bumpN]; split <;> rfl
@[simp] theorem State.bumpN_fresh : (s.bumpN a n).fresh = s.fresh := by
  simp only [State.bumpN]; split <;> rfl
@[simp] theorem State.bumpN_resp : (s.bumpN a n).resp = s.resp := by
  simp only [State.bumpN]; split <;> rfl
@[simp] theorem State.bumpN_pending : (s.bumpN a n).pending = s.pending := by
  simp only [State.bumpN]; split <;> rfl

/-! ### bump -/

@[simp] theorem State.bump_head : (s.bump a).head = s.head := by
  simp [State.bump]
@[simp] theorem State.bump_phase : (s.bump a).phase = s.phase := by
  simp [State.bump]
@[simp] theorem State.bump_now : (s.bump a).now = s.now := by
  simp [State.bump]
@[simp] theorem State.bump_mem : (s.bump a).mem = s.mem := by
  simp [State.bump]
@[simp] theorem State.bump_pins : (s.bump a).pins = s.pins := by
  simp [State.bump]
@[simp] theorem State.bump_tm : (s.bump a).tm = s.tm := by
  simp [State.bump]
@[simp] theorem State.bump_eng : (s.bump a).eng = s.eng := by
  simp [State.bump]
@[simp] theorem State.bump_note : (s.bump a).note = s.note := by
  simp [State.bump]
@[simp] theorem State.bump_memc : (s.bump a).memc = s.memc := by
  simp [State.bump]
@[simp] theorem State.bump_skd : (s.bump a).skd = s.skd := by
  simp [State.bump]
@[simp] theorem State.bump_lnk : (s.bump a).lnk = s.lnk := by
  simp [State.bump]
@[simp] theorem State.bump_eth : (s.bump a).eth = s.eth := by
  simp [State.bump]
@[simp] theorem State.bump_cmp : (s.bump a).cmp = s.cmp := by
  simp [State.bump]
@[simp] theorem State.bump_rdn : (s.bump a).rdn = s.rdn := by
  simp [State.bump]
@[simp] theorem State.bump_ldu : (s.bump a).ldu = s.ldu := by
  simp [State.bump]
@[simp] theorem State.bump_lcr : (s.bump a).lcr = s.lcr := by
  simp [State.bump]
@[simp] theorem State.bump_lpe : (s.bump a).lpe = s.lpe := by
  simp [State.bump]
@[simp] theorem State.bump_fw : (s.bump a).fw = s.fw := by
  simp [State.bump]
@[simp] theorem State.bump_boot : (s.bump a).boot = s.boot := by
  simp [State.bump]
@[simp] theorem State.bump_wc : (s.bump a).wc = s.wc := by
  simp [State.bump]
@[simp] theorem State.bump_img : (s.bump a).img = s.img := by
  simp [State.bump]
@[simp] theorem State.bump_ctl : (s.bump a).ctl = s.ctl := by
  simp [State.bump]
@[simp] theorem State.bump_pwr : (s.bump a).pwr = s.pwr := by
  simp [State.bump]
@[simp] theorem State.bump_thm : (s.bump a).thm = s.thm := by
  simp [State.bump]
@[simp] theorem State.bump_fresh : (s.bump a).fresh = s.fresh := by
  simp [State.bump]
@[simp] theorem State.bump_resp : (s.bump a).resp = s.resp := by
  simp [State.bump]
@[simp] theorem State.bump_pending : (s.bump a).pending = s.pending := by
  simp [State.bump]

end Sys2Proof.Machine
end

