-- ==== Sys2Proof/Laws/Ops.lean ====
section
/-! SUPPORT. The laws of the named operations: fields of words, registers, command registers, counters, memory in its
canonical form, and the end of a command. -/

namespace Sys2Proof.Machine

/-! ### Fields of a word (R5) -/

theorem getBits_lt (v : Word) (lo w : Nat) : getBits v lo w < 2 ^ w := Nat.mod_lt _ (Nat.two_pow_pos w)

/-- A field just written reads as the value written, cut to its width. -/
theorem getBits_putBits_same (v : Word) {lo w : Nat} (n : Nat) (h : lo + w ≤ 32) :
    getBits (putBits v lo w n) lo w = n % 2 ^ w := by
  have hv : v.toNat < 2 ^ 32 := v.isLt
  have hn : n % 2 ^ w < 2 ^ w := Nat.mod_lt _ (Nat.two_pow_pos w)
  have hlo : v.toNat % 2 ^ lo < 2 ^ lo := Nat.mod_lt _ (Nat.two_pow_pos lo)
  have e : 2 ^ (lo + w) = 2 ^ lo * 2 ^ w := Nat.pow_add 2 lo w
  have e32 : 2 ^ 32 = 2 ^ (lo + w) * 2 ^ (32 - (lo + w)) := by rw [← Nat.pow_add]; congr 1; omega
  have hq : v.toNat / 2 ^ (lo + w) < 2 ^ (32 - (lo + w)) := by
    apply Nat.div_lt_of_lt_mul
    omega
  have hle : v.toNat / 2 ^ (lo + w) + 1 ≤ 2 ^ (32 - (lo + w)) := hq
  have hm := Nat.mul_le_mul_left (2 ^ (lo + w)) hle
  have hin : v.toNat % 2 ^ lo + 2 ^ lo * (n % 2 ^ w) < 2 ^ (lo + w) := by
    have : n % 2 ^ w + 1 ≤ 2 ^ w := hn
    have := Nat.mul_le_mul_left (2 ^ lo) this
    rw [e]
    rw [Nat.mul_add] at this
    omega
  have hb : v.toNat % 2 ^ lo + 2 ^ lo * (n % 2 ^ w) + 2 ^ (lo + w) * (v.toNat / 2 ^ (lo + w)) < 2 ^ 32 := by
    rw [Nat.mul_add] at hm
    omega
  unfold getBits putBits
  rw [BitVec.toNat_ofNat, Nat.mod_eq_of_lt hb, e, Nat.mul_assoc, Nat.add_assoc, ← Nat.mul_add,
    Nat.add_mul_div_left _ _ (Nat.two_pow_pos lo), Nat.div_eq_of_lt hlo, Nat.zero_add, Nat.add_mul_mod_self_left,
    Nat.mod_mod]

/-- Bits outside a field stay as they were when the field is written. -/
theorem getBits_putBits_below (v : Word) {lo w lo' w' : Nat} (n : Nat) (h : lo + w ≤ 32) (h' : lo' + w' ≤ lo) :
    getBits (putBits v lo w n) lo' w' = getBits v lo' w' := by
  have hv : v.toNat < 2 ^ 32 := v.isLt
  have e : 2 ^ (lo + w) = 2 ^ lo * 2 ^ w := Nat.pow_add 2 lo w
  have e32 : 2 ^ 32 = 2 ^ (lo + w) * 2 ^ (32 - (lo + w)) := by rw [← Nat.pow_add]; congr 1; omega
  have hn : n % 2 ^ w < 2 ^ w := Nat.mod_lt _ (Nat.two_pow_pos w)
  have hlo : v.toNat % 2 ^ lo < 2 ^ lo := Nat.mod_lt _ (Nat.two_pow_pos lo)
  have hq : v.toNat / 2 ^ (lo + w) < 2 ^ (32 - (lo + w)) := by
    apply Nat.div_lt_of_lt_mul
    omega
  have hm := Nat.mul_le_mul_left (2 ^ (lo + w)) (show v.toNat / 2 ^ (lo + w) + 1 ≤ 2 ^ (32 - (lo + w)) from hq)
  have hin : v.toNat % 2 ^ lo + 2 ^ lo * (n % 2 ^ w) < 2 ^ (lo + w) := by
    have := Nat.mul_le_mul_left (2 ^ lo) (show n % 2 ^ w + 1 ≤ 2 ^ w from hn)
    rw [e]
    rw [Nat.mul_add] at this
    omega
  have hb : v.toNat % 2 ^ lo + 2 ^ lo * (n % 2 ^ w) + 2 ^ (lo + w) * (v.toNat / 2 ^ (lo + w)) < 2 ^ 32 := by
    rw [Nat.mul_add] at hm
    omega
  have key : (putBits v lo w n).toNat % 2 ^ lo = v.toNat % 2 ^ lo := by
    unfold putBits
    rw [BitVec.toNat_ofNat, Nat.mod_eq_of_lt hb, e, Nat.mul_assoc, Nat.add_assoc, ← Nat.mul_add,
      Nat.add_mul_mod_self_left, Nat.mod_mod]
  have cut : ∀ x : Nat, x / 2 ^ lo' % 2 ^ w' = x % 2 ^ lo / 2 ^ lo' % 2 ^ w' := by
    intro x
    have : 2 ^ lo = 2 ^ lo' * 2 ^ (lo - lo') := by rw [← Nat.pow_add]; congr 1; omega
    rw [this, Nat.mod_mul_right_div_self]
    have h2 : 2 ^ w' ∣ 2 ^ (lo - lo') := Nat.pow_dvd_pow 2 (by omega)
    rw [Nat.mod_mod_of_dvd _ h2]
  unfold getBits
  rw [cut, key, ← cut]

theorem getBits_putBits_above (v : Word) {lo w lo' w' : Nat} (n : Nat) (h : lo + w ≤ lo') (h' : lo' + w' ≤ 32) :
    getBits (putBits v lo w n) lo' w' = getBits v lo' w' := by
  have hv : v.toNat < 2 ^ 32 := v.isLt
  have e : 2 ^ (lo + w) = 2 ^ lo * 2 ^ w := Nat.pow_add 2 lo w
  have e32 : 2 ^ 32 = 2 ^ (lo + w) * 2 ^ (32 - (lo + w)) := by rw [← Nat.pow_add]; congr 1; omega
  have hn : n % 2 ^ w < 2 ^ w := Nat.mod_lt _ (Nat.two_pow_pos w)
  have hlo : v.toNat % 2 ^ lo < 2 ^ lo := Nat.mod_lt _ (Nat.two_pow_pos lo)
  have hq : v.toNat / 2 ^ (lo + w) < 2 ^ (32 - (lo + w)) := by
    apply Nat.div_lt_of_lt_mul
    omega
  have hm := Nat.mul_le_mul_left (2 ^ (lo + w)) (show v.toNat / 2 ^ (lo + w) + 1 ≤ 2 ^ (32 - (lo + w)) from hq)
  have hin : v.toNat % 2 ^ lo + 2 ^ lo * (n % 2 ^ w) < 2 ^ (lo + w) := by
    have := Nat.mul_le_mul_left (2 ^ lo) (show n % 2 ^ w + 1 ≤ 2 ^ w from hn)
    rw [e]
    rw [Nat.mul_add] at this
    omega
  have hb : v.toNat % 2 ^ lo + 2 ^ lo * (n % 2 ^ w) + 2 ^ (lo + w) * (v.toNat / 2 ^ (lo + w)) < 2 ^ 32 := by
    rw [Nat.mul_add] at hm
    omega
  have key : (putBits v lo w n).toNat / 2 ^ (lo + w) = v.toNat / 2 ^ (lo + w) := by
    unfold putBits
    rw [BitVec.toNat_ofNat, Nat.mod_eq_of_lt hb, Nat.add_mul_div_left _ _ (Nat.two_pow_pos _), Nat.div_eq_of_lt hin,
      Nat.zero_add]
  have cut : ∀ x : Nat, x / 2 ^ lo' = x / 2 ^ (lo + w) / 2 ^ (lo' - (lo + w)) := by
    intro x
    rw [Nat.div_div_eq_div_mul, ← Nat.pow_add]
    congr 2
    omega
  unfold getBits
  rw [cut, key, ← cut]

/-! ### Registers -/

/-- A register just written reads as written. -/
@[simp] theorem rd_wr_same (s : State) (a : Nat) (v : Word) : (s.wr a v).rd a = v := mget_mput_same _ _ _ _

/-- Writing a register leaves every other. -/
theorem rd_wr_ne (s : State) {a b : Nat} (v : Word) (h : b ≠ a) : (s.wr a v).rd b = s.rd b := mget_mput_ne _ _ _ _ h

@[simp] theorem rd_settle (s : State) (a : Nat) : s.settle.rd a = s.rd a := rfl
@[simp] theorem get_settle (s : State) (f : Fld) : s.settle.get f = s.get f := rfl
@[simp] theorem bit_settle (s : State) (f : Fld) : s.settle.bit f = s.bit f := rfl
@[simp] theorem stat_settle (s : State) (a : Nat) : s.settle.stat a = s.stat a := rfl
@[simp] theorem count_settle (s : State) (a : Nat) : s.settle.count a = s.count a := rfl
@[simp] theorem rd_answer (s : State) (r a : Nat) : (s.answer r).rd a = s.rd a := rfl
@[simp] theorem get_answer (s : State) (r : Nat) (f : Fld) : (s.answer r).get f = s.get f := rfl
@[simp] theorem rd_queue (s : State) (l : List Instr) (a : Nat) : (s.queue l).rd a = s.rd a := rfl

/-- A field just set reads as the value set, cut to its width. -/
theorem get_set_same (s : State) (f : Fld) (n : Nat) (h : f.lo + f.w ≤ 32) : (s.set f n).get f = n % 2 ^ f.w := by
  simp only [State.get, State.set, rd_wr_same]
  exact getBits_putBits_same _ _ h

/-- Setting a field leaves every register but its own. -/
theorem rd_set_ne (s : State) (f : Fld) (n : Nat) {a : Nat} (h : a ≠ f.reg) : (s.set f n).rd a = s.rd a :=
  rd_wr_ne s _ h

/-- Setting a field leaves the fields of other registers. -/
theorem get_set_ne (s : State) (f g : Fld) (n : Nat) (h : g.reg ≠ f.reg) : (s.set f n).get g = s.get g := by
  simp only [State.get, rd_set_ne s f n h]

/-- Setting a field leaves the fields of its register that lie outside it. -/
theorem get_set_disjoint (s : State) (f g : Fld) (n : Nat) (hr : g.reg = f.reg) (hf : f.lo + f.w ≤ 32)
    (hg : g.lo + g.w ≤ 32) (h : g.lo + g.w ≤ f.lo ∨ f.lo + f.w ≤ g.lo) : (s.set f n).get g = s.get g := by
  simp only [State.get, State.set, hr, rd_wr_same]
  rcases h with h | h
  · exact getBits_putBits_below _ _ hf h
  · exact getBits_putBits_above _ _ h hg

/-- STAT just set reads as set. -/
theorem stat_setStat (s : State) (a st : Nat) : (s.setStat a st).stat a = st % 16 := by
  simp only [State.stat, State.setStat, rd_wr_same]
  exact getBits_putBits_same _ _ (by omega)

theorem rd_setStat_ne (s : State) (st : Nat) {a b : Nat} (h : b ≠ a) : (s.setStat a st).rd b = s.rd b := rd_wr_ne s _ h

/-! ### Commands (R10, R11) -/

/-- A command while its register is BUSY or DEFERRED changes nothing but the status answered (R11). -/
theorem command_busy {s : State} {a v : Nat} {op : State → State} (h : s.busy a = true) :
    s.command a v op = s.answer rBUSY := by simp [State.command, h]

/-- A command that is taken: the word stands in its register with STAT 0, then the operation follows (R10). -/
theorem command_free {s : State} {a v : Nat} {op : State → State} (h : s.busy a = false) :
    s.command a v op = op ((s.wr a (BitVec.ofNat 32 (v % 2 ^ 28))).answer rOK) := by simp [State.command, h]

/-! ### Memory -/

@[simp] theorem byte_wr (s : State) (a : Nat) (v : Word) (x : Nat) : (s.wr a v).byte x = s.byte x := rfl
@[simp] theorem byte_set (s : State) (f : Fld) (n x : Nat) : (s.set f n).byte x = s.byte x := rfl
@[simp] theorem byte_setStat (s : State) (a st x : Nat) : (s.setStat a st).byte x = s.byte x := rfl
@[simp] theorem byte_answer (s : State) (r x : Nat) : (s.answer r).byte x = s.byte x := rfl
@[simp] theorem byte_queue (s : State) (l : List Instr) (x : Nat) : (s.queue l).byte x = s.byte x := rfl
@[simp] theorem byte_setAll (s : State) (l : List (Fld × Nat)) (x : Nat) : (s.setAll l).byte x = s.byte x := by
  simp [State.byte]
@[simp] theorem byte_bump (s : State) (a x : Nat) : (s.bump a).byte x = s.byte x := by simp [State.byte]

/-- Bringing memory to its canonical form changes no byte. -/
@[simp] theorem byte_settle (s : State) (x : Nat) : s.settle.byte x = s.byte x := mget_mnorm _ _ _

/-- A byte just stored reads as stored. -/
@[simp] theorem byte_putByte_same (s : State) (a : Nat) (b : Byte) : (s.putByte a b).byte a = b := mget_mput_same _ _ _ _

/-- A store leaves every other byte. -/
theorem byte_putByte_ne (s : State) {a x : Nat} (b : Byte) (h : x ≠ a) : (s.putByte a b).byte x = s.byte x :=
  mget_mput_ne _ _ _ _ h

/-- A store of bytes leaves every byte outside them. -/
theorem byte_putBytes_outside (s : State) (a : Nat) (l : List Byte) {x : Nat} (h : x < a ∨ a + l.length ≤ x) :
    (s.putBytes a l).byte x = s.byte x := by
  induction l generalizing s a with
  | nil => rfl
  | cons b l ih =>
    simp only [List.length_cons] at h
    simp only [State.putBytes]
    rw [ih _ _ (by omega), byte_putByte_ne _ _ (by omega)]

/-- The bytes stored read as stored. -/
theorem byte_putBytes_inside (s : State) (a : Nat) (l : List Byte) {i : Nat} (h : i < l.length) :
    (s.putBytes a l).byte (a + i) = l.getD i 0 := by
  induction l generalizing s a i with
  | nil => simp at h
  | cons b l ih =>
    simp only [State.putBytes]
    cases i with
    | zero =>
      rw [byte_putBytes_outside _ _ _ (by omega)]
      simp
    | succ i =>
      have := ih (s.putByte a b) (a + 1) (i := i) (by simpa using h)
      rw [show a + (i + 1) = a + 1 + i by omega, this]
      simp

/-! ### The canonical form of memory, kept by every operation -/

theorem inv_wr {s : State} (a : Nat) (v : Word) (h : s.Inv) : (s.wr a v).Inv := h
theorem inv_set {s : State} (f : Fld) (n : Nat) (h : s.Inv) : (s.set f n).Inv := h
theorem inv_answer {s : State} (r : Nat) (h : s.Inv) : (s.answer r).Inv := h
theorem inv_queue {s : State} (l : List Instr) (h : s.Inv) : (s.queue l).Inv := h
theorem inv_putByte {s : State} (a : Nat) (b : Byte) (h : s.Inv) : (s.putByte a b).Inv := mwf_mput _ _ _ _ h

theorem inv_putBytes {s : State} (a : Nat) (l : List Byte) (h : s.Inv) : (s.putBytes a l).Inv := by
  induction l generalizing s a with
  | nil => exact h
  | cons b l ih => exact ih _ (inv_putByte a b h)

theorem inv_putWord {s : State} (a : Nat) (v : Word) (h : s.Inv) : (s.putWord a v).Inv := inv_putBytes _ _ h
theorem inv_putHalf {s : State} (a n : Nat) (h : s.Inv) : (s.putHalf a n).Inv := inv_putBytes _ _ h

/-- The canonical form holds of what a command leaves, whatever it was given. -/
theorem inv_settle (s : State) : s.settle.Inv := mwf_mnorm _ _

/-- A state in canonical form is left as it is. -/
theorem settle_of_inv {s : State} (h : s.Inv) : s.settle = s := by
  have : mnorm (memDefault s.memc) s.mem = s.mem := mnorm_of_mwf h
  simp [State.settle, this]

/-- What a command ends in. -/
theorem settled_next (s : State) : settled s = .next s.settle := rfl

theorem settled_eq {s t : State} (h : settled s = .next t) : t = s.settle := by
  injection h with h
  exact h.symm

end Sys2Proof.Machine
end

