-- ==== Sys2Proof/Laws/Bytes.lean ====
section
/-! SUPPORT. Laws of byte strings: reads of several bytes, numbers in them, CRCs. -/

namespace Sys2Proof.Machine

/-- Reversed bits keep their width. -/
theorem reflect_lt (w n : Nat) : reflect w n < 2 ^ w := by
  induction w generalizing n with
  | zero => simp [reflect]
  | succ w ih =>
    have h := ih (n / 2)
    have h2 : n % 2 < 2 := Nat.mod_lt _ (by decide)
    have h3 : n % 2 * 2 ^ w ≤ 1 * 2 ^ w := Nat.mul_le_mul_right _ (by omega)
    simp only [reflect, Nat.pow_succ]
    omega

/-- A CRC-32C has 32 bits. -/
theorem crc32c_lt (l : List Byte) : crc32c l < 2 ^ 32 :=
  Nat.xor_lt_two_pow (by simpa using reflect_lt 32 _) (by decide)

/-- A read of `n` bytes answers `n` bytes. -/
theorem length_bytes (s : State) (a n : Nat) : (s.bytes a n).length = n := by
  induction n generalizing a with
  | zero => rfl
  | succ n ih => simp [State.bytes, ih]

/-- Two states that agree on a range read the same bytes there. -/
theorem bytes_congr {s t : State} {a n : Nat} (h : ∀ x, a ≤ x → x < a + n → s.byte x = t.byte x) : s.bytes a n = t.bytes a n := by
  induction n generalizing a with
  | zero => rfl
  | succ n ih =>
    simp only [State.bytes, h a (Nat.le_refl _) (by omega)]
    rw [ih fun x h1 h2 => h x (by omega) (by omega)]

/-- The bytes of a read from its byte `o` on. -/
theorem drop_bytes (s : State) (a n o : Nat) (h : o ≤ n) : (s.bytes a n).drop o = s.bytes (a + o) (n - o) := by
  induction o generalizing a n with
  | zero => rfl
  | succ o ih =>
    obtain ⟨m, rfl⟩ : ∃ m, n = m + 1 := ⟨n - 1, by omega⟩
    simp only [State.bytes, List.drop_succ_cons, ih (a + 1) m (by omega)]
    rw [show a + 1 + o = a + (o + 1) by omega, show m + 1 - (o + 1) = m - o by omega]

/-- The first bytes of a read. -/
theorem take_bytes (s : State) (a n o : Nat) (h : o ≤ n) : (s.bytes a n).take o = s.bytes a o := by
  induction o generalizing a n with
  | zero => rfl
  | succ o ih =>
    obtain ⟨m, rfl⟩ : ∃ m, n = m + 1 := ⟨n - 1, by omega⟩
    simp only [State.bytes, List.take_succ_cons, ih (a + 1) m (by omega)]

/-- A number in a read is the number at its address. -/
theorem numAt_bytes (s : State) (a n o k : Nat) (h : o + k ≤ n) : numAt (s.bytes a n) o k = leNat (s.bytes (a + o) k) := by
  rw [numAt, slice, drop_bytes _ _ _ _ (by omega), take_bytes _ _ _ _ (by omega)]

/-- Four little-endian bytes hold a number of 32 bits. -/
theorem leNat_natLE4 (c : Nat) (h : c < 2 ^ 32) : leNat (natLE 4 c) = c := by
  simp [natLE, leNat]
  omega

/-- Bytes stored read back. -/
theorem bytes_putBytes (s : State) (a : Nat) (l : List Byte) : (s.putBytes a l).bytes a l.length = l := by
  have h : ∀ (m : List Byte) (b : Nat) (t : State), (∀ i, i < m.length → t.byte (b + i) = m.getD i 0) → t.bytes b m.length = m := by
    intro m
    induction m with
    | nil => intros; rfl
    | cons x m ih =>
      intro b t h
      have h0 : t.byte b = x := by simpa using h 0 (by simp)
      simp only [List.length_cons, State.bytes, h0]
      rw [ih (b + 1) t fun i hi => by
        have := h (i + 1) (by simpa using hi)
        rw [show b + 1 + i = b + (i + 1) by omega]
        simpa using this]
  exact h l a _ fun i hi => by simpa using byte_putBytes_inside s a l hi

/-- Counting DRAM lines changes counters only. -/
@[simp] theorem byte_countLines (s : State) (ctr : Nat → Nat) (a n x : Nat) : (s.countLines ctr a n).byte x = s.byte x := by
  unfold State.countLines
  generalize List.range _ = l
  induction l generalizing s with
  | nil => rfl
  | cons k l ih => rw [List.foldl_cons, ih, byte_bump]

@[simp] theorem State.countLines_boot (s : State) (ctr : Nat → Nat) (a n : Nat) : (s.countLines ctr a n).boot = s.boot := by
  unfold State.countLines
  generalize List.range _ = l
  induction l generalizing s with
  | nil => rfl
  | cons k l ih => rw [List.foldl_cons, ih, State.bump_boot]

end Sys2Proof.Machine
end

