-- ==== Sys2Proof/Tests/Slice0.lean ====
section
/-! SUPPORT. Tests of the model: the refusal of ill-formed commands, words and check values written out from the spec, single
steps on small states, and for the hypotheses of each statement a state and operands that meet them together. -/

namespace Sys2Proof.Tests
open Sys2Proof Sys2Proof.Machine
set_option Elab.async false

/-- The reset state with fields of registers set. -/
def on (l : List (Fld × Nat)) : State := State.reset.setAll l

/-- The same of a tile. -/
def tile (l : List (Fld × Nat)) : State := ({ State.reset with head := false } : State).setAll l

/-- A property of one state: a test names the state once. -/
def met (s : State) (p : State → Bool) : Bool := p s

/-- A property of what an operation answers, false where it answers nothing. -/
def some? {α : Type} (o : Option α) (p : α → Bool) : Bool := match o with
  | some x => p x
  | none => false

/-- The state that a command leaves has a property. -/
def after (c : Instr) (s : State) (p : State → Bool) : Bool := match exec c s with
  | .next t => p t
  | _ => false


/-! ### Ill-formed commands are refused -/

/-- No board. -/
def noDevice : Device := ⟨false, [], [], [], [], [], 0, false, false⟩

theorem test_ill_formed : ([.porstRise true 64 0 noDevice, .supplyRecover true 0 4 noDevice, .lampSideTest 65536 0,
    .registerWrite (2 ^ 48) 0, .lqCancel 4 0, .lqCancel 0 256, .flumewaitRelease 64 0, .evwaitRelease 0 8, .stopEngine 64, .kAdd 64 0,
    .kHalt 0 8, .samplerReturn 8 false, .paceWindow 8 0, .paceWindow 0 65536, .lutLoad 0 4 0 0, .lutLoad 0 0 8 0, .lutMark 0 0 0 2,
    .lutUnload 8 0 0, .thrKill 1024, .thrSetprio 0 32, .ctxDrainDone 16384, .setdepth .host 32, .gopen .host 256, .outTake 20 false,
    .wck2dqMeasure 16 0, .wck2dqMeasure 0 65536, .memFreqChange 2, .selfRefreshEntry 16, .tallyRx 16 (List.replicate 32 0), .tallyRx 0 [],
    .frameTx 16 0, .pixRx 16, .hbtRx 16 false false, .skdEnum 16 true, .receiverDetect 16, .skewRestart 16, .laneRetrain 32, .calDue 20,
    .referenceClockChange 4 true, .ethPortBringup 4, .frameCloseTimeout 16, .flowOpen 16, .notifySend 2, .cvuEnable 4,
    .progLoad 32, .plcVacate 64, .plcReclaim 1024, .rdnDrill 4096, .storeset 8, .rescan [], .firmwareStart [] none,
    .recoveryCommit 0 true 256 0, .recoveryErase 0 true 256, .powerCommand 8, .vcmd 1024, .thmSample 26 0,
    .housekeepingRound [1], .ptpAnnounceRx 4 0 0 0, .laneLoss 32 none, .calRunEnd 20 [], .ethFrameRx 4 [] true false false true,
    .controlRequest 4 false 0 0 [], .controlRequest 0 false 0 65536 [], .stillFence 64 0 0, .mr4Poll 0 [32], .rateChangeDone true false 65536,
    .tileCtlRequest (some 16), .recoveryWrite 0 true 256 0 0 [] true, .sinkCalibrationRunEnd (List.replicate 49 0) 0] : List Instr).all (fun i => !i.wf) = true := by decide

/-! ### The table gives no row bits -/

theorem test_no_words : (List.range 8).all (fun n => (decodeTableWord (8 * n) (2 ^ n)).isNone) = true ∧
    State.reset.withFetchWord 32 0x12345678 = State.reset := by decide +kernel

/-! ### Single steps: expected values from the spec's own words and tables -/

theorem test_step_scratch_write : after (.registerWrite GLB_NMASK 5) (on []) (fun t => t.rd GLB_NMASK = 5 ∧ t.resp = rOK) = true := by
  decide +kernel

/-- A write of a read-only register changes nothing and is answered so (R433, R434). -/
theorem test_step_ro_write : after (.registerWrite GLB_ID 5) (on []) (fun t => t.rd GLB_ID = State.reset.rd GLB_ID ∧ t.resp ≠ rOK) = true := by
  decide +kernel

/-- R37: ACQUIRE outside SHOW returns the servo to ACQUIRE. -/
theorem test_step_acquire : after .servoAcquire (on [(TMU_SRV_STAT_STATE, svLOCKED)]) (fun t => t.servo = svACQUIRE ∧ t.stat TMU_CMD = stDONE)
    = true := by decide +kernel

/-- R488: a power state above SHOW is RANGE. -/
theorem test_step_power_range : after (.powerCommand 7) (on []) (fun t => t.stat PWR_CMD = stREFUSED ∧ t.get PWR_STAT_REASON = prRANGE)
    = true := by decide +kernel

/-- R493: 752 mV is no multiple of 5 mV. -/
theorem test_step_vcmd_range : after (.vcmd 752) (on []) (fun t => t.stat PWR_VCMD = stREFUSED) = true := by decide +kernel
/-! ### Hypotheses that are met: the block, time and launch queues -/

def servoIn (st : Nat) : State := on [(TMU_SRV_STAT_STATE, st)]

theorem test_met_StepRunsTheFrontCommand : ({ State.reset with pending := [.timeNsRead] } : State).pending ≠ [] := by decide

theorem test_met_IdleStepAdvancesTime : State.reset.pending = [] ∧ State.reset.phase ≠ .held := by decide

theorem test_met_EveryStepKeepsMemoryCanonical : Memory.wf State.reset.memc State.reset.mem = true := by decide

theorem test_met_BusyCommandIsRefused : met (on [(⟨TMU_CMD, 28, 4⟩, stBUSY)]) (fun s => commandRegister .servoHold = some TMU_CMD ∧
    Instr.servoHold.wf = true ∧ s.running = true ∧ s.unpowered TMU_CMD = false ∧
    ((List.range 8).all fun q => !s.bit (LNK_QSTAT_UNPWR q)) = true ∧ s.busy TMU_CMD = true) = true := by decide +kernel

theorem test_met_CommandsNeedRunningFirmware : met { State.reset with phase := .rom } (fun s => s.running = false ∧
    commandRegister .servoHold ≠ none) = true := by decide +kernel

theorem test_met_WriteRefusalsChangeNothing : met (tile []) (fun s => s.running = true ∧ (0x03000000 % 4 = 0 ∧ 0x03000000 < 2 ^ 48) ∧
    rowAt 0x44 = none ∧ (rowAt (ETH_FLOW_CMD 0)).isSome ∧ s.unpowered (ETH_FLOW_CMD 0) = true ∧
    some? (rowAt GLB_ID) (fun r => r.kind = .ro) ∧ s.unpowered GLB_ID = false) = true := by decide +kernel

theorem test_met_RegisterAndDramWrites_register : met (on []) (fun s => s.running = true ∧ some? (rowAt GLB_NMASK)
    (fun r => r.kind = .rw) ∧ s.unpowered GLB_NMASK = false ∧ rangeBad s.head GLB_NMASK 5 = false) = true := by decide +kernel

/-- A head in power state `p` with memory up. -/
def memUp (p : Nat) : State :=
  let s := on [(PWR_STAT_STATE, p), (MEM_STAT_STATE, mACTIVE)]
  { s with memc := { s.memc with nch := 2, dens := 2 ^ 31 } }

theorem test_met_RegisterAndDramWrites_dram : met (memUp psREADY) (fun s => s.ready = true ∧ s.dramUp = true ∧ 8 < s.dramBytes ∧
    s.dramBytes ≤ 0x1000000000) = true := by decide +kernel

theorem test_met_RegisterAndDramWrites_counter : met (on [(PWR_STAT_STATE, psREADY)]) (fun s => s.running = true ∧
    s.unpowered 0x200018 = false ∧ s.unpowered 0x200020 = false ∧ 0x200018 / 4 % 16 = 6 ∧ 0x200020 / 4 % 16 = 8) = true := by decide +kernel

theorem test_met_LatchingReads : met (on []) (fun s => s.running = true ∧ s.tm.ppsLast = 0) ∧
    met { State.reset with tm := { TimeSt.reset with ppsLast := 1 } } (fun s => s.tm.ppsLast ≠ 0 ∧ s.now < s.tm.ppsLast + 999) ∧
    met { State.reset with eng := { EngSt.reset with flumes := [(0, ⟨[⟨1, 2, 3, 4, 640, 64, 0, 0, 0⟩], []⟩)] } } (fun s =>
      (s.flume (s.get FLM_FSEL_FLUME)).vis ≠ [] ∧ s.get FLM_ESEL_POS = 0) = true := by decide +kernel

theorem test_met_Acquire : met (servoIn svLOCKED) (fun s => s.running = true ∧ s.busy TMU_CMD = false ∧ s.power ≠ psSHOW) ∧
    met (on [(PWR_STAT_STATE, psSHOW)]) (fun s => s.running = true ∧ s.busy TMU_CMD = false ∧ s.power = psSHOW) = true := by
  decide +kernel

theorem test_met_ServoCommands : met (servoIn svREJECT) (fun s => s.running = true ∧ s.busy TMU_CMD = false ∧ s.servo = svREJECT ∧
      s.remedy = false ∧ s.get TMU_SRV_CFG_SLEW ≠ 0 ∧ s.gridRuns = true) ∧
    met (on [(TMU_SRV_STAT_STATE, svHOLDOVER), (TMU_SRV_STAT_HELD, 1)]) (fun s => s.servo = svHOLDOVER ∧
      s.bit TMU_SRV_STAT_HELD = true) ∧
    met (on []) (fun s => s.servo ≠ svREJECT ∧ s.gridRuns = false) = true := by decide +kernel

/-- A head in LOCKED with a master. -/
def locked : State :=
  let s := on [(PWR_STAT_STATE, psSTANDBY), (TMU_SRV_STAT_STATE, svLOCKED), (TMU_PTP_CFG_PORTS, 1)]
  { s with tm := { s.tm with sel := some ⟨0, 1, 1, 0, 0⟩ } }

theorem test_met_SampleInLocked : met locked (fun s => s.head = true ∧ s.samples = true ∧ s.tm.sel.isSome = true ∧
    s.get TMU_SRV_STAT_SRC = srcPTP ∧ s.servo = svLOCKED ∧ s.tm.skip = 0 ∧ s.bit TMU_SRV_STAT_HELD = false ∧
    s.tm.slewPeer = false ∧
    some? (some ((100 - 0 - 0) * 2 ^ 16 - meanDelay (((100 + 0) :: s.tm.dRaw).take (2 ^ min 6 (s.get TMU_PTP_CFG_DLYAVG))) -
      toInt 32 (s.rd (TMU_TSCOR (s.get TMU_SRV_STAT_PORT))).toNat * 2 ^ 28)) (fun e => e.natAbs ≤ s.get TMU_SRV_CFG_JTHR * wNs ∧
      (-(roundDiv ((s.rd TMU_SRV_KP).toNat * e) (2 ^ 24) + (s.tm.i + roundDiv ((s.rd TMU_SRV_KI).toNat * e) (2 ^ 24)))).natAbs ≤
        fMax)) = true := by decide +kernel

theorem test_met_TimeEvents_announce : met locked (fun s => s.samples = true ∧ (s.get TMU_PTP_CFG_PORTS).testBit 0 = true) ∧
    met { locked with now := 10 ^ 10 } (fun s => s.samples = true ∧ s.servo = svLOCKED ∧
      s.tm.lastSample + s.sourceTimeout ≤ s.now) ∧
    met { State.reset with tm := { TimeSt.reset with step := some (5, 0) } } (fun s => s.tm.step = some (5, 0) ∧ s.running = true ∧
      0 ≤ s.tm.wall ∧ s.tm.stepAnn = false) = true := by decide +kernel

theorem test_met_TimeEvents_sources : met { on [(PWR_STAT_STATE, psSTANDBY), (TMU_SRV_STAT_SRC, srcPEER)] with now := 10 ^ 8 } (fun s =>
      s.head = true ∧ s.samples = true ∧ s.get TMU_SRV_STAT_SRC = srcPEER ∧ s.tm.lastPeer + 4 * beaconNs s.tm.peerPer ≤ s.now) ∧
    met { tile [(PWR_STAT_STATE, psSTANDBY)] with now := 10 ^ 8, tm := { TimeSt.reset with dnAt := 10 ^ 8 } } (fun s => s.samples = true ∧ s.head = false ∧
      s.bit SKD_TILE_STAT_TIMEDN = false ∧ s.tm.upAt + 4 * beaconNs s.tm.peerPer ≤ s.now ∧ 0 < s.tm.dnAt ∧
      s.now < s.tm.dnAt + 4 * beaconNs s.tm.peerPer) ∧
    met (on [(TMU_SRV_STAT_STATE, svLOCKED), (TMU_PPS_EN, 1), (TMU_PPS_WIDTH, 100)]) (fun s => s.running = true ∧
      s.bit TMU_PPS_EN = true ∧ s.gridRuns = true ∧ s.pins.ppsEnd ≤ secondStart s.tm.wall ∧
      s.tm.wall < secondStart s.tm.wall + s.get TMU_PPS_WIDTH * 10 ^ 6 * wNs) = true := by decide +kernel

/-- A state with one pending entry of action `a`, argument `arg`, in slot 0 of its queue. -/
def queued (st a arg : Nat) : State :=
  (servoIn st).lqStore ((lqQueue a).getD 0 * 256) 0 0 arg (a * 2 ^ 16 + 2 ^ 28)

theorem test_met_QueueInsertion : met (on [(⟨TMU_LQ_IN0, 0, 30⟩, 1000000000)]) (fun s => s.busy TMU_LQ_IN3 = false ∧
      s.lqRefused (s.rd TMU_LQ_IN0).toNat (s.rd TMU_LQ_IN2).toNat (lqAction 1) = true) ∧
    met (on []) (fun s => s.lqRefused (s.rd TMU_LQ_IN0).toNat (s.rd TMU_LQ_IN2).toNat (lqAction (aMARK * 2 ^ 16)) = false ∧
      s.lqFree ((lqQueue (lqAction (aMARK * 2 ^ 16))).getD 0) ≠ none) ∧
    met { State.reset with tm := { TimeSt.reset with lqOrd := (List.range 256).map fun n => ((lqQueue aMARK).getD 0 * 256 + n, n) } }
      (fun s => s.lqRefused (s.rd TMU_LQ_IN0).toNat (s.rd TMU_LQ_IN2).toNat (lqAction (aMARK * 2 ^ 16)) = false ∧
      s.lqFree ((lqQueue (lqAction (aMARK * 2 ^ 16))).getD 0) = none ∧ s.lqPending.contains ((lqQueue aMARK).getD 0 * 256 + 3) = true) ∧
    met (on []) (fun s => s.busy TMU_CMD = false ∧ s.lqPending.contains 0 = false) = true := by decide +kernel

/-- A pending entry that is due, and its action. -/
def due (s : State) (a : Nat) (p : Nat → Nat → State → Bool) : Bool :=
  some? s.lqLeast fun k => s.running && lqAction (s.lqWord k 3) = a && decide (s.lqTime k ≤ s.tm.wall) &&
    p k (s.lqWord k 2) (s.lqClose k 2)

theorem test_met_DueQueueEntries_grid : due (queued svLOCKED aFLIP 0) aFLIP (fun _ _ r => r.gridRuns) ∧
    due (queued svLOCKED aPHASE 5) aPHASE (fun _ _ r => r.gridRuns) ∧ due (queued svLOCKED aGRID 1) aGRID (fun _ _ r => r.gridRuns) ∧
    due (queued svFREE aFLIP 0) aFLIP (fun k _ r => !r.gridRuns && decide (k < 256)) = true := by decide +kernel

theorem test_met_DueQueueEntries_others :
    due ((queued svFREE aRAMP 16).setAll [(LPE_TGT_W0_VALID 1, 1)]) aRAMP (fun k a r => decide (256 ≤ k) && a / 16 % 4096 = 1 &&
      r.bit (LPE_TGT_W0_VALID 1) && r.get (LPE_TGT_W0_CH 1) = a % 16) ∧
    due (queued svFREE aLPEMODE 16) aLPEMODE (fun k a _ => decide (256 ≤ k ∧ a / 16 % 16 ≤ 4)) ∧
    due ((queued svFREE aCALSET 0).setAll [(LCR_SWITCH_PEND, 1)]) aCALSET (fun k _ r => decide (256 ≤ k) && r.bit LCR_SWITCH_PEND) ∧
    due (queued svFREE aMCLK 0) aMCLK (fun k _ _ => decide (256 ≤ k)) ∧ due (queued svFREE aPIN 0) aPIN (fun k _ _ => decide (256 ≤ k)) ∧
    due (queued svFREE aMARK 0) aMARK (fun k _ _ => decide (256 ≤ k)) = true := by decide +kernel

theorem test_met_GridTakesEffect : met { servoIn svLOCKED with tm := { TimeSt.reset with gridPend := some (GridSet.reset, 0) } } (fun s =>
    s.gridRuns = true ∧ launchTime GridSet.reset 0 ≤ s.tm.wall) = true := by decide +kernel

/-! ### Hypotheses that are met: beacons, pacing, commits, moves -/

/-- A unit in READY, with the slot grid running. -/
def readyOn (l : List (Fld × Nat)) : State := on ([(PWR_STAT_STATE, psREADY), (TMU_SRV_STAT_STATE, svLOCKED)] ++ l)

/-- The frame at the front of what port `p` has received. -/
def arrived (s : State) (p : Nat) (f : Frame) : State := s.setPort p { s.port p with rx := [⟨f, 0, 0, false⟩] }

/-- A service message. -/
def svc (v : Nat) (pl : List Byte) : Frame :=
  ctlFrame 0 1 false 0 3 false (msgBody 3 0 0 1 0 0 ([BitVec.ofNat 8 v, 0] ++ natLE 2 pl.length ++ pl))

/-- The frame is taken, with a property of it and of the state without it. -/
def takes (s : State) (p : Nat) (ok : Frame → Bool) (q : RxItem → State → Bool) : Bool :=
  some? (s.takeRx p ok) fun x => q x.1 x.2

theorem test_met_TimFrames_sent : met (readyOn []) (fun s => s.head = true ∧ s.ready = true ∧ s.tm.nextTim ≤ s.now) ∧
    met (readyOn [(TMU_PEER_EN, 1), (TMU_PEER_PORT, 2), (SKD_PORT_STAT_ACTIVE 2, 1)]) (fun s => s.delayPort = some 2 ∧
      s.samples = true ∧ s.active 2 = true ∧ s.tm.nextPdly ≤ s.now) = true := by decide +kernel

theorem test_met_TimFrames_received :
    takes (arrived (readyOn []) 3 (mkFrame fTIM 0 64 true false [0] (zeros 32))) 3 Frame.isSync (fun _ r => r.head && r.samples) ∧
    takes (arrived (readyOn []) 3 (pdlyFrame 64 1 7 (zeros 32))) 3 (isPdly 1) (fun _ r => r.running) ∧
    takes (arrived { readyOn [(TMU_PEER_EN, 1), (TMU_PEER_PORT, 3)] with tm := { TimeSt.reset with pdlyId := 8 } } 3
      (pdlyFrame 64 2 7 (zeros 32))) 3 (isPdly 2) (fun i r => r.samples && r.delayPort = some 3 && r.tm.pdlyId = i.f.fld 11 2 + 1) = true := by
  decide +kernel

/-- A posted slot without a job. -/
def slotRun (j : Nat) : SlotRun := ⟨j, 0, 0, false, false, [], [], false, none, 0, [], [], [], [], [], []⟩

/-- A head whose wall time is `w` with slots posted. -/
def pacing (l : List (Fld × Nat)) (w : Nat) (q : List SlotRun) : State :=
  let s := readyOn l
  { s with tm := { s.tm with wall := w }, cmp := { s.cmp with next := some 9, slots := q } }

theorem test_met_Pacing : met (pacing [] 0 []) (fun s => s.head = true ∧ s.ready = true ∧ s.gridRuns = true ∧ s.cmp.next = some 9) ∧
    met (pacing [] 0 [slotRun 8]) (fun s => some? s.flushWait.composing (fun r => s.flushWait.runDone r)) ∧
    met { pacing [] (launchTime GridSet.reset 10) [{ slotRun 8 with jobs := [⟨0, 3, 1⟩] }] with
      eng := { EngSt.reset with groups := [(3, ⟨1, 1, []⟩)] } } (fun s =>
      some? s.composing (fun r => launchTime s.grid (r.j + 1) ≤ s.tm.wall ∧ s.runDone r = false)) ∧
    met (pacing [] (launchTime GridSet.reset 10) [slotRun 8]) (fun s => s.openRuns = [slotRun 8] ∧ s.deadline 8 < s.tm.wall ∧
      s.wallCmt = false) ∧
    met (pacing [] 0 [{ slotRun 8 with done := some 0 }]) (fun s => s.wallCmt = false ∧
      some? (s.openRuns.find? (fun r => s.runReady r && decide (s.tm.wall ≤ s.deadline r.j))) (fun _ => true)) = true := by
  decide +kernel

theorem test_met_WallCommit_sent :
    met (pacing [(CMP_PACE_WALLCMT, 1)] 0 [{ slotRun 1 with done := some 0 }]) (fun s => s.ready = true ∧ s.gridRuns = true ∧
      s.wallCmt = true ∧ some? (s.cmp.slots.find? (fun r => r.j = nextInStep s.cmp.told (s.readySlot s.tm.wall)))
        (fun r => s.runReady r) = true ∧ s.tm.wall ≤ s.readyDue (nextInStep s.cmp.told (s.readySlot s.tm.wall))) ∧
    met { pacing [(CMP_PACE_WALLCMT, 1)] (launchTime GridSet.reset 8) [] with cmp := { CmpSt.reset with told := some 7 } } (fun s =>
      s.cmp.slots = [] ∧ s.readyDue (nextInStep s.cmp.told (s.readySlot s.tm.wall)) ≤ s.tm.wall) = true := by decide +kernel

theorem test_met_WallCommit_received :
    met { pacing [(CMP_PACE_WALLCMT, 1)] (launchTime GridSet.reset 8 + 25000 * wNs) [] with
      cmp := { CmpSt.reset with decided := some 7 } } (fun s => s.wallCmt = true ∧ s.get TMU_PEER_REFHEAD = s.headNum ∧
      s.readyDue (nextInStep s.cmp.decided (s.readySlot (s.tm.wall - 25000 * wNs))) + 25000 * wNs ≤ s.tm.wall) ∧
    takes (arrived (readyOn []) 3 (svc vWALLRDY (zeros 8))) 3 (isSvc vWALLRDY) (fun _ r => r.running) ∧
    takes (arrived (readyOn []) 3 (svc vWALLDEC (zeros 8))) 3 (isSvc vWALLDEC)
      (fun i r => !r.cmp.decs.any fun d => d.1 = numAt (svcPay i.f) 0 2) ∧
    takes (arrived { readyOn [] with cmp := { CmpSt.reset with decs := [(0, true)] } } 3 (svc vWALLDEC (zeros 8))) 3 (isSvc vWALLDEC)
      (fun i r => r.cmp.decs.any fun d => d.1 = numAt (svcPay i.f) 0 2) = true := by decide +kernel

theorem test_met_Offers :
    takes (arrived (readyOn []) 3 (svc vOFFER (zeros 64))) 3 (isSvc vOFFER) (fun _ r => r.ready) ∧
    takes (arrived { readyOn [] with cmp := { CmpSt.reset with offer := some ⟨0, 0, 0, 0⟩ } } 3 (svc vOFFERREPLY (zeros 8))) 3
      (isSvc vOFFERREPLY) (fun i r => some? r.cmp.offer fun o => r.tileAddr o.tile = numAt (svcPay i.f) 0 2 ∧
        o.s % 65536 = numAt (svcPay i.f) 2 2) ∧
    met { readyOn [] with cmp := { CmpSt.reset with offer := some ⟨0, 0, 1, 0⟩ } } (fun s => s.paceTick 0 ≤ s.tm.wall) ∧
    takes (arrived (readyOn []) 3 (svc vMOVEEND (zeros 8))) 3 (isSvc vMOVEEND)
      (fun i r => numAt (svcPay i.f) 0 2 / 1024 = r.headNum) ∧
    takes (arrived { readyOn [] with cmp := { CmpSt.reset with guests := [⟨4, 2048, [], 0, none, 0, 3⟩] } } 3
      (svc vMOVEEND (natLE 2 2048 ++ zeros 6))) 3 (isSvc vMOVEEND) (fun i r => numAt (svcPay i.f) 0 2 / 1024 ≠ r.headNum ∧
        (r.cmp.guests.find? (fun g => g.owner = numAt (svcPay i.f) 0 2)).isSome) = true := by decide +kernel

theorem test_met_PlacementCommands :
    met (readyOn []) (fun s => s.running = true ∧ s.head = true ∧ s.busy CMP_PLC_CMD = false ∧ s.ready = true ∧ s.power = psREADY ∧
      (s.accepted CMP_PLC_CMD 1).crewEngines 0 ≠ [0] ∧ !s.cmp.moved.any (fun m => m.tile = 3 && m.back.isNone) ∧
      !s.cmp.guests.any (fun x => x.g = 3 && x.last.isNone)) ∧
    met (on []) (fun s => s.busy CMP_PLC_CMD = false ∧ s.ready = false ∧ s.power ≠ psREADY) ∧
    met { readyOn [] with cmp := { CmpSt.reset with moved := [⟨3, 0, none, 0, 0, 0, false⟩], guests := [⟨3, 0, [], 0, none, 0, 3⟩] } }
      (fun s => s.cmp.moved.any (fun m => m.tile = 3 && m.back.isNone) ∧ s.cmp.guests.any (fun x => x.g = 3 && x.last.isNone)) ∧
    met { readyOn ((List.range 7).map fun k => (ENG_STAT_GATED (k + 1), 1)) with cmp := { CmpSt.reset with own := [(0, 0)] } } (fun s =>
      (s.accepted CMP_PLC_CMD 1).crewEngines 0 = [0] ∧
      (s.accepted CMP_PLC_CMD 1).cmp.own.any (fun x => (s.accepted CMP_PLC_CMD 1).get (CTX_CREW x.1) = 0)) = true := by decide +kernel

/-! ### Hypotheses that are met: serial lanes -/

/-- Skidline port 0 on lane 0 of a unit of the role, its lane in state `st`. -/
def laned (hd : Bool) (st : Nat) (l : List (Fld × Nat)) (x : Lnk) : State :=
  let s := ({ State.reset with head := hd } : State).setAll ([(PWR_STAT_STATE, psREADY), (LNK_QCFG_MODE 0, 1), (LNK_LCFG_EN 0, 1),
    (LNK_LCFG_PORT 0, 0), (LNK_LCFG_WIDTH 0, 0), (LNK_LSTAT_STATE 0, st)] ++ l)
  { s with lnk := { s.lnk with ports := [(0, x)] } }

theorem test_met_BringUp_starts :
    met ({ laned true lOFF [(LNK_QSTAT_REFOK 0, 1), (LNK_QSTAT_PLLLOCK 0, 1), (LNK_QSTAT_FWOK 0, 1)] Lnk.init with
      boot := { BootSt.reset with bd := some [] } }) (fun s => s.running = true ∧ 0 < s.portCount ∧ s.boot.bd.isSome = true ∧
      psSTANDBY ≤ s.power ∧ s.portComplete 0 = true ∧
      (s.portLanes 0).all (fun l => s.get (LNK_LSTAT_STATE l) = lOFF && s.quadOk (l / 4)) = true) ∧
    met (laned true lDETECT [] Lnk.init) (fun s => s.portState 0 = lDETECT ∧ (s.link 0).nextDet ≤ s.now) ∧
    met (laned true lTRAIN [] Lnk.init) (fun s => s.portState 0 = lTRAIN ∧ (s.link 0).skewAt = none ∧
      [(0, 5)].length = (s.portLanes 0).length) = true := by decide +kernel

theorem test_met_BringUp_steps :
    met (laned true lCAPX [] Lnk.init) (fun s => s.portState 0 = lCAPX ∧ [(0, 0)].length = (s.portLanes 0).length ∧
      (s.link 0).direct = false ∧ (s.portLanes 0).all (fun l => s.get (LNK_LCFG_WIDTH l) = 0) ∧ 0 < min (s.link 0).target 1) ∧
    met (laned true lSTEP [] { Lnk.init with rate := 1 }) (fun s => s.portState 0 = lSTEP ∧
      [(1000, 1000)].length = (s.portLanes 0).length ∧ [(1000, 1000)].all (eyeOk ((s.link 0).rate + 1)) = true ∧
      (s.link 0).rate + 1 = (s.link 0).target) = true := by decide +kernel

theorem test_met_BringUpFailures :
    met { laned true lTRAIN [] { Lnk.init with skewAt := some 0, direct := true } with now := 10 ^ 9 } (fun s =>
      s.portState 0 = lTRAIN ∧ (s.link 0).skewAt = some 0 ∧ 0 + 100000000 ≤ s.now ∧ lTRAIN ≤ s.portState 0 ∧ s.portState 0 ≤ lSTEP ∧
      (s.link 0).detAt + 150000000 ≤ s.now ∧ (s.link 0).fails < 7 ∧ (s.link 0).direct = true ∧
      (s.link 0).detAt + 30000000 ≤ s.now) ∧
    met (laned true lACTIVE [] Lnk.init) (fun s => s.get (LNK_LSTAT_STATE 0) = lACTIVE ∧ (s.bump (LNK_LOSS 0)).linkOf 0 = 0) = true := by
  decide +kernel

theorem test_met_Idle :
    met (laned true lACTIVE [] Lnk.init) (fun s => s.portState 0 = lACTIVE) ∧
    met (laned true lIDLE [] Lnk.init) (fun s => s.portState 0 = lIDLE) ∧
    met { laned true lEXIT [] Lnk.init with now := 2000 } (fun s => s.portState 0 = lEXIT ∧ (s.link 0).full = false ∧
      s.tempNear 0 = true ∧ (s.link 0).exitAt + 2000 ≤ s.now) ∧
    met (laned true lEXIT [] { Lnk.init with full := true }) (fun s => (s.link 0).full = true) = true := by decide +kernel

theorem test_met_LaneCommands :
    met (laned true lACTIVE [] Lnk.init) (fun s => s.bit (LNK_QSTAT_UNPWR 0) = false ∧ s.busy (LNK_LCMD 0) = false ∧
      s.laneBusy 0 = false ∧ s.linkOf 0 < 16 ∧ s.get (LNK_LSTAT_STATE 0) = lACTIVE) ∧
    met (laned true lIDLE [] Lnk.init) (fun s => s.linkOf 0 < 16 ∧ s.get (LNK_LSTAT_STATE 0) = lIDLE) ∧
    met (laned true lOFF [(LNK_QSTAT_PLLLOCK 0, 1)] Lnk.init) (fun s => (s.accepted (LNK_LCMD 0) 5).get (LNK_LSTAT_STATE 0) = lOFF ∧
      (s.accepted (LNK_LCMD 0) 5).bit (LNK_QSTAT_PLLLOCK 0) = true ∧ (s.accepted (LNK_LCMD 0) 5).get (LNK_PRBS_PAT 0) < 6) ∧
    met (laned true lPRBS [] Lnk.init) (fun s => (s.accepted (LNK_LCMD 0) 6).get (LNK_LSTAT_STATE 0) = lPRBS) = true := by decide +kernel

theorem test_met_Calibration_asked :
    met (laned true lACTIVE [] { Lnk.init with cal := true }) (fun s => s.linkLanes 0 ≠ [] ∧ (s.link 0).runEnd = none ∧
      (s.linkLanes 0).any (fun l => s.get (LNK_LSTAT_STATE l) = lACTIVE) = true ∧ (s.link 0).cal = true) ∧
    met { laned false lACTIVE [] { Lnk.init with cal := true } with now := 10 ^ 12 } (fun s => s.head = false ∧
      s.wantsWindow 0 = true ∧ (s.link 0).reqNext ≤ s.now ∧
      (s.portLanes 0).all (fun l => decide ((s.link 0).reqAt + s.get (LNK_CAL_WAITMAX l) * 10 ^ 9 ≤ s.now)) = true) ∧
    takes (arrived (readyOn []) 3 (svc vCALREQ (zeros 8))) 3 (isSvc vCALREQ) (fun _ r => r.head) = true := by decide +kernel

theorem test_met_Calibration_runs :
    takes (arrived (tile [(PWR_STAT_STATE, psREADY)]) 0 (svc vCALGRANT (natLE 2 (tile []).addr ++ zeros 14))) 0 (isSvc vCALGRANT)
      (fun i r => !r.head && numAt (svcPay i.f) 0 2 = r.addr) ∧
    met (laned true lACTIVE [] { Lnk.init with win := some 0 }) (fun s => s.lnk.txWin.find? (fun x => x.1 = 0) = none ∧
      (s.link 0).win = some 0 ∧ 0 ≤ s.tm.wall ∧ s.portState 0 = lACTIVE) ∧
    met (let s := laned true lACTIVE [] Lnk.init; { s with lnk := { s.lnk with txWin := [(0, 0)] } }) (fun s =>
      s.lnk.txWin.find? (fun x => x.1 = 0) = some (0, 0) ∧ 0 ≤ s.tm.wall ∧ (s.link 0).win = none) ∧
    met (laned true lCAL [] { Lnk.init with runEnd := some 0 }) (fun s => (s.link 0).runEnd = some 0 ∧ 0 ≤ s.now ∧
      [(1, 1)].length = (s.linkLanes 0).length) = true := by decide +kernel

/-! ### Hypotheses that are met: Ethernet, control, memory -/

/-- The Ethernet part of a state replaced. -/
def withEth (s : State) (e : EthSt → EthSt) : State := { s with eth := e s.eth }

/-- A UDP packet over IPv4 to address 0, UDP port `d`. -/
def udpFrame (d : Nat) : List Byte :=
  zeros 12 ++ [0x08#8, 0x00#8, 0x45#8] ++ zeros 8 ++ [17#8] ++ zeros 10 ++ [0#8, 0#8, BitVec.ofNat 8 (d / 256), BitVec.ofNat 8 d] ++ zeros 4

theorem test_met_EthernetPorts :
    met (on [(LNK_QCFG_MODE 1, 2), (ETH_PORT_CFG_EN 1, 1), (LNK_LCFG_EN 4, 1), (LNK_LCFG_EN 5, 1), (LNK_LCFG_EN 6, 1), (LNK_LCFG_EN 7, 1),
      (LNK_QSTAT_REFOK 1, 1), (LNK_QSTAT_PLLLOCK 1, 1), (LNK_QSTAT_FWOK 1, 1)]) (fun s => s.get (LNK_QCFG_MODE 1) = 2 ∧
      s.bit (ETH_PORT_CFG_EN 1) = true ∧ (s.ethLanes 1).all (fun l => s.bit (LNK_LCFG_EN l)) = true ∧ s.quadOk 1 = true ∧
      s.bit (ETH_PORT_STAT_ACTIVE 1) = false) ∧
    met (withEth (on [(ETH_PORT_CFG_EN 1, 1), (ETH_PORT_STAT_ACTIVE 1, 1), (⟨ETH_AUTH, 16, 16⟩, 7000)]) fun e =>
      { e with txq := [(1, 2, [])] }) (fun s => s.bit (ETH_PORT_STAT_ACTIVE 1) = true ∧ s.bit (ETH_PORT_CFG_EN 1) = true ∧
      (s.bump (ETH_RXFRM 1)).ethClass 1 [] false = 1 ∧ (s.bump (ETH_RXFRM 1)).ethClass 1 (udpFrame 7000) true = 5 ∧
      (s.ethFront 1).isSome ∧ s.monNext = none) ∧
    met (withEth (on [(ETH_PORT_STAT_ACTIVE 0, 1), (TMU_SRV_STAT_STATE, svLOCKED), (ETH_MON_STAT_STATE, 1), (ETH_MON_TIMING_TROFF, 0)])
      fun e => { e with txq := [(0, 2, [])], mon := { e.mon with pkt := some 0 } }) (fun s => (s.ethFront 0).isSome ∧
      s.monOn 0 = true ∧ some? s.monNext (fun w => w < s.tm.wall + s.ethTime 0 0)) = true := by decide +kernel

/-- A flow that OPEN accepts: memory up, port 0 ACTIVE. -/
def flowable (st : Nat) : State :=
  let s := memUp psREADY
  s.setAll [(ETH_PORT_STAT_ACTIVE 0, 1), (ETH_FLOW_SIZE_W 2, 64), (ETH_FLOW_SIZE_H 2, 64), (ETH_FLOW_CFG_SKEW 2, 1),
    (ETH_FLOW_STAT_STATE 2, st), (ETH_STILL_CFG_EN 3, 1)]

theorem test_met_Flows :
    met ((flowable 0).accepted (ETH_FLOW_CMD 2) 1) (fun a => (flowable 0).busy (ETH_FLOW_CMD 2) = false ∧
      a.get (ETH_FLOW_STAT_STATE 2) = 0 ∧ a.flowFmtOk 2 = true ∧ a.flowPortOk 2 = true ∧ a.flowAddrOk 2 = true ∧
      (a.flowStores 2 0 (a.nbuf 2)).isSome) ∧
    met ((flowable 1).accepted (ETH_FLOW_CMD 2) 2) (fun a => a.get (ETH_FLOW_STAT_STATE 2) = 1) ∧
    met (withEth (flowable 1) fun e => { e with flows := [(2, { FlowSt.init with frames := [⟨9, some 0, 0, 1, 0, some (0, 0)⟩] })] })
      (fun s => let s : State := { s with tm := { s.tm with wall := 10 ^ 18 } }
        s.get (ETH_FLOW_STAT_STATE 2) = 1 && decide (0 + s.skewTime 2 ≤ s.tm.wall) && (s.flow 2).frames.length = 1) ∧
    met ((flowable 0).accepted (ETH_STILL_FENCE 3) (1 + 2 * 5)) (fun x => (flowable 0).busy (ETH_STILL_FENCE 3) = false ∧
      x.bit (ETH_STILL_CFG_EN 3) = true ∧ (x.stillRefresh 3).bit (ETH_STILL_CFG_EN 3) = true ∧
      (x.stillRefresh 3).bit (ETH_STILL_STAT_FREEOK 3) = true ∧ (x.stillRefresh 3).stillInUse 3 1 = false) = true := by decide +kernel

/-- A monitor that START accepts, in state `st`. -/
def monitor (st : Nat) : State := (memUp psREADY).setAll [(TMU_SRV_STAT_STATE, svLOCKED), (ETH_PORT_STAT_ACTIVE 0, 1),
  (ETH_MON_SIZE_W, 64), (ETH_MON_SIZE_H, 64), (ETH_MON_STAT_STATE, st)]

theorem test_met_Monitor :
    met ((monitor 0).accepted ETH_MON_CMD 1) (fun a => (monitor 0).busy ETH_MON_CMD = false ∧ a.get ETH_MON_STAT_STATE = 0 ∧
      a.monOk = true ∧ some? (a.allocWide a.monStoreBytes (.monitor 0)) (fun x => (x.2.allocWide a.monStoreBytes (.monitor 1)).isSome)) ∧
    met ((monitor 1).accepted ETH_MON_CMD 2) (fun a => a.get ETH_MON_STAT_STATE = 1 ∧
      (((a.freeUser 2048).monSet fun m => { m with job := none, wrote := [] }).dropThreads fun _ => true).eth.mon.pkt = none) ∧
    met ((monitor 1).accepted ETH_MON_CMD 3) (fun a => a.get ETH_MON_STAT_STATE ≠ 0) ∧
    met ({ monitor 1 with tm := { TimeSt.reset with wall := 10 ^ 18 } }) (fun s => s.gridRuns = true ∧ s.get ETH_MON_STAT_STATE = 1 ∧
      s.eth.mon.pkt = none ∧ s.monFrameNow + s.monDiv ≠ s.eth.mon.nextFrame ∧ s.monRaster s.monFrameNow ≤ s.tm.wall ∧
      s.eth.mon.done = []) ∧
    met (withEth { monitor 1 with tm := { TimeSt.reset with wall := 10 ^ 18 } } fun e => { e with mon := { e.mon with done := [(3, 1)] } })
      (fun s => s.eth.mon.done = [(3, 1)] ∧ s.eth.mon.sent ≠ some (3, 1)) ∧
    met (withEth { (monitor 1).setAll [(ETH_MON_LINE_MATCH, 9), (ETH_MON_LINE_APPLY, 9)] with tm := { TimeSt.reset with wall := 10 ^ 18 } }
      fun e => { e with mon := { e.mon with pkt := some 1 } }) (fun s => s.monPacketTime s.eth.mon.frame 1 ≤ s.tm.wall ∧
      1 + 1 ≠ s.monPackets ∧ s.bit ETH_MON_CFG_CLONE = false ∧ 1 ≠ s.get ETH_MON_LINE_MATCH * s.get ETH_MON_TIMING_PPL ∧
      1 ≠ s.get ETH_MON_LINE_APPLY * s.get ETH_MON_TIMING_PPL) = true := by decide +kernel

/-- The control plane of a state replaced. -/
def withCtl (s : State) (c : CtlSt → CtlSt) : State := { s with ctl := c s.ctl }

theorem test_met_ControlRequests_head :
    met (on []) (fun s => s.head = true ∧ s.ctl.keyA = none ∧ s.ctl.keyB = none) ∧
    met (withCtl (on []) fun c => { c with keyA := some (1, zeros 32) }) (fun s => s.ctl.keyA ≠ none ∧ s.keyMatch [] = none) ∧
    met (withCtl (on []) fun c => { c with relays := [⟨5, 2, 0, false, none⟩] }) (fun s =>
      some? (s.ctl.relays.find? (fun r => decide (r.till ≤ s.now))) (fun r => r.maps = false)) ∧
    takes (arrived (on []) 3 (ctlFrame 0 2 false 5 1 false (zeros 16))) 3 (fun f => f.typ = fCTL && f.fld 12 1 % 4 = 1)
      (fun i r => (r.ctl.relays.find? (fun x => x.tag = i.f.fld 10 2)).isNone) ∧
    takes (arrived (withCtl (on []) fun c => { c with relays := [⟨5, 2, 0, false, none⟩] }) 3 (ctlFrame 0 2 false 5 1 false (zeros 16))) 3
      (fun f => f.typ = fCTL && f.fld 12 1 % 4 = 1)
      (fun i r => some? (r.ctl.relays.find? (fun x => x.tag = i.f.fld 10 2)) fun x => x.maps = false) = true := by decide +kernel

theorem test_met_ControlRequests_tile :
    takes (arrived (tile []) 0 (ctlFrame 0 2 false 5 0 true (zeros 16))) 0 (fun f => f.typ = fCTL && f.fld 12 1 % 4 = 0)
      (fun _ r => !r.head && decide (r.ctl.tileQ.length < 16)) ∧
    met (withCtl (tile []) fun c => { c with tileQ := [(0, ctlFrame 0 2 false 5 0 false (zeros 16))], served := [(2, 5, 0, [])] })
      (fun s => some? s.ctl.tileQ.head? fun x => ((s.ctl.served.filter fun y => decide (s.now ≤ y.2.2.1 + 10 ^ 8)).find?
        (fun y => y.1 = x.2.src && y.2.1 = x.2.fld 10 2)).isSome) ∧
    met (withCtl (tile []) fun c => { c with tileQ := [(0, ctlFrame 0 2 false 5 0 false (zeros 16))] })
      (fun s => some? s.ctl.tileQ.head? fun x => (s.ctl.served.find? (fun y => y.1 = x.2.src && y.2.1 = x.2.fld 10 2)).isNone) = true := by
  decide +kernel

theorem test_met_Notifications :
    met { on [(GLB_NDEST_W4_EN 0, 1)] with note := { NoteSt.reset with q0 := [⟨1, 2, 3, 4⟩] } } (fun s => s.note.q0 ≠ [] ∧
      s.note.lost0 = 0 ∧ s.bit (GLB_NDEST_W4_EN 0) = true ∧ s.note.next0 ≤ s.now) ∧
    takes (arrived (on []) 3 (ctlFrame 0 2 false 5 2 false (zeros 16))) 3 (fun f => f.typ = fCTL && f.fld 12 1 % 4 = 2) (fun _ r => r.head) ∧
    met { tile [(SKD_ADDR_VALID, 1)] with note := { NoteSt.reset with tileQ := [⟨1, 2, 3, 4⟩] } } (fun s => s.head = false ∧
      s.note.tileQ ≠ [] ∧ s.note.next0 ≤ s.now ∧ s.bit SKD_ADDR_VALID = true) = true := by decide +kernel

theorem test_met_ControlUnits :
    met ((on [(CVU_CFG_WIDTH 2, 65)]).accepted (CVU_CMD 2) 1) (fun a => (on []).busy (CVU_CMD 2) = false ∧ (a.cvuRefusal 2).isSome) ∧
    met ((tile [(CVU_CFG_WIDTH 2, 32)]).accepted (CVU_CMD 2) 1) (fun a => (a.cvuRefusal 2).isSome) ∧
    met ((on [(CVU_CFG_WIDTH 2, 32), (CVU_BPORT_UDP 2, 9), (CVU_CFG_RX 2, 1)]).accepted (CVU_CMD 2) 1) (fun a => a.cvuRefusal 2 = none) = true := by
  decide +kernel

theorem test_met_Memory :
    met (let s := memUp psREADY; s.set (MEM_CH_STAT_STATE 0) mACTIVE) (fun s => 0 + 1 < s.memc.nch ∧
      s.get (MEM_CH_STAT_STATE 0) = mACTIVE ∧ (s.chan 0).meas ≤ s.now ∧ s.memc.nextPoll ≤ s.now ∧ s.busy MEM_FREQ = false ∧
      (s.accepted MEM_FREQ 1).power = psREADY) ∧
    met (memUp psSHOW) (fun s => (s.accepted MEM_FREQ 1).power = psSHOW) ∧
    met (on [(MEM_STAT_STATE, mRATECHG)]) (fun s => s.get MEM_STAT_STATE = mRATECHG) = true := by decide +kernel

theorem test_met_SelfRefresh :
    met { (memUp psSTANDBY).set (MEM_CH_STAT_STATE 0) mACTIVE with now := 10 ^ 12 } (fun s => 0 < s.memc.nch ∧ s.power = psSTANDBY ∧
      s.get (MEM_CH_STAT_STATE 0) = mACTIVE ∧ (s.chan 0).idle + s.get MEM_SR_IDLE * 1000 ≤ s.now ∧ (s.chan 0).pend = false) ∧
    met ((memUp psSTANDBY).set (MEM_CH_STAT_STATE 0) mSELFREF) (fun s => s.get (MEM_CH_STAT_STATE 0) = mSELFREF) ∧
    met (let s := (memUp psSTANDBY).set (MEM_CH_STAT_STATE 0) mACTIVE; s.setChan 0 { s.chan 0 with pend := true }) (fun s =>
      s.get (MEM_CH_STAT_STATE 0) ≠ mSELFREF ∧ (s.chan 0).pend = true) = true := by decide +kernel

/-- Control unit 1 with a model: width, polynomial, initial value and final XOR in two words each, reflection. -/
def cvuModel (w r : Nat) (ph pl ih il : Nat) (x : Nat) : State :=
  on [(CVU_CFG_WIDTH 1, w), (CVU_CFG_REFIN 1, r), (CVU_CFG_REFOUT 1, r), (⟨CVU_POLYH 1, 0, 32⟩, ph), (⟨CVU_POLYL 1, 0, 32⟩, pl),
    (⟨CVU_INITH 1, 0, 32⟩, ih), (⟨CVU_INITL 1, 0, 32⟩, il), (⟨CVU_XORH 1, 0, 32⟩, x * ih), (⟨CVU_XORL 1, 0, 32⟩, x * il)]

/-- The results of the reference table of spec/17 for "123456789". -/
theorem test_check_values :
    (cvuModel 16 0 0 0x1021 0 0xFFFF 0).cvuCheck 1 ((List.range 9).map fun n => BitVec.ofNat 8 (0x31 + n)) = 0x29B1 ∧
    (cvuModel 32 1 0 0x1EDC6F41 0 0xFFFFFFFF 1).cvuCheck 1 ((List.range 9).map fun n => BitVec.ofNat 8 (0x31 + n)) = 0xE3069283 ∧
    (cvuModel 64 1 0x42F0E1EB 0xA9EA3693 0xFFFFFFFF 0xFFFFFFFF 1).cvuCheck 1 ((List.range 9).map fun n => BitVec.ofNat 8 (0x31 + n)) =
      0x995DC9BBDF1939FA := by decide +kernel

theorem test_met_CheckValues :
    met (cvuModel 16 0 0 0x1021 0 0xFFFF 0) (fun s => s.cvuWidth 1 = 16 ∧ s.cvuPoly 1 = 0x1021 ∧ s.cvuInit 1 = 0xFFFF ∧
      s.bit (CVU_CFG_REFIN 1) = false ∧ s.bit (CVU_CFG_REFOUT 1) = false ∧ s.cvuXor 1 = 0) ∧
    met (cvuModel 32 1 0 0x1EDC6F41 0 0xFFFFFFFF 1) (fun s => s.cvuWidth 1 = 32 ∧ s.cvuPoly 1 = 0x1EDC6F41 ∧
      s.cvuInit 1 = 0xFFFFFFFF ∧ s.bit (CVU_CFG_REFIN 1) = true ∧ s.bit (CVU_CFG_REFOUT 1) = true ∧ s.cvuXor 1 = 0xFFFFFFFF) ∧
    met (cvuModel 64 1 0x42F0E1EB 0xA9EA3693 0xFFFFFFFF 0xFFFFFFFF 1) (fun s => s.cvuWidth 1 = 64 ∧
      s.cvuPoly 1 = 0x42F0E1EBA9EA3693 ∧ s.cvuInit 1 = 2 ^ 64 - 1 ∧ s.bit (CVU_CFG_REFIN 1) = true ∧
      s.bit (CVU_CFG_REFOUT 1) = true ∧ s.cvuXor 1 = 2 ^ 64 - 1) ∧
    met (cvuModel 0 0 0 0 0 0 0) (fun s => s.head = true ∧ s.cvuWidth 1 = 0) = true := by decide +kernel

/-! ### Kerf words -/

/-- The listing of spec/07, word by word: opcode, form, D, A, B, C, immediate. -/
theorem test_kerf_listing :
    kdecode 0x4002040000000000 = ⟨0x40, 0, 0, 4, 1, 0, 0, 0, 0, 0, 0, 0⟩ ∧
    kdecode 0x2904000020000010 = ⟨0x29, 0, 0, 8, 0, 0, 0, 0, 8, 0, 0, 16⟩ ∧
    kdecode 0x3001140004000000 = ⟨0x30, 0, 0, 2, 5, 0, 0, 0, 1, 0, 0, 0⟩ ∧
    kdecode 0x120188D04C000000 = ⟨0x12, 0, 0, 3, 2, 6, 16, 1, 3, 0, 0, 0⟩ ∧
    kdecode 0x19018C0004000000 = ⟨0x19, 0, 0, 3, 3, 0, 0, 0, 1, 0, 0, 0⟩ ∧
    kdecode 0x3101940004000000 = ⟨0x31, 0, 0, 3, 5, 0, 0, 0, 1, 0, 0, 0⟩ ∧
    kdecode 0x2002940080000040 = ⟨0x20, 0, 0, 5, 5, 0, 0, 2, 0, 0, 0, 64⟩ ∧
    kdecode 0x2000A000A4000000 = ⟨0x20, 0, 0, 1, 8, 0, 0, 2, 9, 0, 0, 0⟩ ∧
    kdecode 0x7010000000FFFFF9 = ⟨0x70, 0, 1, 0, 0, 0, 0, 0, 0, 0, 0, 0xFFFFF9⟩ ∧
    kdecode 0x410204000000000A = ⟨0x41, 0, 0, 4, 1, 0, 0, 0, 0, 0, 0, 10⟩ := by decide

/-- Every word of the listing is legal, and a word whose opcode is not in the map is not (R178). -/
theorem test_kerf_legal : ([0x4002040000000000, 0x2904000020000010, 0x3001140004000000, 0x120188D04C000000, 0x19018C0004000000,
    0x3101940004000000, 0x2002940080000040, 0x200420008000000F + 0xFFFFF0, 0x2000A000A4000000, 0x7010000000FFFFF9, 0x410204000000000A,
    0x7000000000FFFFF5, 0x2080000000000000].all fun w => kLegal (kdecode w)) = true ∧ kLegal (kdecode (0x7D * 2 ^ 56)) = false := by decide

/-! ### Hypotheses that are met: Kerf -/

/-- A word from its fields (R173). -/
def kword (i : KIns) : Nat :=
  i.op * 2 ^ 56 + i.pn * 2 ^ 55 + i.pg * 2 ^ 52 + i.d * 2 ^ 47 + i.a * 2 ^ 42 + i.b * 2 ^ 37 + i.c * 2 ^ 32 + i.bs * 2 ^ 30 +
    i.fn * 2 ^ 26 + i.x1 * 2 ^ 25 + i.x2 * 2 ^ 24 + i.imm

/-- An instruction with no operand but its form. -/
def kins (op fn : Nat) : KIns := ⟨op, 0, 0, 0, 0, 0, 0, 0, fn, 0, 0, 0⟩

/-- Engine 0 of a head in READY with `i` at the start of its code and thread 0 in its slot 0, bound to context 0. -/
def kerf (i : KIns) (l : List (Fld × Nat)) (x : Slot) : State :=
  let s := on ([(PWR_STAT_STATE, psREADY), (ENG_CFG_CODESZ 0, 1), (CTX_STATE 0, 1)] ++ l)
  let s := (s.putWord (lsBase 0) (BitVec.ofNat 32 (kword i))).putWord (lsBase 0 + 4) (BitVec.ofNat 32 (kword i / 2 ^ 32))
  (s.setThread 0 { Thr.init with st := .placed, nctx := 1 }).setSlot 0 0 x

def readySlot : Slot := { Slot.init with st := .ready }

/-- Slot 0 issues the instruction next: what `State.Issues` asks. -/
def issues (s : State) (i : KIns) : Bool :=
  s.engIssues 0 && s.pick 0 = some 0 && !(s.slot 0 0).killed && decide ((s.slot 0 0).pc + 8 ≤ s.codeBytes 0) &&
    decide (kdecode (s.kword 0 (s.slot 0 0).pc) = i) && kLegal i

/-- It does so in the state built for it. -/
def issued (l : List KIns) : Bool := l.all fun i => issues (kerf i [] readySlot) i

theorem test_met_VectorForms : issued [kins 0x10 0, kins 0x11 0, kins 0x12 3, kins 0x13 0, kins 0x14 0, kins 0x15 0, kins 0x16 0,
    kins 0x17 0, kins 0x18 0] ∧ issued [kins 0x19 0, kins 0x19 9, kins 0x19 5, kins 0x19 7, kins 0x19 8, kins 0x58 0] = true := by
  decide +kernel

theorem test_met_ScalarForms : issued [kins 0x20 0, kins 0x21 0, kins 0x22 3, kins 0x23 0, kins 0x24 0, kins 0x25 0, kins 0x26 0,
    kins 0x27 0, kins 0x28 0] ∧ issued [kins 0x29 0, kins 0x29 8, kins 0x19 6, kins 0x29 10, { kins 0x21 0 with pn := 1 }] = true := by
  decide +kernel

theorem test_met_PredicateForms : issued [{ kins 0x10 6 with d := 1 }, { kins 0x10 8 with d := 1 }, { kins 0x20 8 with d := 1 },
    { kins 0x20 8 with pn := 1 }, { kins 0x20 8 with pg := 1, d := 1 }] ∧ isPred 6 = true ∧ (kins 0x20 8).mask readySlot = 0xFFFF ∧
    ({ kins 0x20 8 with pn := 1 } : KIns).mask readySlot = 0 := by decide +kernel

theorem test_met_Arithmetic : (0 < 31 ∧ 31 < 32) ∧ (5#32).toInt ≤ (7#32).toInt ∧ (65535#32).toNat ≤ 65535 := by decide

theorem test_met_LoadsAndStores :
    met (kerf { kins 0x30 0 with imm := 8 } [] readySlot) (fun s => issues s { kins 0x30 0 with imm := 8 } = true ∧
      (({ kins 0x30 0 with imm := 8 } : KIns).lsLanes (s.slot 0 0)).all (fun p => (s.lsFault 0 p.2 false).isNone) = true) ∧
    met (kerf { kins 0x31 1 with imm := 2048 } [] readySlot) (fun s => issues s { kins 0x31 1 with imm := 2048 } = true ∧
      (({ kins 0x31 1 with imm := 2048 } : KIns).lsLanes (s.slot 0 0)).all (fun p => (s.lsFault 0 p.2 true).isNone) = true) ∧
    met (kerf { kins 0x30 1 with imm := 2 } [] readySlot) (fun s => issues s { kins 0x30 1 with imm := 2 } = true ∧
      (({ kins 0x30 1 with imm := 2 } : KIns).lsLanes (s.slot 0 0)).findSome? (fun p => s.lsFault 0 p.2 false) = some 3) ∧
    met (kerf { kins 0x31 1 with imm := 8 } [] readySlot) (fun s => issues s { kins 0x31 1 with imm := 8 } = true ∧
      (({ kins 0x31 1 with imm := 8 } : KIns).lsLanes (s.slot 0 0)).findSome? (fun p => s.lsFault 0 p.2 true) = some 4) = true := by
  decide +kernel

/-- A flume of context 0 with one entry, or none, and its depth. -/
def kflume (i : KIns) (depth n : Nat) (x : Slot) : State :=
  let s := kerf i [(CTX_DEPTH 0 10, depth)] x
  { s with eng := { s.eng with flumes := [(10, ⟨(List.range n).map fun _ => ⟨1, 2, 3, 4, 640, 64, 0, 0, 0⟩, []⟩)] } }

/-- PULL, PUSH and RELO of flume 10. -/
def onFlume (op : Nat) : KIns := { kins op 0 with imm := 10 }

theorem test_met_FlumeInstructions_guard : issued [{ onFlume 0x40 with pn := 1 }, { onFlume 0x41 with pn := 1 },
      { onFlume 0x62 with pn := 1 }] ∧
    met (kerf { onFlume 0x40 with a := 1 } [] { readySlot with s := [(1, 5)] }) (fun s => issues s { onFlume 0x40 with a := 1 } = true ∧
      (s.issued 0 0).ctxBound 0 0 5 = false) ∧
    met (kerf { onFlume 0x41 with a := 1 } [] { readySlot with s := [(1, 5)] }) (fun s => issues s { onFlume 0x41 with a := 1 } = true ∧
      (s.issued 0 0).ctxBound 0 0 5 = false) ∧
    met (kerf { onFlume 0x62 with a := 1 } [] { readySlot with s := [(1, 5)] }) (fun s => issues s { onFlume 0x62 with a := 1 } = true ∧
      (s.issued 0 0).ctxBound 0 0 5 = false) = true := by decide +kernel

theorem test_met_FlumeInstructions_entries : ([0, 1].all fun x1 => [0, 1].all fun n =>
      met (kflume { onFlume 0x40 with x1 := x1 } 2 n readySlot) (fun s => issues s { onFlume 0x40 with x1 := x1 } = true ∧
        (s.issued 0 0).ctxBound 0 0 0 = true ∧ (s.issued 0 0).pullOk 10 = decide (n = 1)) &&
      met (kflume { onFlume 0x41 with x1 := x1 } 0 n readySlot) (fun s => issues s { onFlume 0x41 with x1 := x1 } = true ∧
        (s.issued 0 0).ctxBound 0 0 0 = true ∧ (s.issued 0 0).flumeFull 10 = decide (n = 1)) &&
      met (kflume { onFlume 0x62 with x1 := x1 } 0 n readySlot) (fun s => issues s { onFlume 0x62 with x1 := x1 } = true ∧
        (s.issued 0 0).ctxBound 0 0 0 = true ∧ (s.issued 0 0).flumeFull 10 = decide (n = 1))) = true := by decide +kernel

theorem test_met_FlumeInstructions_waits : ([Blocked.pull 10 0, .push 10 1 2 3 4, .relo 10 1 2 3 4 5 none].all fun b =>
    met (kflume (kins 0x20 0) 2 1 { readySlot with st := .flumewait, blk := some b }) (fun s => s.ready = true ∧
      (s.slot 0 0).st = .flumewait ∧ s.flumeReady 0 0 = true)) = true := by decide +kernel

/-- Two requests of slot 0 wait in the scaler queue of crew 0. -/
def crowded (s : State) : State := s.setCrew 0 { s.crew 0 with sclq := [⟨0, 0, 0, .sclose⟩, ⟨0, 0, 0, .sclose⟩] }

/-- The descriptor that SCLV.OPEN reads at address 0: eight words of zeros but the widths and steps that R162 asks. -/
def descAt (s : State) (a : Nat) (l : List Nat) : State :=
  (List.range l.length).foldl (fun s n => s.putWord (lsBase 0 + a + 4 * n) (BitVec.ofNat 32 (l.getD n 0))) s


/-- SCLV.OPEN of the descriptor at address 2048. -/
def sopen : KIns := { kins 0x51 0 with imm := 2048 }

/-- The words its issue reads. -/
def descWord (s : State) (j : Nat) : Nat := (s.word (lsAddr 0 (2048 + 4 * j))).toNat

theorem test_met_SamplerAndEventInstructions_guard :
    issued ([kins 0x50 0, kins 0x51 0, kins 0x51 1, kins 0x51 2, kins 0x52 0, kins 0x60 0, kins 0x61 0].map
      fun i => { i with pn := 1 }) = true := by decide +kernel

theorem test_met_SamplerAndEventInstructions_requests : ([kins 0x50 0, kins 0x51 1, kins 0x51 2, kins 0x52 0].all fun i =>
    met (kerf i [] readySlot) (fun s => issues s i && decide ((s.issued 0 0).smpOut 0 0 < 2)) &&
    met (crowded (kerf i [] readySlot)) (fun s => issues s i && decide (2 ≤ (s.issued 0 0).smpOut 0 0))) = true := by decide +kernel

theorem test_met_SamplerAndEventInstructions_open :
    met (descAt (kerf sopen [] readySlot) 2048 [16, 0, 0, 0, 65536, 65536]) (fun s => issues s sopen &&
      (List.range 8).all (fun j => ((s.issued 0 0).lsFault 0 (2048 + 4 * j) false).isNone) &&
      (passDesc (descWord (s.issued 0 0))).isSome && decide ((s.issued 0 0).smpOut 0 0 < 2)) ∧
    met (crowded (descAt (kerf sopen [] readySlot) 2048 [16, 0, 0, 0, 65536, 65536])) (fun s => issues s sopen &&
      (passDesc (descWord (s.issued 0 0))).isSome && decide (2 ≤ (s.issued 0 0).smpOut 0 0)) ∧
    met (kerf sopen [] readySlot) (fun s => issues s sopen && (passDesc (descWord (s.issued 0 0))).isNone) ∧
    met (kerf { sopen with imm := 2050 } [] readySlot) (fun s => issues s { sopen with imm := 2050 } = true ∧
      (List.range 8).findSome? (fun j => (s.issued 0 0).lsFault 0 (2050 + 4 * j) false) = some 3) = true := by decide +kernel

/-- WAITF with the mask of s1, all of its flags 3, in a thread whose flags are `f`. -/
def waitf (fn x2 f : Nat) : State :=
  let s := kerf { kins 0x60 fn with a := 1, x2 := x2 } [] { readySlot with s := [(1, 3)] }
  s.setThread 0 { s.thread 0 with flags := BitVec.ofNat 32 f }

theorem test_met_SamplerAndEventInstructions_events : ([0, 1].all fun fn => [0, 1].all fun x2 => [1, 3].all fun f =>
      met (waitf fn x2 f) (fun s => issues s { kins 0x60 fn with a := 1, x2 := x2 } &&
        waitRelease (fn = 1) ((s.issued 0 0).thread 0).flags (((s.issued 0 0).slot 0 0).sreg 1) = decide (fn = 0 ∨ f = 3))) ∧
    issued [kins 0x61 0] ∧
    met ((waitf 0 0 1).setSlot 0 0 { readySlot with st := .evwait, blk := some (.waitf 3 false true 1) }) (fun s => s.ready = true ∧
      (s.slot 0 0).st = .evwait ∧ waitRelease false (s.thread (s.slot 0 0).thr).flags 3 = true) ∧
    met (crowded (kerf (kins 0x20 0) [] readySlot)) (fun s => s.ready = true ∧ s.crewOn 0 = true) = true := by decide +kernel

theorem test_met_ControlInstructionsAndStops : issued [{ kins 0x70 0 with imm := 1 }, { kins 0x70 2 with imm := 1 },
      { kins 0x70 0 with imm := 200 }, { kins 0x70 3 with imm := 0xFFFFFF }, { kins 0x71 0 with imm := 16, x1 := 1 },
      { kins 0x71 0 with imm := 12 }, { kins 0x71 0 with imm := 1024 }, kins 0x7E 0, kins 0x7F 0,
      { kins 0x71 0 with pn := 1 }, { kins 0x7E 0 with pn := 1 }, { kins 0x7F 0 with pn := 1 }] ∧
    met (kerf (kins 0x7F 0) [] { readySlot with killed := true }) (fun s => s.engIssues 0 = true ∧ s.pick 0 = some 0 ∧
      (s.slot 0 0).killed = true) ∧
    met (kerf (kins 0x7F 0) [] { readySlot with pc := 1024 }) (fun s => s.engIssues 0 = true ∧ s.pick 0 = some 0 ∧
      (s.slot 0 0).killed = false ∧ s.codeBytes 0 < (s.slot 0 0).pc + 8) ∧
    met (kerf (kins 0x7D 0) [] readySlot) (fun s => s.engIssues 0 = true ∧ s.pick 0 = some 0 ∧
      kLegal (kdecode (s.kword 0 (s.slot 0 0).pc)) = false) = true := by decide +kernel

/-! ### Single steps of Kerf -/

/-- R180: ADDS of 2^31 - 1 and 1 stays at 2^31 - 1 and sets SAT; p2 masks lane 0 alone. -/
theorem test_step_adds : after (.kAdds 0 0) (kerf { kins 0x11 0 with d := 3, a := 1, b := 2, pg := 2 } []
      { readySlot with v := [(16, 0x7FFFFFFF), (17, 5), (32, 1), (33, 1)], p := [(2, 1)] })
    (fun t => (t.slot 0 0).vreg 3 0 = 0x7FFFFFFF ∧ (t.slot 0 0).vreg 3 1 = 0 ∧ (t.slot 0 0).sat = true ∧ (t.slot 0 0).pc = 8) = true := by
  decide +kernel

/-- R200: BR -1 at address 8 goes to address 0. -/
theorem test_step_br : after (.kBr 0 0) ((kerf (kins 0 0) [] { readySlot with pc := 8 }).putBytes (lsBase 0 + 8) (natLE 8 0x7000000000FFFFFF))
    (fun t => (t.slot 0 0).pc = 0) = true := by decide +kernel

/-- R178: an illegal word faults with cause 1. -/
theorem test_step_illegal : after (.kAdd 0 0) (kerf (kins 0x7D 0) [] readySlot) (fun t => (t.slot 0 0).st = .fault ∧ (t.slot 0 0).cause = 1)
    = true := by decide +kernel

/-! ### Hypotheses that are met: engines, lattices, threads -/

/-- Engine 0 of a head in READY, its slot 0 as given. -/
def slot0 (l : List (Fld × Nat)) (x : Slot) : State := (readyOn l).setSlot 0 0 x

theorem test_met_EngineCommands :
    met (readyOn []) (fun s => s.running = true ∧ s.crewOn 0 = true ∧ s.busy (ENG_CMD 0) = false ∧
      (s.accepted (ENG_CMD 0) 2).bit (ENG_STAT_STOPPED 0) = false ∧ (s.accepted (ENG_CMD 0) 3).bit (ENG_STAT_STOPPED 0) = false ∧
      ((s.accepted (ENG_CMD 0) 4).slot 0 0).st ≠ .fault ∧ (s.accepted (ENG_CMD 0) 5).resident 0 = [] ∧
      ((s.accepted (ENG_CMD 0) 5).set (ENG_STAT_GATED 0) 1).crewGated 0 = false ∧
      (s.accepted (ENG_CMD 0) 6).bit (ENG_STAT_GATED 0) = false) ∧
    met (slot0 [(ENG_STAT_STOPPED 0, 1), (ENG_STAT_GATED 0, 1)] { readySlot with st := .stopped, prior := .ready }) (fun s =>
      (s.accepted (ENG_CMD 0) 2).bit (ENG_STAT_STOPPED 0) = true ∧ ((s.accepted (ENG_CMD 0) 3).slot 0 0).st = .stopped ∧
      ((s.accepted (ENG_CMD 0) 3).slot 0 0).prior = .ready ∧ ((s.accepted (ENG_CMD 0) 3).slot 0 0).killed = false ∧
      (s.accepted (ENG_CMD 0) 3).held 0 0 = false ∧ (s.accepted (ENG_CMD 0) 5).resident 0 ≠ [] ∧
      (s.accepted (ENG_CMD 0) 6).bit (ENG_STAT_GATED 0) = true ∧ (s.accepted (ENG_CMD 0) 6).ready = true ∧
      (s.accepted (ENG_CMD 0) 6).crewGated 0 = false) ∧
    met (slot0 [] { readySlot with st := .fault }) (fun s => ((s.accepted (ENG_CMD 0) 4).slot 0 0).st = .fault) ∧
    met (slot0 [(⟨ENG_CMD 0, 28, 4⟩, stBUSY), (ENG_CMD_OP 0, 1)] readySlot) (fun s => s.stopping 0 = true ∧ s.engRequests 0 = 0) ∧
    met (readyOn []) (fun s => s.crewGated 0 = false ∧ (s.crew 0).paceWin ≤ s.now) = true := by decide +kernel

theorem test_met_LatticeCommands : met ((memUp psREADY).setAll [(⟨CMP_CREW_LUTSRC 0, 0, 32⟩, 0x1000000)]) (fun s => s.running = true ∧ s.crewOn 0 = true ∧
      s.busy (CMP_CREW_LUTCMD 0) = false ∧ (s.accepted (CMP_CREW_LUTCMD 0) (lutWord 1 3 6 0)).lutRefused 0 3 6 0 true = false ∧
      (s.accepted (CMP_CREW_LUTCMD 0) (lutWord 1 3 6 0)).dramUp = true ∧
      pageOff ((s.accepted (CMP_CREW_LUTCMD 0) (lutWord 1 3 6 0)).rd (CMP_CREW_LUTSRC 0)) + latticeBytes false ≤
        (s.accepted (CMP_CREW_LUTCMD 0) (lutWord 1 3 6 0)).dramBytes ∧
      (s.accepted (CMP_CREW_LUTCMD 0) (lutWord 3 3 0 1)).lutRefused 0 3 0 1 true = false ∧
      (s.accepted (CMP_CREW_LUTCMD 0) (lutWord 2 3 6 0)).lutRefused 0 3 6 0 false = false) ∧
    met (on [(CMP_CREW_LUTSLOT_LOCK 0 3, 1)]) (fun s =>
      (s.accepted (CMP_CREW_LUTCMD 0) (lutWord 1 3 6 0)).bit (CMP_CREW_LUTSLOT_LOCK 0 3) = true) ∧
    met ((on []).setCrew 0 { Crew.init with loading := some (3, 6, 0) }) (fun s => (s.crew 0).loading = some (3, 6, 0)) = true := by
  decide +kernel

/-- Thread 5 in a state, and in the list of the ready where it is unplaced. -/
def thread5 (st : ThrState) : State :=
  let s := (readyOn []).setThread 5 { Thr.init with st := st, affin := 1 }
  if st = .unplaced then { s with eng := { s.eng with ready := [5] } } else s

theorem test_met_ThreadCommands :
    met (on [(CTX_STATE 0, 1), (TDP_ARG0_AFFIN, 1)]) (fun s => s.running = true ∧ s.busy TDP_CMD = false ∧
      (let a := s.accepted TDP_CMD 1
       (a.spawn (a.get TDP_ARG0_ENTRY) (a.get TDP_ARG0_PRIO) (a.get TDP_ARG0_AFFIN) (a.get TDP_ARG1_CTX)
        (a.get TDP_ARG1_NCTX + 1) (a.rd TDP_ARG2) (a.rd TDP_ARG3) false).1.1.isSome) = true) ∧
    met (on []) (fun s => (let a := s.accepted TDP_CMD 1
       (a.spawn (a.get TDP_ARG0_ENTRY) (a.get TDP_ARG0_PRIO) (a.get TDP_ARG0_AFFIN) (a.get TDP_ARG1_CTX)
        (a.get TDP_ARG1_NCTX + 1) (a.rd TDP_ARG2) (a.rd TDP_ARG3) false).1) = (none, 3)) ∧
    met (on []) (fun s => ((s.accepted TDP_CMD 82).thread 5).st = .free) ∧
    met (thread5 .placed) (fun s => s.running = true ∧ ((s.accepted TDP_CMD 82).thread 5).st = .placed ∧
      ((s.accepted TDP_CMD (4 + 80 + 2 ^ 14 * 31)).thread 5).st = .placed) ∧
    met (thread5 .unplaced) (fun s => ((s.accepted TDP_CMD 84).thread 5).st = .unplaced ∧ s.ready = true ∧
      s.bestThread = some 5 ∧ s.bestEngine (s.thread 5).affin = some 0 ∧
      (List.range 8).find? (fun t => s.slotOpen 0 t) = some 0) = true := by decide +kernel

/-! ### Hypotheses that are met: contexts, flumes, programs -/

/-- Context 0 of a head in READY is bound and its flume 10 holds `n` entries of a depth of one, in state `st`. -/
def context (st n : Nat) : State :=
  let s := (memUp psREADY).setAll [(CTX_STATE 0, st), (CMP_CFG_CODEKB, 1)]
  { s with memc := { s.memc with grain := 256 }, eng := { s.eng with flumes := [(10, ⟨(List.range n).map fun _ => ⟨1, 2, 3, 4, 640, 64, 0, 0, 0⟩, []⟩)], groups := [(3, ⟨1, 1, []⟩)] } }

/-- The FLM_CMD register takes a command of operation word `v`, flume or group `sel`. -/
def flm (s : State) (sel v : Nat) : State := (s.set FLM_SEL_SEL sel).accepted FLM_CMD v

theorem test_met_FlumeCommands_contexts :
    met (context 1 0) (fun s => s.running = true ∧ s.busy FLM_CMD = false ∧ ((flm s 0 1).ctxAlloc 5 0 1 0 0).1.1.isSome = true ∧
      (flm s 0 2).get FLM_SEL_SEL < (flm s 0 2).ctxCount ∧ (flm s 0 2).get (CTX_STATE 0) = cBOUND) ∧
    met (context cDRAINING 0) (fun s => 0 < s.ctxCount ∧ s.get (CTX_STATE 0) = cDRAINING ∧ s.ctxEmpty 0 = true) = true := by
  decide +kernel

theorem test_met_FlumeCommands_flumes :
    met (context 1 0) (fun s => (flm s 12 19).flumeLen 12 = 0 ∧ (flm s 12 19).flumeWaiter 12 = false ∧
      (flm s 12 19).get (CTX_STATE 0) ≠ cFREE ∧
      some? (((flm s 12 67).freeOwner (.flume 12)).allocCrew ((flm s 12 67).get (CTX_CREW 0)) 256 (.flume 12)) (fun _ => true) = true ∧
      (flm s 11 4).flumeFull 11 = false) ∧
    met (context 1 1) (fun s => (flm s 10 3).flumeLen 10 ≠ 0 ∧ (flm s 10 4).flumeFull 10 = true ∧
      (flm s 10 4).get (CTX_STATE 0) ≠ cFREE) = true := by decide +kernel

theorem test_met_FlumeCommands_groups :
    met (context 1 0) (fun s => s.eng.groups.length ≠ 4096 ∧ (flm s 4095 5).group 4095 = none ∧ (flm s 3 5).group 3 ≠ none ∧
      (flm s 3 6).group 3 ≠ none ∧ (flm s 4 6).group 4 = none ∧
      some? ((flm s 3 7).group 3) (fun x => inWindow x 2 = false ∧ inWindow x 1 = true ∧ usedSeq x 1 = false) = true ∧
      (((flm s 3 7).skipSeq 3 1).group 3).isSome = true) = true := by decide +kernel

/-- A fetch of `n` lines in progress in crew 0, or an output entry whose data have left. -/
def inFlight (u : Nat) (e : FEntry) : State :=
  let s := context 1 0
  { s with eng := { s.eng with flight := [⟨u, 1, e, 1, 0⟩] } }

/-- The entry stands in flume `f`. -/
def entryIn (f : Nat) (e : FEntry) : State :=
  let s := context 1 0
  { s with cmp := { s.cmp with own := [(0, 1)] }, eng := { s.eng with flumes := [(f, ⟨[e], []⟩)] } }

theorem test_met_FetchOutAndTrace :
    met (entryIn 1 ⟨0, 0, 0, 0, 640, 64, 0, 0, 0⟩) (fun s => s.ready = true ∧ s.crewOn 0 = true ∧
      some? (s.nextEntry (s.fetchServes 0)) (fun x => x.1 = 1) = true) ∧
    met (entryIn 9 ⟨0, 0, 0, 0, 640, 64, 0, 0, 0⟩) (fun s => (List.range 20).any (fun u =>
      some? (s.nextEntry (s.outServes u)) (fun x => x.1 = 9 ∧ x.2.outOk = false)) = true) ∧
    met (inFlight 0 ⟨0, 0, 0, 0, 640, 64, 0, 0, 0⟩) (fun s => (s.fetchMore ⟨0, 1, ⟨0, 0, 0, 0, 640, 64, 0, 0, 0⟩, 1, 0⟩).1.e.fLines ≤
      (s.fetchMore ⟨0, 1, ⟨0, 0, 0, 0, 640, 64, 0, 0, 0⟩, 1, 0⟩).1.done) ∧
    met (inFlight 11 ⟨0, 0, 0, 0, 640, 64, 0, 0, 0⟩) (fun s => 3 ≤ uMONITOR ∧ (s.outDone 3).isSome = true) ∧
    met (readyOn [(TRC_CTL_EN, 0)]) (fun s => s.running = true ∧ s.busy TRC_CMD = false ∧ (s.accepted TRC_CMD 1).bit TRC_CTL_EN = false) ∧
    met (readyOn [(TRC_CTL_EN, 1)]) (fun s => (s.accepted TRC_CMD 1).bit TRC_CTL_EN = true) = true := by decide +kernel

/-- A fold over a number, evaluated at each element. -/
def strict {α : Type} (f : Nat → α → Nat) : List α → Nat → Nat
  | [], a => a
  | x :: l, 0 => strict f l (f 0 x)
  | x :: l, n + 1 => strict f l (f (n + 1) x)

theorem strict_eq {α : Type} (f : Nat → α → Nat) (l : List α) (a : Nat) : strict f l a = l.foldl f a := by
  induction l generalizing a with
  | nil => rfl
  | cons x l ih => cases a <;> exact ih _

/-- A program image of one instruction, its CRC over itself (R250). -/
def image : List Byte :=
  natLE 4 0x4652454B ++ natLE 2 1 ++ natLE 2 0 ++ natLE 4 8 ++ natLE 4 0 ++ natLE 4 1 ++ zeros 28 ++ natLE 4 582552254 ++
    zeros 140 ++ natLE 8 (0x7F * 2 ^ 56)

/-- CRC-32C bit by bit. -/
def crcFed (l : List Byte) : Nat := strict (crcBit 32 0x1EDC6F41) (l.flatMap (byteBits true)) 0xFFFFFFFF

theorem crc32c_strict (l : List Byte) : crc32c l = reflect 32 (crcFed l) ^^^ 0xFFFFFFFF := by
  rw [crcFed, strict_eq, List.foldl_flatMap]; rfl

theorem image_fed : (crcFed (putAt image 0x30 (zeros 4))).beq 2192532155 = true := by decide +kernel

theorem image_crc : (reflect 32 2192532155 ^^^ 0xFFFFFFFF).beq (imgProg image).crc = true := by decide +kernel

theorem imgOk_image : imgOk image = true := by
  unfold imgOk
  simp only [crc32c_strict, Nat.eq_of_beq_eq_true image_fed, Nat.eq_of_beq_eq_true image_crc, decide_true, Bool.and_true]
  decide +kernel

/-- It stands at the start of DRAM. -/
def imaged : State := ((memUp psREADY).setAll [(ENG_CFG_CODESZ 0, 1)]).putBytes dramBase image

theorem test_met_ProgramCommands_load : (imaged.accepted CMP_CMD 497).loadCheck 31 image = .ok 0 := by
  have h1 : ((imaged.accepted CMP_CMD 497).prog 31).isSome = false := by decide +kernel
  have h2 : codePlace (imaged.accepted CMP_CMD 497).eng.code ((imaged.accepted CMP_CMD 497).codeBytes 0) (imgProg image).len =
    some 0 := by decide +kernel
  have h3 : shortLayer (imgProg image).decl = none := by decide +kernel
  have h4 : (262144 - (imaged.accepted CMP_CMD 497).get CMP_CFG_CODEKB * 1024).blt
    ((imgProg image).threads * (imgProg image).lsneed) = false := by decide +kernel
  have h5 : (imaged.accepted CMP_CMD 497).missingLut (imgProg image).luts = none := by decide +kernel
  simp only [Nat.blt_eq, ← Bool.not_eq_true] at h4
  simp [State.loadCheck, imgOk_image, h1, h2, h3, h4, h5]

theorem test_met_ProgramCommands_bad : (match (on []).loadCheck 31 [] with
    | .ok _ => false
    | .error r => r.1.beq qBADIMG) = true := by decide +kernel

theorem test_met_ProgramCommands :
    met imaged (fun s => s.running = true ∧ s.head = true ∧ s.busy CMP_CMD = false ∧ (s.accepted CMP_CMD 497).dramUp = true ∧
      (s.accepted CMP_CMD 497).bytes dramBase (0xC0 + 8) = image ∧
      (s.accepted CMP_CMD 498).progUsed 31 = false) ∧
    met (on []) (fun s => (s.accepted CMP_CMD 515).armCheck true = none) ∧
    met (on [(CMP_STAT_ARMPEND, 1)]) (fun s => (s.accepted CMP_CMD 515).armCheck true = some (qARMPEND, 0)) ∧
    met (on [(ETH_MON_STAT_STATE, 1)]) (fun s => (s.accepted CMP_CMD 2).progUsed 0 = true) ∧
    met imaged (fun s => (({ s with cmp := { s.cmp with loading := some (31, imgProg image, image.drop 0xC0) } } : State).cmp.loading).isSome = true)
      = true := by decide +kernel

/-! ### Hypotheses that are met: Skidline -/

/-- A unit of 32 bytes with its CRC-16 (R286, R288). -/
def unit (l : List Byte) : List Byte :=
  let l := l ++ zeros (30 - l.length)
  l ++ natLE 2 (crc16 l)

/-- Port 3 of a head is ACTIVE. -/
def linked (l : List (Fld × Nat)) : State := readyOn ([(SKD_PORT_STAT_ACTIVE 3, 1), (SKD_PORT_CFG_EN 3, 1)] ++ l)

/-- A TALLY frame unit, first or not (R303). -/
def tally (b : Nat) : List Byte := unit ([2, 1] ++ zeros 10 ++ natLE 1 b)

/-- An ACK frame to the head without payload, of version `v` (R288). -/
def ackHdr (v : Nat) : RxFrame := ⟨unit [BitVec.ofNat 8 (16 * v + fACK), 0], [], .crc 0⟩

theorem test_met_FramesAndCredit_tally :
    met (linked []) (fun s => 3 < s.portCount ∧ s.active 3 = true ∧ [0, 1].all (fun b => numAt (tally b) 0 1 = 2 ∧
      (tally b).length = 32 ∧ crc16 ((tally b).take 30) = numAt (tally b) 30 2 ∧ numAt (tally b) 12 1 % 2 = b) = true ∧
      crc16 (([2] ++ zeros 31).take 30) ≠ numAt ([2] ++ zeros 31 : List Byte) 30 2) = true := by decide +kernel

theorem test_met_FramesAndCredit_received :
    met ((linked []).setPort 3 { (linked []).port 3 with held := true }) (fun s => s.running = true ∧ s.bit (SKD_PORT_CFG_EN 3) = true ∧
      (s.port 3).held = true) ∧
    met (linked []) (fun s => (s.port 3).held = false ∧ headerCrcOk (zeros 32) = false ∧ headerCrcOk (ackHdr 0).hdr = true ∧
      headerOk (ackHdr 0).hdr = false ∧ headerCrcOk (ackHdr 1).hdr = true ∧ headerOk (ackHdr 1).hdr = true) ∧
    met (linked []) (fun s => (parseHeader (ackHdr 1).hdr).2 = 0 ∧ rxEnd { ackHdr 1 with fin := .crc (BitVec.ofNat 32 (crc32c (ackHdr 1).hdr)) } 0
        (crc32c (ackHdr 1).hdr) = .ok ∧
      (s.setPort 3 { s.port 3 with last := s.now }).route 3 (parseHeader (ackHdr 1).hdr).1 = ⟨true, none, false⟩) = true := by decide +kernel

theorem test_met_FramesAndCredit_sent :
    met (linked []) (fun s => (s.port 3).calTx ≤ s.now ∧ (s.creditWaits 3).nextTx 3 = none) ∧
    met ((linked []).send 3 (mkFrame fTIM 0 64 true false [0] (zeros 32))) (fun s => (s.port 3).calTx ≤ s.now ∧
      ((s.creditWaits 3).nextTx 3).isSome = true) = true := by decide +kernel

/-- A tile in READY, its intake flumes of one entry holding `n`, `f` at the front of port 1. -/
def tileRx (n : Nat) (held : Bool) (f : Frame) : State :=
  let s := tile [(PWR_STAT_STATE, psREADY), (CTX_DEPTH 0 0, 0), (CTX_DEPTH 0 11, 0)]
  let q : Flume := ⟨(List.range n).map fun _ => ⟨1, 2, 3, 4, 640, 64, 0, 0, 0⟩, []⟩
  let s : State := { s with skd := { s.skd with nbuf := 1, next := 0 }, eng := { s.eng with flumes := [(0, q), (11, q)] } }
  s.setPort 1 { s.port 1 with rx := [⟨f, 0, 0, false⟩], held := held }

theorem test_met_TileIntake :
    ([(fPIX, 0), (fCMT, 0), (fPIX, 1), (fCMT, 1)].all fun x =>
      met (tileRx x.2 false (mkFrame x.1 0 64 true false [0] (zeros 32))) (fun s => s.running = true ∧ s.head = false ∧
        s.ready = true ∧ (s.port 1).held = false ∧ s.intakeOk (mkFrame x.1 0 64 true false [0] (zeros 32)) = decide (x.2 = 0))) ∧
    met (tileRx 0 true (mkFrame fPIX 0 64 true false [0] (zeros 32))) (fun s => s.ready = true ∧ (s.port 1).held = true ∧
      s.intakeOk (mkFrame fPIX 0 64 true false [0] (zeros 32)) = true) ∧
    takes (tileRx 0 false (mkFrame fACK 0 64 true false [0] [])) 1 (fun f => f.typ = fACK) (fun _ r => r.head = false) ∧
    takes (tileRx 0 false (mkFrame fDIS 0 64 true false [0, 1] [])) 1 (fun f => f.typ = fDIS && f.fld 10 1 % 2 = 0) (fun _ _ => true) = true := by
  decide +kernel

theorem test_met_Enumeration_asked :
    met (on [(⟨SKD_CH_ROLE, 6, 2⟩, rCHAIN)]) (fun s => s.running = true ∧ s.busy SKD_ENUM = false ∧
      (s.accepted SKD_ENUM 49).head = true ∧ [3].filter (fun q => (s.accepted SKD_ENUM 49).role q = rCHAIN) ≠ []) ∧
    met (tile []) (fun s => (s.accepted SKD_ENUM 1).head = false ∧ s.head = false) ∧
    met (on [(PWR_STAT_STATE, psSTANDBY)]) (fun s => s.power = psSTANDBY) ∧
    met (on []) (fun s => s.head = true ∧ s.power = psHALT ∧ getBits 5 0 6 ≠ s.headNum ∧ getBits (BitVec.ofNat 32 s.headNum) 0 6 = s.headNum)
      = true := by decide +kernel

theorem test_met_Enumeration_ends :
    met { on [] with now := 10000000, skd := { SkdSt.reset with enumPend := some (0, [3]) } } (fun s => s.skd.enumPend = some (0, [3]) ∧
      0 + 10000000 ≤ s.now ∧ [3].all (fun p => s.reported (if s.isTwin p then p - 8 else p)) = true) ∧
    takes (arrived (on []) 3 (mkFrame fDIS 0 64 false false [1] (zeros 32))) 3 (fun f => f.typ = fDIS && f.fld 10 1 % 2 = 1)
      (fun i r => r.head && numAt i.f.pay 23 1 % 2 = 0) ∧
    takes (arrived (on []) 3 (mkFrame fDIS 0 64 false false [1] (zeros 23 ++ [1]))) 3 (fun f => f.typ = fDIS && f.fld 10 1 % 2 = 1)
      (fun i r => r.head && numAt i.f.pay 23 1 % 2 = 1) = true := by decide +kernel

/-- R370: a SLICE entry whose slot is at or before CLOSEDSEQ is a duplicate, and one after it is not. -/
theorem test_closed_slice :
    let s : State := (tile []).putWord (selBase + 20) 0x10005#32
    s.dupSlice 0 (sliceEntry 0 0 0 0 5) = true ∧ s.dupSlice 0 (sliceEntry 0 0 0 0 6) = false := by decide

/-! ### Hypotheses that are met: wall commands and images -/

/-- A wall-command job of `coord`, decided or not. -/
def wcJob (coord : Nat) (dec : Option Bool) : WcJob := ⟨1, coord, 1, true, 0, 0, [], [], [⟨64, none, false⟩], [], none, dec, 0⟩

/-- A head at wall time 2 s with a job. -/
def coordinating (j : WcJob) : State :=
  let s := on []
  { s with tm := { s.tm with wall := 2 * wSec }, wc := { s.wc with jobs := [j] } }

/-- A job of another head. -/
def far (s : State) : Nat := s.headAddr + 1024

/-- A WALLCMD of operation `op`, CMDID 1, type 1, coordinated by `coord`. -/
def wallcmd (op coord : Nat) : Frame := svc vWALLCMD (wcPayload op 1 0 0 1 coord (10 ^ 9 * wSec) 0 [] 0)

theorem test_met_WallCommands_issued :
    met (on []) (fun s => s.running = true ∧ s.busy SKD_WC_CMD = false ∧ (s.accepted SKD_WC_CMD 1).head = true ∧
      (s.accepted SKD_WC_CMD 1).issueRefused (s.accepted SKD_WC_CMD 1).newJob = true ∧
      (s.accepted SKD_WC_CMD 2).wc.jobs.find? (fun j => (s.accepted SKD_WC_CMD 2).coordinates j && j.dec.isNone) = none) ∧
    met (on [(SKD_WC_CFG_TYPE, 1), (SKD_WC_CFG_SCOPE, 0), (SKD_WC_CFG_LISTN, 1), (SKD_WC_T2_SH, 1),
      (⟨SKD_WC_LIST 0, 0, 16⟩, 64)]) (fun s => (s.accepted SKD_WC_CMD 1).issueRefused (s.accepted SKD_WC_CMD 1).newJob = false) ∧
    met (coordinating (wcJob (on []).headAddr none)) (fun s => ((s.accepted SKD_WC_CMD 2).wc.jobs.find?
      (fun j => (s.accepted SKD_WC_CMD 2).coordinates j && j.dec.isNone)).isSome = true) = true := by decide +kernel

theorem test_met_WallCommands_deadlines :
    met (coordinating (wcJob (on []).headAddr none)) (fun s => s.head = true ∧
      some? (s.wc.jobs.find? (fun j => decide (j.next ≤ s.now))) (fun j => s.coordinates j) = true ∧
      (s.wc.jobs.find? (fun j => s.coordinates j && j.dec.isNone && decide (j.dead ≤ s.tm.wall))).isSome = true) ∧
    met (coordinating (wcJob (far (on [])) none)) (fun s => some? (s.wc.jobs.find? (fun j => decide (j.next ≤ s.now)))
        (fun j => s.coordinates j = false ∧ j.dec = none ∧ j.dead + wSec ≤ s.tm.wall) = true ∧
      (s.wc.jobs.find? (fun j => !s.coordinates j && j.told.isNone && j.dec.isNone &&
        decide (j.dead ≤ s.tm.wall + 10 ^ 6 * wNs))).isSome = true) ∧
    met (coordinating (wcJob (far (on [])) (some true))) (fun s => some? (s.wc.jobs.find? (fun j => decide (j.next ≤ s.now)))
        (fun j => j.dec ≠ none) = true) ∧
    met (let s := coordinating (wcJob 0 none); { s with wc := { s.wc with arms := [⟨1, 1, 64, 0, 0, [], 0⟩] } }) (fun s =>
      (s.wc.arms.find? (fun a => decide (a.dead + wSec ≤ s.tm.wall))).isSome = true) = true := by decide +kernel

/-- A tile that holds an arm. -/
def armed : State :=
  let s := tile []
  { s with wc := { s.wc with arms := [⟨1, 1, 64, 0, 0, [], 0⟩] } }

theorem test_met_WallMessages_tile :
    takes (arrived (tile []) 1 (wallcmd woARM 64)) 1 (isWc [woARM]) (fun _ r => r.head = false) ∧
    takes (arrived (tile []) 1 (wallcmd woCOMMIT 64)) 1 (isWc [woCOMMIT]) (fun i r => r.head = false ∧
      (r.armOf (readWc (svcPay i.f)).id (readWc (svcPay i.f)).typ).isNone) ∧
    takes (arrived armed 1 (wallcmd woABORT 64)) 1 (isWc [woABORT]) (fun i r => r.head = false ∧
      (r.armOf (readWc (svcPay i.f)).id (readWc (svcPay i.f)).typ).isSome) = true := by decide +kernel

theorem test_met_WallMessages_head :
    takes (arrived (on []) 3 (wallcmd woARM 64)) 3 (isWc [woARM]) (fun _ r => r.head = true) ∧
    takes (arrived (on []) 3 (wallcmd woCOMMIT 64)) 3 (isWc [woCOMMIT]) (fun i r => r.head = true ∧
      (r.job (readWc (svcPay i.f)).id (readWc (svcPay i.f)).coord).isNone) ∧
    takes (arrived (coordinating (wcJob 64 none)) 3 (wallcmd woABORT 64)) 3 (isWc [woABORT]) (fun i r => r.head = true ∧
      (r.job (readWc (svcPay i.f)).id (readWc (svcPay i.f)).coord).isSome) ∧
    takes (arrived (on []) 3 (wallcmd woDONE 64)) 3 (isWc [woARMED, woREFUSED, woDONE, woNOTARMED, woHREPORT])
      (fun i r => r.head = true ∧ (r.job (readWc (svcPay i.f)).id (readWc (svcPay i.f)).coord).isNone) ∧
    takes (arrived (coordinating (wcJob 64 none)) 3 (wallcmd woARMED 64)) 3 (isWc [woARMED, woREFUSED, woDONE, woNOTARMED, woHREPORT])
      (fun i r => r.head = true ∧ (r.job (readWc (svcPay i.f)).id (readWc (svcPay i.f)).coord).isSome) = true := by decide +kernel

/-- A head that distributes an image of one piece in state `st`. -/
def distributing (st : Nat) (need : List Nat) : State :=
  let s := (memUp psREADY).setAll [(SKD_IMG_STAT_STATE, st), (⟨SKD_IMG_SRC, 0, 32⟩, 0x1000000), (⟨SKD_IMG_LEN, 0, 32⟩, 4096),
    (SKD_IMG_PORTS_PORTS, 8), (SKD_PORT_CFG_IMGEN 3, 1), (⟨SKD_CH_ROLE, 6, 2⟩, rCHAIN)]
  { s with img := ⟨need, 0, [], [], []⟩ }

theorem test_met_Images :
    met (on []) (fun s => s.running = true ∧ s.busy SKD_IMG_CMD = false ∧ (s.accepted SKD_IMG_CMD 1).dramUp = false) ∧
    met (distributing 0 []) (fun s => (s.accepted SKD_IMG_CMD 1).head = true ∧ (s.accepted SKD_IMG_CMD 1).imgBusy = false ∧
      (s.accepted SKD_IMG_CMD 1).dramUp = true ∧ (s.accepted SKD_IMG_CMD 1).imgBytesN ≠ 0 ∧ (s.accepted SKD_IMG_CMD 1).imgPorts ≠ []) ∧
    met (distributing imPASS [0]) (fun s => (s.accepted SKD_IMG_CMD 2).imgBusy = true ∧ s.dramUp = true ∧
      s.get SKD_IMG_STAT_STATE = imPASS ∧ s.img.next ≤ s.now ∧ s.img.need = [0]) ∧
    met (distributing imPASS []) (fun s => s.get SKD_IMG_STAT_STATE = imPASS ∧ s.img.need = []) ∧
    met (distributing imQUERY []) (fun s => s.get SKD_IMG_STAT_STATE = imQUERY ∧ s.img.wait = []) ∧
    takes (arrived (tile []) 1 (svc vIMGANN (natLE 4 9 ++ natLE 4 8192))) 1 (isSvc vIMGANN) (fun i r => r.dlServed &&
      (match r.dlOpen (numAt (svcPay i.f) 0 4) (numAt (svcPay i.f) 4 4) with | .ok _ => true | .error _ => false)) ∧
    takes (arrived (tile []) 1 (mkFrame fIMG 0 64 true false [] (zeros 32))) 1 (fun f => f.typ = fIMG) (fun _ r => r.head = false)
      = true := by decide +kernel

/-! ### Hypotheses that are met: lamp drive, lamp correction, loop engine -/

/-- Geometry words of 32 rows, one segment, row period 1,200 cycles, blanking 40, dead time 8. -/
def geom0 : Word := 31 + 1200 * 65536
def geom1 : Word := 40 + 8 * 256

/-- A tile in READY whose slot grid runs, wall time `w`. -/
def scanning (l : List (Fld × Nat)) (w : Nat) : State :=
  let s := (tile [(PWR_STAT_STATE, psREADY), (TMU_SRV_STAT_STATE, svLOCKED)]).setAll l
  { s with tm := { s.tm with wall := w } }

/-- A scan of one row from the wall time 0. -/
def scan1 (row : Nat) : Scan := ⟨0, 0, GridSet.reset, 1, 1, 100, row, false, false⟩

theorem test_met_ScanOut_arming :
    met (scanning [(⟨LDU_GEOM0, 0, 32⟩, geom0.toNat), (⟨LDU_GEOM1, 0, 32⟩, geom1.toNat)] 0) (fun s => s.running = true ∧
      s.busy LDU_CMD = false ∧ (s.accepted LDU_CMD 1).lampSide = true ∧ (s.accepted LDU_CMD 1).ldu.geom = none ∧
      (s.accepted LDU_CMD 1).gridChanging = false ∧ (s.accepted LDU_CMD 2).ldu.drv = none ∧
      geomBad (s.accepted LDU_CMD 1).grid ((s.accepted LDU_CMD 1).rd LDU_GEOM0) ((s.accepted LDU_CMD 1).rd LDU_GEOM1) = none) ∧
    met (scanning [(⟨LDU_GEOM0, 0, 32⟩, 0)] 0) (fun s =>
      geomBad (s.accepted LDU_CMD 1).grid ((s.accepted LDU_CMD 1).rd LDU_GEOM0) ((s.accepted LDU_CMD 1).rd LDU_GEOM1) = some 3) ∧
    met (scanning [(LDU_GEOM0A_ROWS, 7), (LDU_LINE_APPLY, 8)] 0) (fun s => (s.accepted LDU_CMD 2).get LDU_GEOM0A_ROWS <
      (s.accepted LDU_CMD 2).get LDU_LINE_APPLY) ∧
    met (scanning [(LDU_GEOM0A_ROWS, 8), (LDU_LINE_APPLY, 8), (LDU_ICUR_BASE 0, 32), (LDU_ICUR_BASE 1, 32), (LDU_ICUR_BASE 2, 1536)] 0)
      (fun s => (s.accepted LDU_CMD 2).get LDU_LINE_APPLY ≤ (s.accepted LDU_CMD 2).get LDU_GEOM0A_ROWS ∧
        (List.range 3).all (fun c => decide (32 ≤ (s.accepted LDU_CMD 2).get (LDU_ICUR_BASE c) ∧
          (s.accepted LDU_CMD 2).get (LDU_ICUR_BASE c) ≤ 1536)) = true) = true := by decide +kernel

theorem test_met_ScanOut_rows :
    met (scanning [] (2 ^ 40 * wSec)) (fun s => s.gridRuns = true ∧ s.scanOf s.tm.nextJ ≤ s.tm.wall ∧
      s.lqDue 0 (launchTime s.grid s.tm.nextJ) = false ∧ s.gridFirst = false) ∧
    met (let s := scanning [] wSec; { s with tm := { s.tm with nextJ := 10 ^ 12 }, ldu := { s.ldu with cur := some (scan1 0) } }) (fun s =>
      some? s.ldu.cur (fun c => c.row < c.rows * c.segs ∧ c.rowAt c.row ≤ s.tm.wall ∧ c.rowAt c.row < s.nextScan ∧ c.pad = false ∧
        c.padAt ≤ s.tm.wall ∧ c.padAt < s.nextScan) = true) ∧
    met { scanning [] 0 with now := 10000000, ldu := { State.reset.ldu with hvSince := some 0 } } (fun s => s.ldu.hvSince = some 0 ∧
      0 + 10000000 ≤ s.now) ∧
    met { scanning [] 0 with fw := ⟨[5], [(5, List.range 16)]⟩ } (fun s => s.ready = true ∧ s.lampSide = true ∧ s.fwDrain.flipReady = some 5)
      = true := by decide +kernel

/-- A command of the lamp correction accepted. -/
def lcr (s : State) (v : Nat) : State := s.accepted LCR_CMD v

theorem test_met_LampRecordCommands :
    met (scanning [(LCR_STAT_SETINUSE, 3)] 0) (fun s => s.running = true ∧ s.busy LCR_CMD = false ∧ (lcr s (2 + 48)).get LCR_STAT_SETINUSE = 3 ∧
      (lcr s (2 + 64)).get LCR_STAT_SETINUSE ≠ 4 ∧ (lcr s (2 + 64)).bit LCR_SWITCH_PEND = false ∧ (lcr s 4).lampSide = true) ∧
    met (scanning [(GLB_STRAP_NOLAMP, 1)] 0) (fun s => (lcr s 4).lampSide = false) ∧
    met (memUp psREADY) (fun s => s.lampSide = true) ∧
    met (let s := scanning [] 0; { s with lcr := { s.lcr with store := some ⟨recSet 0, []⟩ } }) (fun s => s.lcr.store = some ⟨recSet 0, []⟩ ∧
      s.bit LCR_STAT_CALMIS = false) = true := by decide +kernel

theorem test_met_LampTests :
    met (scanning [] 0) (fun s => s.running = true ∧ s.busy LCR_CMD = false ∧ s.bit LCR_SCALQ_RUNNING = false ∧
      [5, 6, 7, 8, 9].all (fun v => (lcr s v).lampSide) = true ∧ (lcr s 6).bit LDU_STAT_LIT = false) ∧
    met (scanning [(LDU_STAT_LIT, 1), (LDU_GEOM1A_BLANK, 20), (LDU_GEOM1A_DEAD, 8)] 0) (fun s => (lcr s 6).bit LDU_STAT_LIT = true ∧
      (lcr s 6).probeFits = false) ∧
    met (scanning [(LDU_STAT_LIT, 1), (LDU_GEOM1A_BLANK, 255), (LDU_GEOM1A_DEAD, 8), (LCR_PROBE_PER, 1)] 0) (fun s =>
      (lcr s 6).bit LDU_STAT_LIT = true ∧ (lcr s 6).probeFits = true ∧ (lcr s 6).get LCR_PROBE_PER ≠ 0) ∧
    met (scanning [(LCR_SCALQ_RUNNING, 1)] 0) (fun s => s.ready = true ∧ s.bit LCR_SCALQ_RUNNING = true ∧ s.bit LDU_STAT_LIT = false ∧
      s.lcr.calEnd ≤ s.now) ∧
    ([0, 1].all fun m => met (scanning [(LCR_SCAL_MODE, m), (LCR_SCAL_DT, 1), (THM_SENS_VALID 24, 1), (THM_SENS_T 24, 400)] 0) (fun s =>
      s.ready = true ∧ s.lampSide = true ∧ s.sinkCalTrigger = true ∧ s.bit LCR_SCALQ_RUNNING = false ∧ s.get LCR_SCAL_MODE = m)) ∧
    met (let s := scanning [(LDU_STAT_LIT, 1), (LCR_PROBEST_REPEATING, 1), (LCR_PROBE_PER, 1)] 0
         { s with now := 10 ^ 9, lcr := { s.lcr with lastPass := some 0 } }) (fun s => s.bit LDU_STAT_LIT = true ∧
      s.bit LCR_PROBEST_REPEATING = true ∧ s.lcr.pass = none ∧ s.lcr.lastPass = some 0 ∧ 0 + s.get LCR_PROBE_PER * 10 ^ 9 ≤ s.now) ∧
    met (scanning [(LCR_STAT_SHORTRUN, 1)] 0) (fun s => s.bit LCR_STAT_SHORTRUN = true) = true := by decide +kernel

theorem test_met_SensorsAndLoop :
    met { scanning [(LPE_STAT_RUNNING, 1)] (10 ^ 30) with now := 10 ^ 12 } (fun s => s.ready = true ∧ s.lampSide = true ∧ s.lcr.nextNtc ≤ s.now ∧
      s.lcr.nextDig ≤ s.now ∧ s.lpeRuns = true ∧ s.lpe.next ≤ s.tm.wall ∧ s.lqDue 1 s.lpe.next = false) = true := by decide +kernel

/-! ### Hypotheses that are met: a set image and a board record, whose CRC no evaluation needs -/

/-- The image of `n` bytes at `a` gets the CRC over itself (R361). -/
def withCrc (s : State) (a n : Nat) : State := s.putBytes (a + 0x3C) (natLE 4 (crc32c (putAt (s.bytes a n) 0x3C (zeros 4))))

theorem bytes_withCrc (s : State) (a n b k : Nat) (h : b + k ≤ a + 0x3C ∨ a + 0x40 ≤ b) : (withCrc s a n).bytes b k = s.bytes b k :=
  bytes_congr fun x _ _ => byte_putBytes_outside s _ _ (by simp only [natLE, List.length_cons, List.length_nil]; omega)

theorem imgCrcOk_withCrc (s : State) (a n : Nat) (h : 0x40 ≤ n) : imgCrcOk ((withCrc s a n).bytes a n) = true := by
  have h1 : putAt ((withCrc s a n).bytes a n) 0x3C (zeros 4) = putAt (s.bytes a n) 0x3C (zeros 4) := by
    simp only [putAt]
    rw [take_bytes _ _ _ _ (by omega), take_bytes _ _ _ _ (by omega), bytes_withCrc _ _ _ _ _ (Or.inl (by omega)),
      show 0x3C + (zeros 4).length = 0x40 from rfl, drop_bytes _ _ _ _ h, drop_bytes _ _ _ _ h,
      bytes_withCrc _ _ _ _ _ (Or.inr (by omega))]
  have h2 : numAt ((withCrc s a n).bytes a n) 0x3C 4 = crc32c (putAt (s.bytes a n) 0x3C (zeros 4)) := by
    rw [numAt_bytes _ _ _ _ _ (by omega)]
    exact (congrArg leNat (bytes_putBytes s (a + 0x3C) _)).trans (leNat_natLE4 _ (crc32c_lt _))
  simp [imgCrcOk, h1, h2]
/-- DRAM of a head that holds the header of an image of 32 × 16 lamps of type 0 with MAGIC `m`, and `rest`; a board description
whose flash directory gives the calibration area 64 KiB, and the records `recs`. -/
def lampDram (m : Nat) (rest : List (Nat × Byte)) (recs : List (Nat × FlashCopy)) : State :=
  let s := (memUp psREADY).setAll [(⟨LCR_SRC, 0, 32⟩, 0x1000000)]
  let s := s.putBytes dramBase (natLE 4 m ++ natLE 2 1 ++ zeros 6 ++ natLE 2 32 ++ natLE 2 16)
  let bd := zeros 32 ++ natLE 2 6 ++ natLE 2 48 ++ zeros 36 ++ natLE 4 65536 ++ zeros 8
  { s with mem := s.mem ++ rest, boot := { s.boot with recs := recs, bd := some bd } }

/-- A board record of that type and size, by its header. -/
def boardCopy : FlashCopy := ⟨1, true, zeros 12 ++ natLE 2 32 ++ natLE 2 16⟩

/-- The state that command `c` finds with the image of `n` bytes completed by its CRC. -/
def imageCmd (s : State) (n c : Nat) : State := (withCrc s dramBase n).accepted LCR_CMD c

theorem bytes_imageCmd (s : State) (n c a k : Nat) : (imageCmd s n c).bytes a k = (withCrc s dramBase n).bytes a k :=
  bytes_congr fun _ _ _ => (byte_answer _ _ _).trans (byte_wr _ _ _ _)

/-- A word of the image beside its CRC field. -/
theorem numAt_image (s : State) (n c m o k : Nat) (h : o + k ≤ m) (hc : o + k ≤ 0x3C ∨ 0x40 ≤ o) :
    numAt ((imageCmd s n c).bytes dramBase m) o k = leNat (s.bytes (dramBase + o) k) := by
  rw [numAt_bytes _ _ _ _ _ h, bytes_imageCmd, bytes_withCrc _ _ _ _ _ (by omega)]

theorem calRoom_boot {s t : State} (h : s.boot = t.boot) : s.calRoom = t.calRoom := by
  unfold State.calRoom State.copyNum State.validCopy State.calUsed State.areaSize State.tag
  rw [h]

theorem boards_boot {s t : State} (h : s.boot = t.boot) : s.boards = t.boards := by
  unfold State.boards State.recData State.copyIn State.copyNum State.validCopy
  rw [h]

theorem met_storeset (s0 s a : State) (h l : List Byte) (b : State) (h0 : s0 = lampDram 0x54434C43 [] [(16, boardCopy)])
    (hs : s = withCrc s0 dramBase 9280) (ha : a = s.accepted LCR_CMD 1) (hh : h = a.bytes (dramBase + a.lcrSrc) 64)
    (hl : a.dramRead a.lcrSrc (setLen h) = (l, b)) :
    s.running = true ∧ s.busy LCR_CMD = false ∧ a.dramUp = true ∧ sizeOk (imgW h) (imgH h) = true ∧ b.setBad l = false ∧
      b.calRoom (recSet 0) l.length = true := by
  have e1 : leNat (s0.bytes dramBase 4) = 0x54434C43 ∧ leNat (s0.bytes (dramBase + 4) 2) = 1 ∧ leNat (s0.bytes (dramBase + 8) 4) = 0 ∧
      leNat (s0.bytes (dramBase + 0x0C) 2) = 32 ∧ leNat (s0.bytes (dramBase + 0x0E) 2) = 16 ∧
      ((List.range 3).all fun c => decide (leNat (s0.bytes (dramBase + (0x18 + 2 * c)) 2) ≤ 16384)) = true := by
    rw [h0]; decide +kernel
  have e2 : s.running = true ∧ s.busy LCR_CMD = false ∧ a.dramUp = true ∧ a.lcrSrc = 0 := by rw [ha, hs, h0]; decide +kernel
  have e3 : a.boards = [(0, boardCopy.data)] ∧ a.calRoom (recSet 0) 9280 = true := by rw [ha, hs, h0]; decide +kernel
  have ea : a = imageCmd s0 9280 1 := by rw [ha, hs, imageCmd]
  have n1 : ∀ m o k, o + k ≤ m → o + k ≤ 0x3C → numAt (a.bytes dramBase m) o k = leNat (s0.bytes (dramBase + o) k) :=
    fun m o k h1 h2 => by rw [ea]; exact numAt_image _ _ _ _ _ _ h1 (Or.inl h2)
  rw [e2.2.2.2, Nat.add_zero] at hh
  have w : imgW h = 32 := by rw [hh, imgW, n1 _ _ _ (by omega) (by omega)]; exact e1.2.2.2.1
  have v : imgH h = 16 := by rw [hh, imgH, n1 _ _ _ (by omega) (by omega)]; exact e1.2.2.2.2.1
  have z : setLen h = 9280 := by rw [setLen, w, v]
  rw [e2.2.2.2, z, State.dramRead, Nat.add_zero] at hl
  obtain ⟨rfl, rfl⟩ := Prod.mk.inj hl
  refine ⟨e2.1, e2.2.1, e2.2.2.1, by rw [w, v]; decide, ?_, ?_⟩
  · have hb : (a.countLines MEM_CH_RD 0 9280).boards = a.boards := by
      simp [State.boards, State.recData, State.copyIn, State.copyNum, State.validCopy]
    have hc : imgCrcOk (a.bytes dramBase 9280) = true := by
      rw [ea, bytes_imageCmd]; exact imgCrcOk_withCrc _ _ _ (by omega)
    have ht : trimsOk (a.bytes dramBase 9280) 0x18 = true := by
      have := e1.2.2.2.2.2
      simp only [trimsOk, List.all_eq_true, List.mem_range, decide_eq_true_eq] at this ⊢
      intro c hc
      rw [n1 _ _ _ (by omega) (by omega)]
      exact this c hc
    have w' : imgW (a.bytes dramBase 9280) = 32 := by rw [imgW, n1 _ _ _ (by omega) (by omega)]; exact e1.2.2.2.1
    have v' : imgH (a.bytes dramBase 9280) = 16 := by rw [imgH, n1 _ _ _ (by omega) (by omega)]; exact e1.2.2.2.2.1
    have t' : imgBtype (a.bytes dramBase 9280) = 0 := by rw [imgBtype, n1 _ _ _ (by omega) (by omega)]; exact e1.2.2.1
    have m' : numAt (a.bytes dramBase 9280) 0 4 = 0x54434C43 := by rw [n1 _ _ _ (by omega) (by omega)]; exact e1.1
    have f' : numAt (a.bytes dramBase 9280) 4 2 = 1 := by rw [n1 _ _ _ (by omega) (by omega)]; exact e1.2.1
    simp only [State.setBad, hb, hc, ht, w', v', t', m', f', e3.1, setLen, length_bytes]
    decide
  · rw [length_bytes]
    exact (congrFun (congrFun (calRoom_boot (State.countLines_boot a _ _ _)) _) _).trans e3.2

theorem test_met_Storeset : ∃ s h l b, let a := State.accepted s LCR_CMD 1
    s.running = true ∧ s.busy LCR_CMD = false ∧ a.dramUp = true ∧ h = a.bytes (dramBase + a.lcrSrc) 64 ∧
    sizeOk (imgW h) (imgH h) = true ∧ a.dramRead a.lcrSrc (setLen h) = (l, b) ∧ b.setBad l = false ∧
    b.calRoom (recSet 0) l.length = true :=
  have m := met_storeset _ _ _ _ _ _ rfl rfl rfl rfl rfl
  ⟨_, _, _, _, m.1, m.2.1, m.2.2.1, rfl, m.2.2.2.1, rfl, m.2.2.2.2⟩

/-- The map of 512 lamps that are not there: bit 31 of each entry. -/
def noLamps : List (Nat × Byte) := (List.range 512).map fun i => (dramBase + 0x43 + 4 * i, 0x80)

theorem mget_append {d : Byte} {l m : List (Nat × Byte)} {k : Nat} (h : (l.all fun p => decide (p.1 < k)) = true) :
    mget d (l ++ m) k = mget d m k := by
  induction l with
  | nil => rfl
  | cons p l ih =>
    simp only [List.all_cons, Bool.and_eq_true, decide_eq_true_eq] at h
    simp only [List.cons_append, mget, if_neg (Nat.ne_of_lt h.1), ih h.2]

theorem mget_every4 (d v : Byte) (b k : Nat) (n : Nat) : ∀ s, mget d ((List.range' s n).map fun i => (b + 4 * i, v)) k =
    if b + 4 * s ≤ k ∧ k < b + 4 * (s + n) ∧ (k - b) % 4 = 0 then v else d := by
  induction n with
  | zero => intro s; rw [if_neg (by omega)]; rfl
  | succ n ih =>
    intro s
    simp only [List.range'_succ, List.map_cons, mget, ih (s + 1)]
    by_cases h : b + 4 * s = k
    · rw [if_pos h, if_pos (by omega)]
    · rw [if_neg h]
      by_cases h2 : b + 4 * (s + 1) ≤ k ∧ k < b + 4 * (s + 1 + n) ∧ (k - b) % 4 = 0
      · rw [if_pos h2, if_pos (by omega)]
      · rw [if_neg h2, if_neg (by omega)]

theorem byte_noLamps (recs : List (Nat × FlashCopy)) (k : Nat) (h : dramBase + 0x40 ≤ k) (h2 : k < dramBase + 0x40 + 2048) :
    (lampDram 0x504D424C noLamps recs).byte k = if (k - dramBase) % 4 = 3 then 0x80 else 0 := by
  have e : ((lampDram 0x504D424C [] []).mem.all fun p => decide (p.1 < dramBase + 0x40)) = true := by decide +kernel
  have e' : ((lampDram 0x504D424C [] []).mem.all fun p => decide (p.1 < k)) = true := by
    simp only [List.all_eq_true, decide_eq_true_eq] at e ⊢
    exact fun p hp => Nat.lt_of_lt_of_le (e p hp) h
  have m : (lampDram 0x504D424C noLamps recs).mem = (lampDram 0x504D424C [] []).mem ++ noLamps := by
    simp [lampDram]
  have c : (lampDram 0x504D424C noLamps recs).memc.lost = [] := by
    simp [lampDram]
    decide
  have z : residueEnd ≤ dramBase := by decide
  have d : memDefault (lampDram 0x504D424C noLamps recs).memc k = 0 := by
    have : ¬ (residueBase ≤ k ∧ k < residueEnd) := by omega
    simp [memDefault, c, this]
  rw [State.byte, m, d, mget_append e', noLamps, List.range_eq_range', mget_every4]
  split <;> split <;> first | rfl | (exfalso; omega)

theorem met_storemap (recs : List (Nat × FlashCopy)) (s0 s a : State) (h l : List Byte) (b : State)
    (hr : recs = [(16, boardCopy)] ∨ recs = []) (h0 : s0 = lampDram 0x504D424C noLamps recs) (hs : s = withCrc s0 dramBase 2112) (ha : a = s.accepted LCR_CMD 3)
    (hh : h = a.bytes (dramBase + a.lcrSrc) 64) (hl : a.dramRead a.lcrSrc (boardLen h) = (l, b)) :
    sizeOk (imgW h) (imgH h) = true ∧ boardRefusal l = none ∧ l.length = 2112 ∧ imgBtype l = 0 ∧ b.boot = a.boot := by
  have e1 : leNat (s0.bytes dramBase 4) = 0x504D424C ∧ leNat (s0.bytes (dramBase + 4) 2) = 1 ∧ leNat (s0.bytes (dramBase + 8) 4) = 0 ∧
      leNat (s0.bytes (dramBase + 0x0C) 2) = 32 ∧ leNat (s0.bytes (dramBase + 0x0E) 2) = 16 ∧
      ((List.range 3).all fun c => decide (leNat (s0.bytes (dramBase + (0x22 + 2 * c)) 2) ≤ 16384)) = true := by
    rcases hr with rfl | rfl <;> rw [h0] <;> decide +kernel
  have e4 : ∀ i, i < 512 → leNat (s0.bytes (dramBase + (0x40 + 4 * i)) 4) = 0x80000000 := fun i hi => by
    simp only [h0, State.bytes, leNat]
    rw [byte_noLamps _ _ (by omega) (by omega), byte_noLamps _ _ (by omega) (by omega), byte_noLamps _ _ (by omega) (by omega),
      byte_noLamps _ _ (by omega) (by omega), if_neg (by omega), if_neg (by omega), if_neg (by omega), if_pos (by omega)]
    decide
  have e2 : a.lcrSrc = 0 := by rcases hr with rfl | rfl <;> rw [ha, hs, h0] <;> decide +kernel
  have ea : a = (withCrc s0 dramBase 2112).accepted LCR_CMD 3 := by rw [ha, hs]
  have n1 : ∀ m o k, o + k ≤ m → o + k ≤ 0x3C ∨ 0x40 ≤ o → numAt (a.bytes dramBase m) o k = leNat (s0.bytes (dramBase + o) k) :=
    fun m o k h1 h2 => by rw [ea]; exact numAt_image _ _ _ _ _ _ h1 h2
  rw [e2, Nat.add_zero] at hh
  have w : imgW h = 32 := by rw [hh, imgW, n1 _ _ _ (by omega) (by omega)]; exact e1.2.2.2.1
  have v : imgH h = 16 := by rw [hh, imgH, n1 _ _ _ (by omega) (by omega)]; exact e1.2.2.2.2.1
  have z : boardLen h = 2112 := by rw [boardLen, w, v]
  rw [e2, z, State.dramRead, Nat.add_zero] at hl
  obtain ⟨rfl, rfl⟩ := Prod.mk.inj hl
  have t' : imgBtype (a.bytes dramBase 2112) = 0 := by rw [imgBtype, n1 _ _ _ (by omega) (by omega)]; exact e1.2.2.1
  refine ⟨by rw [w, v]; decide, ?_, length_bytes _ _ _, t', State.countLines_boot a _ _ _⟩
  have hc : imgCrcOk (a.bytes dramBase 2112) = true := by
    have : a = imageCmd s0 2112 3 := ea
    rw [this, bytes_imageCmd]; exact imgCrcOk_withCrc _ _ _ (by omega)
  have ht : trimsOk (a.bytes dramBase 2112) 0x22 = true := by
    have := e1.2.2.2.2.2
    simp only [trimsOk, List.all_eq_true, List.mem_range, decide_eq_true_eq] at this ⊢
    intro c hc
    rw [n1 _ _ _ (by omega) (by omega)]
    exact this c hc
  have w' : imgW (a.bytes dramBase 2112) = 32 := by rw [imgW, n1 _ _ _ (by omega) (by omega)]; exact e1.2.2.2.1
  have v' : imgH (a.bytes dramBase 2112) = 16 := by rw [imgH, n1 _ _ _ (by omega) (by omega)]; exact e1.2.2.2.2.1
  have m' : numAt (a.bytes dramBase 2112) 0 4 = 0x504D424C := by rw [n1 _ _ _ (by omega) (by omega)]; exact e1.1
  have f' : numAt (a.bytes dramBase 2112) 4 2 = 1 := by rw [n1 _ _ _ (by omega) (by omega)]; exact e1.2.1
  have e5 : ∀ i, i < 512 → mapEntry (a.bytes dramBase 2112) i = 0x80000000 := fun i hi => by
    rw [mapEntry, n1 _ _ _ (by omega) (by omega)]
    exact e4 i hi
  have e6 : mapped (a.bytes dramBase 2112) = [] := by
    simp only [mapped, w', v', List.filterMap_eq_nil_iff, List.mem_range]
    intro i hi
    rw [e5 i hi]
    rfl
  have e7 : (List.range (32 * 16)).find? (fun i => mapEntry (a.bytes dramBase 2112) i / 2 ^ 16 % 2 ^ 15 ≠ 0) = none := by
    simp only [List.find?_eq_none, List.mem_range]
    intro i hi
    rw [e5 i hi]
    decide
  simp only [boardRefusal, hc, ht, w', v', m', f', boardLen, length_bytes, e6, e7]
  decide

theorem test_met_Storemap : ([[(16, boardCopy)], []].all fun recs =>
      let a := (withCrc (lampDram 0x504D424C noLamps recs) dramBase 2112).accepted LCR_CMD 3
      a.busy LCR_CMD == false && a.running && a.dramUp && a.calRoom (recBoard 0) 2112 &&
        (a.boards.find? (fun x => imgBtype x.2 = 0)).isSome == !recs.isEmpty &&
        (!recs.isEmpty || (List.range 2).find? (fun n => (a.recData (recBoard n)).isNone) = some 0)) = true := by decide +kernel

theorem test_met_Storemap_image (recs : List (Nat × FlashCopy)) (hr : recs = [(16, boardCopy)] ∨ recs = []) : ∃ s h l b, let a := State.accepted s LCR_CMD 3
    s = withCrc (lampDram 0x504D424C noLamps recs) dramBase 2112 ∧ h = a.bytes (dramBase + a.lcrSrc) 64 ∧
    sizeOk (imgW h) (imgH h) = true ∧ a.dramRead a.lcrSrc (boardLen h) = (l, b) ∧ boardRefusal l = none ∧ l.length = 2112 ∧
    imgBtype l = 0 ∧ b.boot = a.boot :=
  have m := met_storemap recs _ _ _ _ _ _ hr rfl rfl rfl rfl rfl
  ⟨_, _, _, _, rfl, rfl, m.1, rfl, m.2.1, m.2.2.1, m.2.2.2⟩

/-! ### Hypotheses that are met: redundant pairs -/

/-- A head of a pair in state `st`, wall time `w`, base frames numbered from the slot grid. -/
def pair (st : Nat) (l : List (Fld × Nat)) (w : Nat) (r : RdnSt → RdnSt) : State :=
  let s := readyOn ([(RDN_STAT_STATE, st), (RDN_CFG_PARTNER, 1)] ++ l)
  { s with tm := { s.tm with wall := w }, rdn := r s.rdn }

/-- A SWAP message of slot 0, part `op` (R416). -/
def swapMsg (op : Nat) : Frame := svc vSWAP (natLE 2 0 ++ natLE 1 op ++ [1, 0, 0, 0, 0])

theorem test_met_PairStates_beats :
    met (pair rdSTART [] (100 * wSec) id) (fun s => s.running = true ∧ s.head = true ∧ s.ready = true ∧ s.gridRuns = true ∧
      s.rdnState = rdSTART ∧ s.rdn.sentBf ≠ some s.frameNow ∧ s.rdn.heard = [] ∧ s.rdn.bf < s.frameNow ∧ s.get RDN_PATH_MISS < 2 ∧
      s.rdn.pairMis = false ∧ s.rdn.since + s.get RDN_CFG_WAIT * (if s.bit RDN_CFG_PRIMARY then 1 else 2) ≤ s.frameNow) ∧
    met (pair rdSOLO [] wSec fun r => { r with feeds := true }) (fun s => s.rdnState = rdSOLO ∧ s.rdn.feeds = true ∧
      s.rdn.epBf ≠ some s.frameNow ∧ s.changedItems ≠ []) ∧
    met (pair rdACTIVE [] wSec id) (fun s => s.rdnState = rdACTIVE) = true := by decide +kernel

theorem test_met_PairStates_messages :
    takes (arrived (pair rdACTIVE [] 0 id) 3 (mkFrame fHBT 0 1024 false false [] (zeros 32))) 3 (fun f => f.typ = fHBT)
      (fun i r => r.ready && r.gridRuns && i.f.src = r.partnerAddr && r.rdnState ≠ rdOFF) ∧
    takes (arrived (pair rdSTANDBY [] wSec id) 3 (swapMsg 1)) 3 (isSvc vSWAP) (fun i r => (r.swapPart 1).isSome ∧
      numAt (svcPay i.f) 2 1 = 1 ∧ numAt (svcPay i.f) 3 1 = 1 ∧ r.paceTick (nearSlot r.nextPost (numAt (svcPay i.f) 0 2)) ≤ r.tm.wall) ∧
    takes (arrived (pair rdSTANDBY [] 0 id) 3 (svc vSWAP (natLE 2 100 ++ [1, 1, 0, 0]))) 3 (isSvc vSWAP) (fun i r => (r.swapPart 1).isSome ∧
      r.tm.wall < r.paceTick (nearSlot r.nextPost (numAt (svcPay i.f) 0 2))) ∧
    ([2, 3].all fun op => takes (arrived (pair rdACTIVE [] 0 fun r => { r with swap := some ⟨100, true, 1, 0, rdACTIVE, false⟩ }) 3
      (svc vSWAP (natLE 2 100 ++ natLE 1 op ++ [1, 0, 0]))) 3 (isSvc vSWAP) (fun i r => numAt (svcPay i.f) 2 1 = op ∧
        some? r.rdn.swap (fun w => w.slot = nearSlot r.nextPost (numAt (svcPay i.f) 0 2) ∧ w.agreed = false ∧ r.tm.wall < r.paceTick w.slot))) ∧
    takes (arrived (pair rdSYNC [] 0 id) 3 (svc vEPOCH (zeros 8))) 3 (isSvc vEPOCH) (fun i r => r.ready ∧ r.compares ∧
      8 ≤ (svcPay i.f).length) ∧
    takes (arrived (pair rdSOLO [] 0 fun r => { r with feeds := true }) 3 (svc vEPREQ [0, 0, 1, 0])) 3 (isSvc vEPREQ) (fun i r =>
      r.rdn.feeds ∧ numAt (svcPay i.f) 2 1 % 2 = 1) = true := by decide +kernel

/-- The check record of an epoch without items. -/
def epochTail : List Byte := zeros 4 ++ [1] ++ zeros 19

theorem test_met_PairStates_commands :
    met (pair rdACTIVE [] 0 id) (fun s => s.busy RDN_CMD = false ∧ (s.accepted RDN_CMD 17).rdnState = rdACTIVE ∧
      (s.accepted RDN_CMD 17).rdn.vote = none ∧ (s.accepted RDN_CMD 17).bit CMP_PACE_STAT_CATCHUP = false ∧
      (s.accepted RDN_CMD 2).rdnState ≠ rdFAULTY ∧ (s.accepted RDN_CMD 3).rdn.feeds = false ∧ (s.accepted RDN_CMD 3).rdnState ≠ rdOFF ∧
      (s.accepted RDN_CMD 3).rdnState ≠ rdSTART ∧ (s.accepted RDN_CMD 3).rdnState ≠ rdFAULTY) ∧
    met (pair rdFAULTY [] 0 id) (fun s => (s.accepted RDN_CMD 2).rdnState = rdFAULTY ∧ (s.accepted RDN_CMD 17).rdnState ≠ rdACTIVE) ∧
    met (pair rdSOLO [] 0 fun r => { r with feeds := true }) (fun s => (s.accepted RDN_CMD 3).rdn.feeds = true) ∧
    parseItems (numAt epochTail 8 4) [] = some [] ∧ numAt epochTail 0 2 = 0 ∧ numAt epochTail 8 4 = 0 ∧ numAt epochTail 12 4 = 0 ∧
    crc32c [] = numAt epochTail 20 4 ∧ numAt epochTail 4 1 % 2 = 1 := by decide +kernel

/-- A vote on slice 2 of tile 1 at sequence 9. -/
def aVote (mine theirs : Option Bool) : Vote := ⟨1, 2, 9, mine, theirs, 0, 0, 0, none, some 77⟩

theorem test_met_DigestsAndVotes :
    takes (arrived (pair rdSYNC [] 0 id) 3 (mkFrame fDIG 0 1024 false false [] [])) 3 (fun f => f.typ = fDIG)
      (fun i r => r.compares ∧ i.f.src = r.partnerAddr) ∧
    takes (arrived (pair rdSOLO [] 0 fun r => { r with feeds := true }) 3 (svc vVOTEREQ (zeros 8))) 3 (isSvc vVOTEREQ) (fun _ r =>
      r.rdn.feeds ∧ r.rdn.vote = none ∧ r.rdnState ≠ rdOFF) ∧
    takes (arrived (pair rdSOLO [] 0 fun r => { r with vote := some (aVote none none) }) 3 (svc vVERDICT (natLE 2 1 ++ [2, 0] ++ natLE 2 9 ++ [1, 0])))
      3 (isSvc vVERDICT) (fun i r => some? r.rdn.vote (fun v => v.tile = numAt (svcPay i.f) 0 2 ∧ v.slice = numAt (svcPay i.f) 2 1 % 16 ∧
        v.seq = numAt (svcPay i.f) 4 2)) ∧
    met { pair rdSYNC [(⟨SKD_CH_ROLE, 6, 2⟩, rRINGEND), (SKD_RING_VALID 3, 1)] (launchTime GridSet.reset 9) id with
      cmp := { State.reset.cmp with slots := [slotRun 8] } } (fun s => s.ready = true ∧ s.compares = true ∧
      (s.cmp.slots.reverse.find? (fun r => decide (launchTime s.grid (r.j + 1) ≤ s.tm.wall) &&
        s.ringEnds.any (fun p => !r.digOut.contains p))).isSome = true) ∧
    met { pair rdSOLO [] (10 * wSec) fun r => { r with vote := some (aVote none none) } with
      cmp := { State.reset.cmp with slots := [{ slotRun 9 with digs := [(1, 2, 77)] }] } } (fun s => some? s.rdn.vote (fun v => v.dig = some 77 ∧
        v.mine = none ∧ v.start + 4 ≤ s.frameNow ∧ some? (s.runOf v.seq) (fun r => r.digs.find? (fun x => x.1 = v.tile && x.2.1 = v.slice) =
          some (1, 2, 77))) = true) ∧
    ([true, false].all fun m => met (pair rdACTIVE [] 0 fun r => { r with feeds := true, vote := some (aVote (some m) (some m)) }) (fun s =>
      some? s.rdn.vote (fun v => v.mine = some m ∧ v.theirs = some m) = true ∧ s.rdn.feeds = true)) = true := by decide +kernel

/-! ### Hypotheses that are met: starts, updates and power -/

/-- The reset state with its start-and-update part changed. -/
def booted (l : List (Fld × Nat)) (f : BootSt → BootSt) : State :=
  let s := on l
  { s with boot := f s.boot }

/-- The header of an image of two sections, types 1 and 3, that both roles may run (R459). -/
def imgHeader : List Byte :=
  let l := natLE 4 0x4D494D4B ++ natLE 2 1 ++ zeros 16 ++ [3, 2] ++ natLE 4 4096 ++ zeros 36 ++ natLE 2 1
  padTo 0x441 (padTo 0x80 l ++ natLE 2 3)

/-- Image slot 0 holds it, and the board's checks of it pass (log entry 49). -/
def withImage (b : BootSt) : BootSt := { b with img := [(0, imgHeader)], chk := [15, 15], keys := [1, 0, 0, 0] }

/-- A board description whose flash directory gives every area 64 KiB. -/
def areas : List Byte := zeros 32 ++ natLE 2 6 ++ natLE 2 48 ++ (List.range 6).flatMap fun _ => zeros 4 ++ natLE 4 65536

theorem test_met_Starts :
    met (on []) (fun s => s.pwr.supply = none ∧ ({ s with pins := { s.pins with porst := false } } : State).pins.porst = false ∧
      some? s.boot.lampAt (fun t => decide (t ≤ ({ s with now := 5000000 } : State).now)) = true ∧ s.phase ≠ .held) ∧
    met { on [] with pwr := ⟨none, none, 0, some 0⟩, pins := { State.reset.pins with porst := true } } (fun s => s.pwr.supply ≠ none ∧
      s.pins.porst = true) ∧
    met { booted [] withImage with phase := .rom } (fun s => s.phase = .rom ∧
      (let b : State := { s with phase := .firmware, boot := { s.boot with count := s.boot.count + 1 } }
       b.hashesOk b.boot.run 3 (· ≠ 1) && (b.showStart.startSettings none).isSome) = true) = true := by decide +kernel

/-- A BOOT_CMD word accepted. -/
def bcmd (s : State) (v : Nat) : State := s.accepted BOOT_CMD v

theorem test_met_BootCommands :
    met (booted [] id) (fun s => s.running = true ∧ s.busy BOOT_CMD = false ∧ (bcmd s 1).boot.dl = none ∧ (bcmd s 2).power = psHALT) ∧
    met (booted [] fun b => { b with dl := some ⟨1, 4, 1, 1, [0]⟩ }) (fun s => some? (bcmd s 1).boot.dl (fun d => d.complete) = true) ∧
    met (booted [(PWR_STAT_STATE, psSHOW)] fun b => { b with trial := true }) (fun s => (bcmd s 2).power ≠ psHALT ∧ (bcmd s 2).power ≠ psREADY ∧
      (bcmd s 3).boot.trial = true) ∧
    met (booted [] fun b => { b with recs := [(2 * recBSR, ⟨1, true, putAt (putAt (zeros 64) 9 [0xFF]) 0x0C [BitVec.ofNat 8 slGOOD, BitVec.ofNat 8 slGOOD]⟩)] })
      (fun s => (bcmd s 4).bsrCand = none ∧ (bcmd s 4).slotState (bcmd s 4).inactive = slGOOD) = true := by decide +kernel

/-- A settings record without entries and its CRC (R475). -/
def settings : List Byte :=
  let l := natLE 4 0x5453454B ++ natLE 2 0xFFFF ++ zeros 26
  putAt l 0x1C (natLE 4 (crc32c l))

/-- A head in READY with memory up, those areas, and bytes at the start of DRAM. -/
def stored (l : List Byte) : State :=
  let s := ((memUp psREADY).setAll [(⟨BOOT_ARG, 0, 32⟩, 0x1000000)]).putBytes dramBase l
  { s with boot := { s.boot with bd := some areas } }

theorem test_met_BootStores :
    met (stored settings) (fun s => (bcmd s 5).boot.trial = false ∧ (bcmd s 5).power ≠ psHALT ∧ (bcmd s 5).dramUp = true ∧
      (bcmd s 5).bootSrc = 0 ∧ (bcmd s 5).bytes dramBase 32 = settings ∧ numAt settings 0 4 = 0x5453454B ∧ settLen settings = 32 ∧
      32 ≤ (bcmd s 5).areaSize 2 / 2 ∧ settOk settings = true ∧ settVer settings = ((bcmd s 5).dramRead 0 32).2.imgSetver 0) ∧
    met (stored []) (fun s => (bcmd s 22).power ≠ psHALT ∧ (bcmd s 22).dramUp = true ∧ (bcmd s 7).dramUp = true) = true := by decide +kernel

theorem test_met_BootStores_image : met (stored image) (fun s => (bcmd s 8).dramUp = true ∧ (bcmd s 8).bootSrc = 0 ∧
    0xC0 + imgWord ((bcmd s 8).bytes dramBase 0xC0) 8 = 200 ∧ 200 ≤ (bcmd s 8).areaSize 5 / 2 ∧
    ((bcmd s 8).dramRead 0 200).1 = image ∧ (imgProg image).mon = false) = true := by decide +kernel

theorem test_met_Downloads :
    met (on []) (fun s => s.running = true ∧ s.busy BOOT_DLCMD = false ∧ (s.accepted BOOT_DLCMD 1).dlServed = true ∧
      (match (s.accepted BOOT_DLCMD 1).dlOpen 0 0 with | .ok _ => false | .error _ => true) = true ∧
      (match (s.accepted BOOT_DLCMD 1).dlOpen 0 4096 with | .ok _ => true | .error _ => false) = true) ∧
    met (booted [(⟨BOOT_PBUF 0, 0, 32⟩, 0x34333231)] fun b => { b with dl := some ⟨1, 4, 1, 1, []⟩ }) (fun s =>
      let a := s.accepted BOOT_DLCMD 2
      some? a.boot.dl (fun d => a.get BOOT_DLARG2_PIECE < d.n ∧ a.get BOOT_DLARG2_PIECE ∉ d.held ∧
        (a.pieceBuffer 16384).take (pieceLen d.len 0) = [0x31, 0x32, 0x33, 0x34] ∧
        crc32c [0x31, 0x32, 0x33, 0x34] ≠ (a.rd BOOT_DLARG3).toNat) ∧
      (let b := ((s.set ⟨BOOT_DLARG3, 0, 32⟩ (crc32c [0x31, 0x32, 0x33, 0x34])).accepted BOOT_DLCMD 2)
       crc32c [0x31, 0x32, 0x33, 0x34] = (b.rd BOOT_DLARG3).toNat)) = true := by decide +kernel

theorem test_met_Recovery :
    met { on [(GLB_STRAP_BOOTSEL, 2)] with phase := .recovery } (fun s => s.phase = .recovery ∧ s.get GLB_STRAP_BOOTSEL ≠ 3) ∧
    met { on [(GLB_STRAP_BOOTSEL, 3)] with phase := .recovery } (fun s => s.get GLB_STRAP_BOOTSEL = 3) ∧
    met { booted [] withImage with phase := .recovery } (fun s => s.verifyImage 0 true = 0) = true := by decide +kernel

theorem test_met_Power :
    met (on []) (fun s => s.running = true ∧ s.busy PWR_CMD = false ∧ (s.accepted PWR_CMD 7).powerRefusal 7 = some prRANGE ∧
      (s.accepted PWR_CMD psREADY).powerRefusal psREADY = none ∧ psREADY ≠ (s.accepted PWR_CMD psREADY).power) ∧
    met (on [(PWR_STAT_TRANS, 1), (PWR_STAT_TARGET, psREADY)]) (fun s => s.bit PWR_STAT_TRANS = true ∧ s.stepBlocked = false ∧
      (s.stepStat stBUSY).power < (s.stepStat stBUSY).get PWR_STAT_TARGET) ∧
    met (on [(PWR_STAT_TRANS, 1), (PWR_STAT_TARGET, psOFF)]) (fun s => s.stepBlocked = false ∧
      (s.stepStat stBUSY).get PWR_STAT_TARGET ≤ (s.stepStat stBUSY).power) ∧
    met (on [(PWR_STAT_TRANS, 1), (⟨BOOT_CMD, 28, 4⟩, stBUSY)]) (fun s => s.stepBlocked = true) ∧
    met { on [(PWR_VCFG_SLEW, 10)] with now := 5000000, pwr := ⟨none, some (750, 745, 0), 0, none⟩ } (fun s =>
      (some? s.pwr.vcmd fun v => v.1 ≠ v.2.1 ∧ v.2.2 * max 1 ((s.set PWR_VMEAS_MV 745).get PWR_VCFG_SLEW) + 5000000 ≤
        (s.set PWR_VMEAS_MV 745).now * max 1 ((s.set PWR_VMEAS_MV 745).get PWR_VCFG_SLEW)) ∧ s.thm.nextRound ≤ s.now ∧ s.pwr.vcmd ≠ none) ∧
    met (on []) (fun s => s.busy PWR_VCMD = false) = true := by decide +kernel

theorem test_met_Temperature :
    met (on []) (fun s => s.sensorValid 25 = true ∧ s.sampleDue 25 = true) ∧
    met { on [] with thm := ⟨[(0, [(1, 1920), (0, 1920)])], true, none, false, some 0, 0⟩, now := 10 ^ 9 } (fun s =>
      reached (s.sensorHist 0) 1920 = true ∧ s.bit THM_STAT_TRIPPED = false ∧ s.thm.warn = true ∧ s.thm.tripAt = some 0 ∧
      0 + 1000000000 ≤ s.now ∧ (s.readings.find? (fun x => decide (1920 ≤ x.2))).isSome = true) ∧
    met { on [(TMU_SRV_STAT_STATE, svLOCKED), (THM_STAT_STATE, thSTOPPING)] with thm := ⟨[], false, some 0, false, none, 0⟩, now := 10 ^ 9 }
      (fun s => s.thm.stopAt = some 0 ∧ s.inStop = true ∧ s.thm.zero = false ∧ 0 + 200000000 ≤ s.now ∧ s.gridRuns = true) = true := by
  decide +kernel

end Sys2Proof.Tests
end

section
/-! The command registers while a command is in progress (R11): each form of the model's commands answers BUSY, the power of
a register's block lets its command through, and so does every host command of the table (O5). -/

namespace Sys2Proof.Machine

variable {s : State}

/-! ### What a host command answers -/

/-- A host command that is let through, and whose meaning is a refusal with BUSY, changes nothing but the status. -/
theorem settled_busy_of_guard {g : Bool} {t : State} (hg : g = true) (ht : t = s.answer rBUSY) :
    settled (if g then t else s) = .next (s.answer rBUSY).settle := by
  rw [if_pos hg, ht, settled_next]

/-! ### Power in the role (R16) -/

/-- A register has power in a head, and in a tile outside the blocks, quads, channels, engines, contexts and crews that a
tile does not power. -/
theorem powered_iff {a : Nat} : s.unpowered a = false ↔ s.head = true ∨
    ¬(0x50000 ≤ a ∧ a < 0x60000) ∧ ¬(0x80000 ≤ a ∧ a < 0xC0000) ∧ ¬(0x101200 ≤ a ∧ a < 0x102000) ∧
    ¬(0x148000 ≤ a ∧ a < 0x180000) ∧ ¬(0x200400 ≤ a ∧ a < 0x300000) ∧ ¬(0x300000 ≤ a ∧ a < 0x330000) ∧
    ¬(0x331000 ≤ a ∧ a < 0x340000) ∧ ¬(0x400000 ≤ a ∧ a < 0x440000) := by
  cases hh : s.head <;>
    simp only [State.unpowered, hh, Bool.not_true, Bool.not_false, Bool.false_and, Bool.true_and,
      Bool.or_eq_false_iff, decide_eq_false_iff_not, and_assoc, Bool.false_eq_true, true_or, false_or]

/-- A register of the Ethernet, composition or redundancy block has power in a head alone. -/
theorem head_of_powered {a : Nat} (h : s.unpowered a = false)
    (ha : (0x80000 ≤ a ∧ a < 0xC0000) ∨ (0x300000 ≤ a ∧ a < 0x330000) ∨ (0x400000 ≤ a ∧ a < 0x440000)) :
    s.head = true := by
  rcases powered_iff.1 h with hhead | hout
  · exact hhead
  · omega

theorem head_of_powered_flow {f : Nat} (hf : f < 16) (h : s.unpowered (ETH_FLOW_CMD f) = false) : s.head = true :=
  head_of_powered h (by simp only [ETH_FLOW_CMD]; omega)

theorem head_of_powered_still {k : Nat} (hk : k < 64) (h : s.unpowered (ETH_STILL_FENCE k) = false) : s.head = true :=
  head_of_powered h (by simp only [ETH_STILL_FENCE]; omega)

theorem crewOn_iff {c : Nat} : s.crewOn c = true ↔ c < 8 ∧ (s.head = true ∨ c = 0) := by
  simp only [State.crewOn, Bool.and_eq_true, Bool.or_eq_true, decide_eq_true_eq]

/-- An engine whose page has power belongs to a crew that is on (R143). -/
theorem crewOn_of_powered_engine {e : Nat} (he : e < 64) (h : s.unpowered (ENG_CMD e) = false) :
    s.crewOn (e / 8) = true := by
  rw [crewOn_iff]
  refine ⟨by omega, (powered_iff.1 h).imp_right fun hout => ?_⟩
  simp only [ENG_CMD] at hout
  omega

/-- A crew whose LUTCMD has power is on (R143). -/
theorem crewOn_of_powered_crew {c : Nat} (hc : c < 8) (h : s.unpowered (CMP_CREW_LUTCMD c) = false) :
    s.crewOn c = true := by
  rw [crewOn_iff]
  refine ⟨hc, (powered_iff.1 h).imp_right fun hout => ?_⟩
  simp only [CMP_CREW_LUTCMD] at hout
  omega

/-! ### The commands of one block -/

theorem tmuCommand_busy {op : Nat} {ok : State → Bool} {f : State → State} (h : s.busy TMU_CMD = true) :
    s.tmuCommand op ok f = s.answer rBUSY := command_busy h

theorem flmCommand_busy {src : Src} {v : Nat} {ok : State → Bool} {f : State → State} (h : s.busy FLM_CMD = true) :
    s.flmCommand src v ok f = s.answer rBUSY := command_busy h

theorem lduCommand_busy {v : Nat} {f : State → State} (h : s.busy LDU_CMD = true) :
    s.lduCommand v f = s.answer rBUSY := command_busy h

theorem lcrCommand_busy {v : Nat} {f : State → State} (h : s.busy LCR_CMD = true) :
    s.lcrCommand v f = s.answer rBUSY := command_busy h

theorem plcCommand_busy {op e t : Nat} {f : State → State} (h : s.busy CMP_PLC_CMD = true) :
    s.plcCommand op e t f = s.answer rBUSY := command_busy h

theorem rdnCommand_busy {op d : Nat} {f : State → State} (h : s.busy RDN_CMD = true) :
    s.rdnCommand op d f = s.answer rBUSY := command_busy h

theorem bootCommand_busy {op : Nat} {b : Bool} {f : State → State} (h : s.busy BOOT_CMD = true) :
    s.bootCommand op b f = s.answer rBUSY := command_busy h

theorem voltageCommand_busy {mv : Nat} (h : s.busy PWR_VCMD = true) : s.voltageCommand mv = s.answer rBUSY := by
  rw [State.voltageCommand, command_busy h]

/-! ### The commands that look at more than STAT -/

/-- A lane command is busy before it looks at the other lanes of its port. -/
theorem laneCommand_busy {l op : Nat} {f : State → Nat × State} (hq : s.bit (LNK_QSTAT_UNPWR (l / 4)) = false)
    (h : s.busy (LNK_LCMD l) = true) : s.laneCommand l op f = s.answer rBUSY := by
  simp [State.laneCommand, hq, h]

theorem prbsOn_busy {l : Nat} (hq : s.bit (LNK_QSTAT_UNPWR (l / 4)) = false) (h : s.busy (LNK_LCMD l) = true) :
    s.prbsOn l = s.answer rBUSY := by
  rw [State.prbsOn, if_neg (by simp [hq]), command_busy h]

theorem prbsOff_busy {l : Nat} (hq : s.bit (LNK_QSTAT_UNPWR (l / 4)) = false) (h : s.busy (LNK_LCMD l) = true) :
    s.prbsOff l = s.answer rBUSY := by
  rw [State.prbsOff, if_neg (by simp [hq]), command_busy h]

theorem engCommand_busy {e op t : Nat} {f : State → State} (he : e < 64) (hp : s.unpowered (ENG_CMD e) = false)
    (h : s.busy (ENG_CMD e) = true) : s.engCommand e op t f = s.answer rBUSY := by
  rw [State.engCommand, if_neg (by simp [he, crewOn_of_powered_engine he hp]), command_busy h]

theorem lutCommand_busy {c op k u z : Nat} {f : State → Nat → Nat → Nat → State} (hc : c < 8)
    (hp : s.unpowered (CMP_CREW_LUTCMD c) = false) (h : s.busy (CMP_CREW_LUTCMD c) = true) :
    s.lutCommand c op k u z f = s.answer rBUSY := by
  rw [State.lutCommand, if_neg (by simp [crewOn_of_powered_crew hc hp]), command_busy h]

/-- CAL is refused with BUSY on either ground, a run in progress (R374) or a command in progress (R11). -/
theorem lcrCal_busy (h : s.busy LCR_CMD = true) : s.lcrCal = s.answer rBUSY := by
  rw [State.lcrCal, lcrCommand_busy h, ite_self]

/-! ### The host commands of the table -/

/-- Settles O5, by cases on the command: the hypotheses let it through its guard (firmware runs, the role has power, the
operands are in range), and what it does on a busy register is the lemma of its block (R11). -/
theorem busyCommandIsRefused : Obligations.BusyCommandIsRefused := by
  intro c a s hreg hwf hrun hpow hquad hbusy
  have both {p q : Bool} (hp : p = true) (hq : q = true) : (p && q) = true := Bool.and_eq_true_iff.2 ⟨hp, hq⟩
  cases c with
  | servoAcquire | servoSlew | servoStep | servoHold | servoResume =>
    cases hreg
    exact settled_busy_of_guard hrun (tmuCommand_busy hbusy)
  | ctxalloc _ | ctxfree _ | setdepth _ _ | flmPush _ | gopen _ _ | gclose _ | gskip _ =>
    cases hreg
    exact settled_busy_of_guard hrun (flmCommand_busy hbusy)
  | armgeom | armdrv | lduDisarm =>
    cases hreg
    exact settled_busy_of_guard hrun (lduCommand_busy hbusy)
  | lcrProbe | probestop | shorttest | clrflt =>
    cases hreg
    exact settled_busy_of_guard hrun (lcrCommand_busy hbusy)
  | bootActivate | bootRestart | bootConfirm | bootRevert | bootSave | bootStage _ | storebd | storecor =>
    cases hreg
    exact settled_busy_of_guard hrun (bootCommand_busy hbusy)
  | lqInsert _ | memFreqChange _ | thrSpawn | thrKill _ | thrSignal _ | thrSetprio _ _ | trcClear | skdEnum _ _
  | wcIssue | wcCancel | imgStart | imgStop | storemap | rescan _ | dlOpen | dlPiece | dlAbort | powerCommand _ =>
    cases hreg
    exact settled_busy_of_guard hrun (command_busy hbusy)
  | vcmd _ =>
    cases hreg
    exact settled_busy_of_guard hrun (voltageCommand_busy hbusy)
  | lqCancel _ _ | cvuEnable _ | cvuDisable _ | storeset _ | eraseset _ =>
    cases hreg
    exact settled_busy_of_guard (both hrun hwf) (command_busy hbusy)
  | plcVacate _ | plcRestore _ | plcReplace | plcReclaim _ | plcReturn _ =>
    cases hreg
    exact settled_busy_of_guard (both hrun (head_of_powered hpow (by decide))) (plcCommand_busy hbusy)
  | rdnDrill _ | rdnClear | rdnResync =>
    cases hreg
    exact settled_busy_of_guard (both hrun (head_of_powered hpow (by decide))) (rdnCommand_busy hbusy)
  | monStart | monStop | monArm | progLoad _ | progUnload _ | armSet _ | disarm =>
    cases hreg
    exact settled_busy_of_guard (both hrun (head_of_powered hpow (by decide))) (command_busy hbusy)
  | flowOpen _ | flowClose _ =>
    cases hreg
    have hhead := head_of_powered_flow (of_decide_eq_true hwf) hpow
    exact settled_busy_of_guard (both (both hrun hhead) hwf) (command_busy hbusy)
  | stillFence k _ _ =>
    cases hreg
    have hk : k < 64 := (of_decide_eq_true hwf).1
    have hhead := head_of_powered_still hk hpow
    exact settled_busy_of_guard (both (both hrun hhead) (decide_eq_true hk)) (command_busy hbusy)
  | laneRetrain l | laneCal l | laneIdle l | laneWake l =>
    cases hreg
    have hl : l < 32 := of_decide_eq_true hwf
    exact settled_busy_of_guard (both hrun hwf) (laneCommand_busy (hquad (l / 4) (by omega)) hbusy)
  | lanePrbsOn l =>
    cases hreg
    have hl : l < 32 := of_decide_eq_true hwf
    exact settled_busy_of_guard (both hrun hwf) (prbsOn_busy (hquad (l / 4) (by omega)) hbusy)
  | lanePrbsOff l =>
    cases hreg
    have hl : l < 32 := of_decide_eq_true hwf
    exact settled_busy_of_guard (both hrun hwf) (prbsOff_busy (hquad (l / 4) (by omega)) hbusy)
  | stopEngine _ | resumeEngine _ | stepEngine _ _ | clearSlot _ _ | engGate _ | engUngate _ =>
    cases hreg
    exact settled_busy_of_guard hrun (engCommand_busy (of_decide_eq_true hwf).1 hpow hbusy)
  | lutLoad c _ _ _ | lutMark c _ _ _ | lutUnload c _ _ =>
    cases hreg
    have hc : c < 8 := of_decide_eq_true (Bool.and_eq_true_iff.1 hwf).1
    exact settled_busy_of_guard hrun (lutCommand_busy hc hpow hbusy)
  | sinkCal =>
    cases hreg
    exact settled_busy_of_guard hrun (lcrCal_busy hbusy)
  | _ => cases hreg

end Sys2Proof.Machine
end

section
/-! What an operation leaves: the registers but for a list, the bytes of memory, everything but registers; and the state
that a command's operation finds (R10). -/

namespace Sys2Proof.Machine

variable {s t : State} {l : List Nat}

/-! ### Memory and registers left alone -/

theorem sameMemory_of_mem (hmem : t.mem = s.mem) (hmemc : t.memc = s.memc) : SameMemory s t := fun a => by
  rw [State.byte, State.byte, hmem, hmemc]

theorem SameMemory.settle (h : SameMemory s t) : SameMemory s t.settle := fun a => (byte_settle t a).trans (h a)

theorem SameRegisters.refl (s : State) (l : List Nat) : SameRegisters s s l := fun _ _ => rfl

theorem SameRegisters.wr (h : SameRegisters s t l) {a : Nat} (v : Word) (ha : a ∈ l) : SameRegisters s (t.wr a v) l :=
  fun b hb => (rd_wr_ne t v (ne_of_mem_of_not_mem ha hb).symm).trans (h b hb)

/-- `t` is `s` but for the registers listed. -/
def OnlyRegisters (s t : State) (l : List Nat) : Prop := SameRegisters s t l ∧ ∃ r, t = { s with regs := r }

theorem OnlyRegisters.refl (s : State) (l : List Nat) : OnlyRegisters s s l := ⟨.refl s l, s.regs, rfl⟩

theorem OnlyRegisters.wr (h : OnlyRegisters s t l) {a : Nat} (v : Word) (ha : a ∈ l) : OnlyRegisters s (t.wr a v) l := by
  obtain ⟨hregs, r, rfl⟩ := h
  exact ⟨hregs.wr v ha, _, rfl⟩

theorem OnlyRegisters.setAll {m : List (Fld × Nat)} (h : OnlyRegisters s t l) (hm : ∀ x ∈ m, x.1.reg ∈ l) :
    OnlyRegisters s (t.setAll m) l := by
  induction m generalizing t with
  | nil => exact h
  | cons x m ih =>
    obtain ⟨hx, hm⟩ := List.forall_mem_cons.1 hm
    exact ih (h.wr _ hx) hm

/-- What a command that writes the registers listed and nothing else leaves at its end. -/
theorem OnlyRegisters.settle (h : OnlyRegisters s t l) : SameRegisters s t.settle l ∧ SameMemory s t.settle ∧
    t.settle = { s with regs := t.settle.regs, mem := t.settle.mem } := by
  obtain ⟨hregs, r, rfl⟩ := h
  exact ⟨hregs, (sameMemory_of_mem rfl rfl).settle, rfl⟩

/-! ### A field of one register among the others -/

theorem get_wr_ne (s : State) {a : Nat} {f : Fld} (v : Word) (h : f.reg ≠ a) : (s.wr a v).get f = s.get f := by
  rw [State.get, State.get, rd_wr_ne s v h]

/-! ### The state that a command's operation finds (R10) -/

theorem rd_accepted_ne (s : State) {a b : Nat} (v : Nat) (h : b ≠ a) : (s.accepted a v).rd b = s.rd b := rd_wr_ne s _ h

theorem get_accepted_ne (s : State) {a : Nat} {f : Fld} (v : Nat) (h : f.reg ≠ a) : (s.accepted a v).get f = s.get f :=
  get_wr_ne s _ h

theorem bit_accepted_ne (s : State) {a : Nat} {f : Fld} (v : Nat) (h : f.reg ≠ a) : (s.accepted a v).bit f = s.bit f := by
  rw [State.bit, State.bit, get_accepted_ne s v h]

/-- A host command while firmware runs ends in what it means. -/
theorem settled_running (hrun : s.running = true) : settled (if s.running then t else s) = .next t.settle := by
  rw [if_pos hrun, settled_next]

theorem command_accepted {a v : Nat} {op : State → State} (h : s.busy a = false) :
    s.command a v op = op (s.accepted a v) := command_free h

end Sys2Proof.Machine
end

section
/-! The reads that latch and the PPS_IN edge (R28, R234, R236, R542): what each writes, and O10. -/

namespace Sys2Proof.Machine

variable {s : State}

/-! ### Wall time in its registers (R27, R28) -/

theorem toNat_wallNs (w : Nat) : (BitVec.ofNat 32 (wallNs w)).toNat = wallNs w := by
  have hlt : wallNs w < 10 ^ 9 := Nat.mod_lt _ (by decide)
  rw [BitVec.toNat_ofNat, Nat.mod_eq_of_lt (Nat.lt_trans hlt (by decide))]

/-- The seconds have 48 bits, so their upper word is the 16 bits that TMU_TIME_SH holds. -/
theorem toNat_wallSec_high (w : Nat) : (BitVec.ofNat 32 (wallSec w / 2 ^ 32 % 2 ^ 16)).toNat = wallSec w / 2 ^ 32 := by
  have hlt : wallSec w < 2 ^ 48 := Nat.mod_lt _ (by decide)
  rw [BitVec.toNat_ofNat]
  omega

theorem rd_readTime (s : State) : s.readTime.rd TMU_TIME_NS = BitVec.ofNat 32 (wallNs s.tm.wall) ∧
    s.readTime.rd TMU_TIME_SL = BitVec.ofNat 32 (wallSec s.tm.wall) ∧
    s.readTime.rd TMU_TIME_SH = BitVec.ofNat 32 (wallSec s.tm.wall / 2 ^ 32 % 2 ^ 16) := by
  refine ⟨?_, ?_, ?_⟩ <;> simp (disch := decide) only [State.readTime, rd_wr_ne, rd_wr_same]

theorem onlyRegisters_readTime (s : State) : OnlyRegisters s s.readTime [TMU_TIME_NS, TMU_TIME_SL, TMU_TIME_SH] :=
  (((OnlyRegisters.refl s _).wr _ (by decide)).wr _ (by decide)).wr _ (by decide)

theorem onlyRegisters_readPpsIn (s : State) : OnlyRegisters s s.readPpsIn [TMU_PPSIN_SL] :=
  (OnlyRegisters.refl s _).wr _ (by decide)

/-! ### The trace entry selected (R234) -/

/-- The trace buffer and the selection are no TRC_RD register: each word is that of the entry selected before the read. -/
theorem latchTrace_eq (s : State) {word : Nat → Word}
    (hword : ∀ k, word k = mget 0 s.eng.trc (4 * s.get TRC_RSEL_ENTRY + k)) : s.latchTrace =
      (((s.wr (TRC_RD 0) (word 0)).wr (TRC_RD 1) (word 1)).wr (TRC_RD 2) (word 2)).wr (TRC_RD 3) (word 3) := by
  simp only [hword]
  rfl

theorem onlyRegisters_latchTrace (s : State) : OnlyRegisters s s.latchTrace [TRC_RD 0, TRC_RD 1, TRC_RD 2, TRC_RD 3] := by
  rw [latchTrace_eq s fun _ => rfl]
  exact ((((OnlyRegisters.refl s _).wr _ (by decide)).wr _ (by decide)).wr _ (by decide)).wr _ (by decide)

theorem rd_latchTrace (s : State) {k : Nat} (hk : k < 4) :
    s.latchTrace.rd (TRC_RD k) = mget 0 s.eng.trc (4 * s.get TRC_RSEL_ENTRY + k) := by
  rw [latchTrace_eq s fun _ => rfl]
  match k, hk with
  | 0, _ | 1, _ | 2, _ | 3, _ => simp (disch := decide) only [rd_wr_ne, rd_wr_same]

/-! ### The first visible entry of a flume (R236) -/

/-- The words of an entry, and the tag of a visible one, in their registers. -/
def State.showVisible (s : State) (e : FEntry) : State :=
  (((((s.wr (FLM_EDATA 0) e.w0).wr (FLM_EDATA 1) e.w1).wr (FLM_EDATA 2) e.w2).wr (FLM_EDATA 3) e.w3).wr FLM_ETAG 0).setAll
    [(FLM_ETAG_GROUP, 0), (FLM_ETAG_HELD, 0), (FLM_ETAG_VALID, 1), (FLM_ETAG_SEQ, 0)]

theorem latchEntry_of_visible {e : FEntry} {l : List FEntry} (hvis : (s.flume (s.get FLM_FSEL_FLUME)).vis = e :: l)
    (hpos : s.get FLM_ESEL_POS = 0) : s.latchEntry = s.showVisible e := by
  simp [State.latchEntry, State.showVisible, hvis, hpos]

theorem onlyRegisters_showVisible (s : State) (e : FEntry) :
    OnlyRegisters s (s.showVisible e) [FLM_EDATA 0, FLM_EDATA 1, FLM_EDATA 2, FLM_EDATA 3, FLM_ETAG] :=
  ((((((OnlyRegisters.refl s _).wr _ (by decide)).wr _ (by decide)).wr _ (by decide)).wr _ (by decide)).wr _
    (by decide)).setAll (by decide)

theorem rd_showVisible (s : State) (e : FEntry) : (s.showVisible e).rd (FLM_EDATA 0) = e.w0 ∧
    (s.showVisible e).rd (FLM_EDATA 1) = e.w1 ∧ (s.showVisible e).rd (FLM_EDATA 2) = e.w2 ∧
    (s.showVisible e).rd (FLM_EDATA 3) = e.w3 := by
  refine ⟨?_, ?_, ?_, ?_⟩ <;>
    simp (disch := decide) only [State.showVisible, State.setAll, rd_set_ne, rd_wr_ne, rd_wr_same]

theorem tag_showVisible (s : State) (e : FEntry) :
    (s.showVisible e).get FLM_ETAG_VALID = 1 ∧ (s.showVisible e).get FLM_ETAG_HELD = 0 := by
  constructor <;> simp (disch := decide) only [State.showVisible, State.setAll, get_set_disjoint, get_set_same] <;> rfl

/-! ### The PPS_IN edge (R542) -/

theorem ppsEdge_settle (s : State) : (s.ppsEdge.settle.rd TMU_PPSIN_NS).toNat = wallNs s.tm.wall ∧
    SameRegisters s s.ppsEdge.settle [TMU_PPSIN_NS] ∧ SameMemory s s.ppsEdge.settle ∧
    s.ppsEdge.settle = { s with
      regs := s.ppsEdge.settle.regs, mem := s.ppsEdge.settle.mem
      tm := { s.tm with ppsLast := s.now + 1, ppsSec := wallSec s.tm.wall } } := by
  refine ⟨?_, (SameRegisters.refl s _).wr _ (by decide), (sameMemory_of_mem rfl rfl).settle, rfl⟩
  exact (congrArg BitVec.toNat (rd_wr_same s _ _)).trans (toNat_wallNs _)

/-- An edge is taken at the first, and from 1 us after the last one taken; any other changes nothing. -/
theorem exec_ppsInEdge (hrun : s.running = true) : exec .ppsInEdge s =
    .next (if s.tm.ppsLast = 0 ∨ s.tm.ppsLast + 999 ≤ s.now then s.ppsEdge else s).settle := by
  change settled _ = _
  rw [settled_next]
  simp only [hrun, Bool.true_and, Bool.or_eq_true, decide_eq_true_eq]

/-! ### O10 -/

/-- Settles O10, clause by clause: each read writes the registers listed and nothing else, and what they then hold is the
instant, the entry or the edge that the read takes. -/
theorem latchingReadsTakeOneInstant : Obligations.LatchingReadsTakeOneInstant := by
  intro s hrun
  refine ⟨?time, ?ppsin, ?trace, ?entry, ?edge, ?early⟩
  case time =>
    obtain ⟨hns, hsl, hsh⟩ := rd_readTime s
    refine ⟨s.readTime.settle, settled_running hrun, ?_, ?_, ?_, (onlyRegisters_readTime s).settle⟩
    · rw [rd_settle, hns, toNat_wallNs]
    · rw [rd_settle, hsl, BitVec.toNat_ofNat]
    · rw [rd_settle, hsh, toNat_wallSec_high]
  case ppsin =>
    refine ⟨s.readPpsIn.settle, settled_running hrun, ?_, (onlyRegisters_readPpsIn s).settle⟩
    rw [rd_settle, State.readPpsIn, rd_wr_same, BitVec.toNat_ofNat]
  case trace =>
    exact ⟨s.latchTrace.settle, settled_running hrun, fun k hk => rd_latchTrace s hk, (onlyRegisters_latchTrace s).settle⟩
  case entry =>
    intro e l hvis hpos
    refine ⟨(s.showVisible e).settle, ?_, ?_⟩
    · rw [← latchEntry_of_visible hvis hpos]
      exact settled_running hrun
    · simp only [rd_settle, get_settle, rd_showVisible, tag_showVisible, true_and]
      exact (onlyRegisters_showVisible s e).settle
  case edge =>
    intro htaken
    obtain ⟨hns, hregs, hmem, hrest⟩ := ppsEdge_settle s
    exact ⟨s.ppsEdge.settle, by rw [exec_ppsInEdge hrun, if_pos htaken], hns, rfl, hregs, hmem, hrest⟩
  case early =>
    rintro ⟨hlast, hsoon⟩
    rw [exec_ppsInEdge hrun, if_neg (not_or.2 ⟨hlast, Nat.not_le.2 hsoon⟩)]

end Sys2Proof.Machine
end

section
/-! The servo's state through its operations (R34-R36, R440-R442): what a notification, a held frequency or a slot grid
that starts or stops leaves alone, the state entered, and O11. -/

namespace Sys2Proof.Machine

variable {s t u : State}

/-! ### Updates beside the servo's state -/

/-- From `s` to `t` the servo's state, the bytes of memory and the answer to the host stand. -/
structure BesideServo (s t : State) : Prop where
  servo : t.servo = s.servo
  mem : t.mem = s.mem
  memc : t.memc = s.memc
  resp : t.resp = s.resp

theorem BesideServo.refl (s : State) : BesideServo s s := ⟨rfl, rfl, rfl, rfl⟩

theorem BesideServo.trans (h : BesideServo s t) (h' : BesideServo t u) : BesideServo s u :=
  ⟨h'.servo.trans h.servo, h'.mem.trans h.mem, h'.memc.trans h.memc, h'.resp.trans h.resp⟩

/-- An update made on a condition. -/
theorem BesideServo.ite {c : Prop} [Decidable c] (ht : BesideServo s t) (hu : BesideServo s u) :
    BesideServo s (if c then t else u) := by
  split
  · exact ht
  · exact hu

/-- Registers other than TMU_SRV_STAT do not hold the servo's state. -/
theorem besideServo_wr (s : State) {a : Nat} (v : Word) (h : TMU_SRV_STAT ≠ a) : BesideServo s (s.wr a v) :=
  ⟨get_wr_ne s v h, rfl, rfl, rfl⟩

theorem besideServo_set (s : State) {f : Fld} (n : Nat) (h : TMU_SRV_STAT ≠ f.reg) : BesideServo s (s.set f n) :=
  besideServo_wr s _ h

/-- The flags of TMU_SRV_STAT lie above its STATE. -/
theorem besideServo_setFlag (s : State) {f : Fld} (n : Nat) (hr : TMU_SRV_STAT = f.reg) (hf : f.lo + f.w ≤ 32)
    (hlo : 3 ≤ f.lo) : BesideServo s (s.set f n) :=
  ⟨get_set_disjoint s f TMU_SRV_STAT_STATE n hr hf (by decide) (.inl hlo), rfl, rfl, rfl⟩

theorem besideServo_tmSet (s : State) (f : TimeSt → TimeSt) : BesideServo s (s.tmSet f) := ⟨rfl, rfl, rfl, rfl⟩

theorem besideServo_bump (s : State) {a : Nat} (h : TMU_SRV_STAT ≠ a) (h4 : TMU_SRV_STAT ≠ a + 4) :
    BesideServo s (s.bump a) :=
  .ite ((besideServo_wr s _ h).trans (besideServo_wr _ _ h4)) ((besideServo_wr s _ h).trans (besideServo_wr _ _ h4))

/-! ### Notifications (R440-R442) -/

/-- The head's log lies in the global block. -/
theorem besideServo_logRecord (s : State) (r : NRec) : BesideServo s (s.logRecord r) := by
  have hidx : s.get GLB_NLOGIDX_IDX < 2 ^ 8 := getBits_lt _ _ _
  have hlog : ∀ k < 4, TMU_SRV_STAT ≠ GLB_NLOG (4 * s.get GLB_NLOGIDX_IDX + k) := by
    intro k hk
    simp only [TMU_SRV_STAT, GLB_NLOG]
    omega
  have hrecord := (((besideServo_wr s r.w0 (hlog 0 (by decide))).trans (besideServo_wr _ r.w1 (hlog 1 (by decide)))).trans
    (besideServo_wr _ r.w2 (hlog 2 (by decide)))).trans (besideServo_wr _ r.w3 (hlog 3 (by decide)))
  have hnext := hrecord.trans (besideServo_set _ (f := GLB_NLOGIDX_IDX) ((s.get GLB_NLOGIDX_IDX + 1) % 256) (by decide))
  exact .ite (hnext.trans (besideServo_set _ (f := GLB_NLOGIDX_WRAP) 1 (by decide))) hnext

theorem besideServo_queueRecord (s : State) (d : Nat) (r : NRec) : BesideServo s (s.queueRecord d r) := by
  have hdrop (x : NoteSt) : BesideServo s (State.bump { s with note := x } GLB_NDROP) :=
    .trans (t := { s with note := x }) ⟨rfl, rfl, rfl, rfl⟩ (besideServo_bump _ (by decide) (by decide))
  exact .ite (.refl s) (.ite (.ite ⟨rfl, rfl, rfl, rfl⟩ (hdrop _)) (.ite ⟨rfl, rfl, rfl, rfl⟩ (hdrop _)))

theorem besideServo_notify (s : State) (code arg : Nat) : BesideServo s (s.notify code arg) :=
  .ite (((besideServo_logRecord s _).trans (besideServo_queueRecord _ 0 _)).trans (besideServo_queueRecord _ 1 _))
    ⟨rfl, rfl, rfl, rfl⟩

/-- An operation on the servo leaves the state it enters; its notification is beside it (R441). -/
theorem besideServo_servoOp (s : State) (f : State → State) : BesideServo (f s) (s.servoOp f) :=
  .ite (besideServo_notify _ _ _) (.refl _)

/-! ### Entering a state (R35, R36) -/

theorem besideServo_stepDrop (s : State) : BesideServo s s.stepDrop :=
  (besideServo_tmSet s _).trans (besideServo_setFlag _ _ rfl (by decide) (by decide))

theorem besideServo_holdFreq (s : State) : BesideServo s s.holdFreq :=
  (besideServo_tmSet s _).trans (besideServo_wr _ _ (by decide))

theorem besideServo_setGrid (s : State) (g : GridSet) : BesideServo s (s.setGrid g) :=
  (((besideServo_set s _ (by decide)).trans (besideServo_set _ _ (by decide))).trans
    (besideServo_set _ _ (by decide))).trans (besideServo_set _ _ (by decide))

theorem besideServo_paceFrom (s : State) (w : Nat) : BesideServo s (s.paceFrom w) :=
  .ite ⟨rfl, rfl, rfl, rfl⟩ (.refl s)

theorem besideServo_gridStart (s : State) : BesideServo s s.gridStart := by
  have hgrid : BesideServo s (if !s.head then s else if s.grid.ok then s.tmSet fun t => { t with goodGrid := s.grid }
      else (s.setGrid s.tm.goodGrid).set TMU_SRV_STAT_GRIDBAD 1) :=
    .ite (.refl s) (.ite (besideServo_tmSet s _)
      ((besideServo_setGrid s _).trans (besideServo_setFlag _ _ rfl (by decide) (by decide))))
  exact (hgrid.trans (besideServo_tmSet _ _)).trans (besideServo_paceFrom _ _)

theorem besideServo_gridStop (s : State) : BesideServo s s.gridStop :=
  .trans (t := State.gridDrop { s with
      cmp := { s.cmp with next := none }, ldu := { s.ldu with cur := none, flips := [], on := [] } })
    ⟨rfl, rfl, rfl, rfl⟩ (besideServo_set _ _ (by decide))

/-- All that goes with a change of state is beside the state set. -/
theorem besideServo_enter (s : State) (st : Nat) : BesideServo (s.set TMU_SRV_STAT_STATE st) (s.enter st) := by
  have hslew (x : State) : BesideServo x (x.set TMU_SRV_STAT_SLEWING 0).stepDrop :=
    (besideServo_setFlag x _ rfl (by decide) (by decide)).trans (besideServo_stepDrop _)
  have hgrid (x : State) : BesideServo x (if !s.gridRuns && x.gridRuns then x.gridStart
      else if s.gridRuns && !x.gridRuns then x.gridStop else x) :=
    .ite (besideServo_gridStart x) (.ite (besideServo_gridStop x) (.refl x))
  exact (((BesideServo.ite (hslew _) (.refl _)).trans (.ite (besideServo_tmSet _ _) (.refl _))).trans
    (.ite (besideServo_holdFreq _) (.refl _))).trans (hgrid _)

theorem servo_setState (s : State) {st : Nat} (h : st < 8) : (s.set TMU_SRV_STAT_STATE st).servo = st :=
  (get_set_same s _ st (by decide)).trans (Nat.mod_eq_of_lt h)

/-- Whatever stands beside the servo's state before it is set does so after. -/
theorem BesideServo.setState (h : BesideServo s t) {st : Nat} (hst : st < 8) :
    BesideServo (s.set TMU_SRV_STAT_STATE st) (t.set TMU_SRV_STAT_STATE st) :=
  ⟨(servo_setState t hst).trans (servo_setState s hst).symm, h.mem, h.memc, h.resp⟩

/-! ### TMU_CMD -/

theorem tmuCommand_accepted {op : Nat} {ok : State → Bool} {f : State → State} (h : s.busy TMU_CMD = false) :
    s.tmuCommand op ok f = if ok (s.accepted TMU_CMD op) then ((s.accepted TMU_CMD op).servoOp f).setStat TMU_CMD stDONE
      else (s.accepted TMU_CMD op).setStat TMU_CMD stREFUSED := command_accepted h

/-- A command register does not hold the power state. -/
theorem power_accepted_tmu (s : State) (v : Nat) : (s.accepted TMU_CMD v).power = s.power :=
  get_accepted_ne s v (by decide)

/-- What ACQUIRE does to the servo (R35, R37). -/
def State.toAcquire (s : State) : State :=
  ((s.setAll [(TMU_SRV_STAT_HELD, 0), (TMU_SRV_STAT_SLEWING, 0)]).stepDrop.tmSet fun k =>
    { k with acqFirst := true, lockCnt := 0, slewPeer := false }).enter svACQUIRE

theorem besideServo_toAcquire (s : State) : BesideServo (s.set TMU_SRV_STAT_STATE svACQUIRE) s.toAcquire := by
  have hflags := ((besideServo_setFlag s (f := TMU_SRV_STAT_HELD) 0 rfl (by decide) (by decide)).trans
    (besideServo_setFlag _ (f := TMU_SRV_STAT_SLEWING) 0 rfl (by decide) (by decide))).trans (besideServo_stepDrop _)
  exact ((hflags.trans (besideServo_tmSet _ _)).setState (by decide)).trans (besideServo_enter _ _)

theorem tmuAcquire_accepted (hfree : s.busy TMU_CMD = false) : s.tmuAcquire =
    if s.power ≠ psSHOW then ((s.accepted TMU_CMD 1).servoOp State.toAcquire).setStat TMU_CMD stDONE
    else (s.accepted TMU_CMD 1).setStat TMU_CMD stREFUSED := by
  rw [State.tmuAcquire, tmuCommand_accepted hfree, power_accepted_tmu]
  simp only [decide_eq_true_eq]
  rfl

/-- Settles O11: an accepted ACQUIRE enters the state, and the notification and the slot grid that go with it are beside the
servo's state, memory and the answer. -/
theorem acquireReturnsTheServoUnlessShow : Obligations.AcquireReturnsTheServoUnlessShow := by
  intro s hrun hfree
  have hexec : exec .servoAcquire s = .next s.tmuAcquire.settle := settled_running hrun
  rw [hexec, tmuAcquire_accepted hfree]
  refine ⟨fun hpower t ht => ?accepted, fun hpower => ?refused⟩
  case accepted =>
    have hop : BesideServo ((s.accepted TMU_CMD 1).set TMU_SRV_STAT_STATE svACQUIRE) t := by
      rw [ht]
      exact ((besideServo_toAcquire _).trans (besideServo_servoOp _ State.toAcquire)).trans (besideServo_wr _ _ (by decide))
    have hservo : t.servo = svACQUIRE := hop.servo.trans (servo_setState _ (by decide))
    have hstat : t.stat TMU_CMD = stDONE := ht ▸ stat_setStat _ TMU_CMD stDONE
    refine ⟨?_, hservo, hstat, hop.resp, sameMemory_of_mem hop.mem hop.memc⟩
    rw [if_pos hpower, ht]
    rfl
  case refused =>
    rw [if_neg fun hne => hne hpower]

end Sys2Proof.Machine
end

section
/-! The launch queues (R52, R54, R56): the free slot of a queue, an insertion in its cases, CANCEL, and O15. -/

namespace Sys2Proof.Machine

variable {s : State}

/-! ### The free slot of a queue (R56) -/

theorem lqFree_eq_none (s : State) (q : Nat) :
    s.lqFree q = none ↔ ∀ n, n < 256 → s.lqPending.contains (q * 256 + n) = true := by
  simp only [State.lqFree, List.find?_map, Option.map_eq_none_iff, List.find?_range_eq_none, Function.comp,
    Bool.not_not]

theorem lqFree_eq_some (s : State) (q k : Nat) : s.lqFree q = some k ↔ ∃ n, n < 256 ∧ k = q * 256 + n ∧
    s.lqPending.contains k = false ∧ ∀ m, m < n → s.lqPending.contains (q * 256 + m) = true := by
  simp only [State.lqFree, List.find?_map, Option.map_eq_some_iff, List.find?_range_eq_some, Function.comp,
    Bool.not_not, Bool.not_eq_true', List.mem_range]
  constructor
  · rintro ⟨n, ⟨hfree, hn, hlow⟩, rfl⟩
    exact ⟨n, hn, rfl, hfree, hlow⟩
  · rintro ⟨n, hn, rfl, hfree, hlow⟩
    exact ⟨n, ⟨hfree, hn, hlow⟩, rfl⟩

/-! ### An insertion as its command finds the queues (R52)

The command word stands in TMU_LQ_IN3, which none of what an insertion looks at reads. -/

theorem lqFree_accepted (s : State) (a v q : Nat) : (s.accepted a v).lqFree q = s.lqFree q := rfl

theorem lqPending_accepted (s : State) (a v : Nat) : (s.accepted a v).lqPending = s.lqPending := rfl

theorem cyc_accepted_in3 (s : State) (v : Nat) : (s.accepted TMU_LQ_IN3 v).grid.cyc = s.grid.cyc :=
  get_accepted_ne s v (by decide)

theorem staged_accepted_in3 (s : State) (v i : Nat) :
    (s.accepted TMU_LQ_IN3 v).bit (TMU_GSTG_W0_VALID i) = s.bit (TMU_GSTG_W0_VALID i) :=
  bit_accepted_ne s v (by simp only [TMU_GSTG_W0, TMU_LQ_IN3]; omega)

theorem lqRefused_accepted_in3 (s : State) (v w0 arg a : Nat) :
    (s.accepted TMU_LQ_IN3 v).lqRefused w0 arg a = s.lqRefused w0 arg a := by
  rw [State.lqRefused, State.lqRefused, cyc_accepted_in3, staged_accepted_in3]

/-- A taken insertion works on TMU_LQ_IN0-IN2 as they stand and on the word written; it is DONE when it has an entry. -/
theorem lqInsert_accepted {w3 : Word} {k : Option Nat} {t : State} (hfree : s.busy TMU_LQ_IN3 = false)
    (hins : (s.accepted TMU_LQ_IN3 w3.toNat).lqInsertWords (s.rd TMU_LQ_IN0).toNat (s.rd TMU_LQ_IN1).toNat
      (s.rd TMU_LQ_IN2).toNat w3.toNat = (k, t)) :
    s.lqInsert w3 = t.setStat TMU_LQ_IN3 (if k.isSome then stDONE else stREFUSED) := by
  rw [State.lqInsert, command_accepted hfree, rd_accepted_ne s _ (by decide), rd_accepted_ne s _ (by decide),
    rd_accepted_ne s _ (by decide), hins]
  cases k <;> rfl

/-! ### The cases of an insertion (R52, R54, R56) -/

section Insertion

variable {w0 w1 arg w3 : Nat}

theorem lqInsertWords_refused (h : s.lqRefused w0 arg (lqAction w3) = true) :
    s.lqInsertWords w0 w1 arg w3 = (none, s) := by
  simp only [State.lqInsertWords, h, if_true]

theorem lqInsertWords_full (h : s.lqRefused w0 arg (lqAction w3) = false)
    (hfull : s.lqFree ((lqQueue (lqAction w3)).getD 0) = none) :
    s.lqInsertWords w0 w1 arg w3 = (none, s.bump TMU_LQFULL) := by
  simp only [State.lqInsertWords, h, hfull, Bool.false_eq_true, if_false]

theorem lqInsertWords_stored {k : Nat} {r : State} (h : s.lqRefused w0 arg (lqAction w3) = false)
    (hslot : s.lqFree ((lqQueue (lqAction w3)).getD 0) = some k)
    (hr : r = (s.lqStore k w0 w1 arg
      (w3 % 2 ^ 24 + (if lqForced (lqAction w3) (lqLC w3) then 2 ^ 24 else 0) + 2 ^ 28)).lqPlace k) :
    s.lqInsertWords w0 w1 arg w3 = (some k, r.setAll [(TMU_LQ_INS_SLOT, k % 256),
      (TMU_LQ_INS_QUEUE, (lqQueue (lqAction w3)).getD 0), (TMU_LQ_INS_STATE, r.lqWord k 3 / 2 ^ 28)]) := by
  simp only [State.lqInsertWords, h, hslot, Bool.false_eq_true, if_false, hr]

end Insertion

/-! ### CANCEL (R56) -/

theorem lqCancel_accepted {q slot : Nat} (hfree : s.busy TMU_CMD = false) : s.lqCancel q slot =
    if s.lqPending.contains (q * 256 + slot) then
      (((s.accepted TMU_CMD (4 + 16 * (q * 256 + slot))).lqDrop (q * 256 + slot)).lqClose (q * 256 + slot) 5).setStat
        TMU_CMD stDONE
    else (s.accepted TMU_CMD (4 + 16 * (q * 256 + slot))).setStat TMU_CMD stREFUSED := by
  rw [State.lqCancel, command_accepted hfree, lqPending_accepted]

theorem exec_lqCancel {q slot : Nat} (hrun : s.running = true) (hq : q < 4) (hslot : slot < 256) :
    exec (.lqCancel q slot) s = .next (s.lqCancel q slot).settle := by
  have hguard : (s.running && decide (q < 4 ∧ slot < 256)) = true := by simp [hrun, hq, hslot]
  exact (congrArg settled (if_pos hguard)).trans (settled_next _)

/-! ### O15 -/

/-- Settles O15: the free slot is the first one found, an insertion has the three cases of its lemmas, and CANCEL the two
of its condition. -/
theorem queueInsertionAndCancel : Obligations.QueueInsertionAndCancel := by
  intro s hrun
  have hexec (w3 : Word) : exec (.lqInsert w3) s = .next (s.lqInsert w3).settle := settled_running hrun
  refine ⟨lqFree_eq_none s, lqFree_eq_some s, fun w3 hfree => ⟨?refused, ?full, ?stored⟩,
    fun q slot hq hslot hfree => ⟨?pending, ?notPending⟩⟩
  case refused =>
    intro href
    have hins := lqInsertWords_refused (s := s.accepted TMU_LQ_IN3 w3.toNat) (w1 := (s.rd TMU_LQ_IN1).toNat)
      ((lqRefused_accepted_in3 s _ _ _ _).trans href)
    rw [hexec, lqInsert_accepted hfree hins]
    rfl
  case full =>
    intro href hfull
    have hins := lqInsertWords_full (s := s.accepted TMU_LQ_IN3 w3.toNat) (w1 := (s.rd TMU_LQ_IN1).toNat)
      ((lqRefused_accepted_in3 s _ _ _ _).trans href) ((lqFree_accepted s _ _ _).trans hfull)
    rw [hexec, lqInsert_accepted hfree hins]
    rfl
  case stored =>
    intro k href hslot r
    have hins := lqInsertWords_stored (s := s.accepted TMU_LQ_IN3 w3.toNat) (w1 := (s.rd TMU_LQ_IN1).toNat) (r := r)
      ((lqRefused_accepted_in3 s _ _ _ _).trans href) ((lqFree_accepted s _ _ _).trans hslot) rfl
    rw [hexec, lqInsert_accepted hfree hins]
    rfl
  case pending =>
    intro hpend
    rw [exec_lqCancel hrun hq hslot, lqCancel_accepted hfree, if_pos hpend]
  case notPending =>
    intro hpend
    rw [exec_lqCancel hrun hq hslot, lqCancel_accepted hfree, if_neg (Bool.eq_false_iff.1 hpend)]

end Sys2Proof.Machine
end

section
/-! The arithmetic of Kerf (R180-R182, R193): the word of a bounded integer read back, the three bounds of results, the
clamp whose bounds cross, the blends of full and of no alpha, and O37. -/

namespace Sys2Proof.Machine

variable {i : Int}

/-! ### The word of an integer -/

theorem toNat_wordOfInt (h0 : 0 ≤ i) (h : i < 2 ^ 32) : ((wordOfInt i).toNat : Int) = i := by
  rw [wordOfInt, ofInt, BitVec.toNat_ofNat]
  omega

theorem toInt_wordOfInt (hlo : -2 ^ 31 ≤ i) (hhi : i ≤ 2 ^ 31 - 1) : (wordOfInt i).toInt = i := by
  rw [wordOfInt, ofInt, BitVec.toInt_ofNat', Int.bmod_def]
  omega

/-! ### The bounds (R180) -/

theorem boundInt_eq_max_min {lo hi : Int} (h : lo ≤ hi) (i : Int) : boundInt lo hi i = max lo (min hi i) := by
  unfold boundInt
  omega

theorem toInt_satS (i : Int) : (satS i).1.toInt = max (-2 ^ 31) (min (2 ^ 31 - 1) i) := by
  rw [satS, satBetween, boundInt_eq_max_min (by decide), toInt_wordOfInt] <;> omega

theorem toNat_satU (i : Int) : ((satU i).1.toNat : Int) = max 0 (min (2 ^ 32 - 1) i) := by
  rw [satU, satBetween, boundInt_eq_max_min (by decide), toNat_wordOfInt] <;> omega

theorem toNat_satH (i : Int) : ((satH i).1.toNat : Int) = max 0 (min 65535 i) := by
  rw [satH, satBetween, boundInt_eq_max_min (by decide), toNat_wordOfInt] <;> omega

theorem satBetween_saturates (lo hi i : Int) : (satBetween lo hi i).2 = true ↔ i < lo ∨ hi < i := decide_eq_true_iff

/-- An integer in the range stands as it is. -/
theorem satH_of_word {w : Word} (hi : i = w.toNat) (h : w.toNat ≤ 65535) : satH i = (w, false) := by
  have hsat : (satH i).2 = false := decide_eq_false (by omega)
  have hword : (satH i).1 = w := BitVec.eq_of_toNat_eq (by have := toNat_satH i; omega)
  exact Prod.ext hword hsat

/-! ### The shifted products (R181) -/

theorem roundShift_pos (p : Int) {n : Nat} (h : 0 < n) : roundShift p n = (p + 2 ^ (n - 1)) / 2 ^ n := by
  rw [roundShift, if_neg (Nat.ne_of_gt h)]

theorem roundShift_natCast (p : Nat) {n : Nat} (h : 0 < n) :
    roundShift (p : Int) n = ((p + 2 ^ (n - 1)) / 2 ^ n : Nat) := by
  rw [roundShift_pos _ h]
  push_cast
  rfl

/-- A result that is not negative is bounded from above alone. -/
theorem toNat_satU_natCast (p : Nat) : (satU (p : Int)).1.toNat = min (2 ^ 32 - 1) p := by
  have := toNat_satU p
  omega

/-! ### The clamp (R182) -/

theorem clmpForm_signed_of_le {a b c : Word} (h : c.toInt ≤ b.toInt) : clmpForm 0 a b c = c := by
  have hmax : b.toInt ≤ (maxForm 0 a b).toInt := by
    simp only [maxForm, if_true]
    split <;> omega
  simp only [clmpForm, minForm, if_true]
  split
  · exact BitVec.eq_of_toInt_eq (by omega)
  · rfl

theorem clmpForm_unsigned_of_le {a b c : Word} (h : c.toNat ≤ b.toNat) : clmpForm 1 a b c = c := by
  have hmax : b.toNat ≤ (maxForm 1 a b).toNat := by
    simp only [maxForm, Nat.one_ne_zero, if_false]
    split <;> omega
  simp only [clmpForm, minForm, Nat.one_ne_zero, if_false]
  split
  · exact BitVec.eq_of_toNat_eq (by omega)
  · rfl

/-! ### The blends (R193) -/

/-- A lane in the range is bounded to itself before the blend. -/
theorem satH_toInt {w : Word} (h : w.toNat ≤ 65535) : satH w.toInt = (w, false) :=
  satH_of_word (by rw [BitVec.toInt_eq_toNat_of_lt (by omega)]) h

/-- OVER of three lanes in the range: nothing but the result is bounded. -/
theorem blndForm_over {a b c : Word} (ha : a.toNat ≤ 65535) (hb : b.toNat ≤ 65535) (hc : c.toNat ≤ 65535) :
    blndForm 0 a b c = satH ((a.toNat * (c.toNat + c.toNat / 2 ^ 15 : Int) +
      b.toNat * (65536 - (c.toNat + c.toNat / 2 ^ 15 : Int)) + 32768) / 65536) := by
  simp only [blndForm, satH_toInt ha, satH_toInt hb, satH_toInt hc, Nat.zero_lt_two, if_true, Bool.or_false, Bool.false_or]

/-- An alpha of 65,535 maps to 65,536, so the foreground's weight is one and the background's zero. -/
theorem blndForm_over_opaque {a b : Word} (ha : a.toNat ≤ 65535) (hb : b.toNat ≤ 65535) :
    blndForm 0 a b 65535 = (a, false) := by
  have halpha : (65535 : Word).toNat = 65535 := rfl
  rw [blndForm_over ha hb (Nat.le_of_eq halpha), halpha]
  exact satH_of_word (by omega) ha

theorem blndForm_over_clear {a b : Word} (ha : a.toNat ≤ 65535) (hb : b.toNat ≤ 65535) :
    blndForm 0 a b 0 = (b, false) := by
  have halpha : (0 : Word).toNat = 0 := rfl
  rw [blndForm_over ha hb (by omega), halpha]
  exact satH_of_word (by omega) hb

theorem blndForm_mul_full : blndForm 3 65535 65535 0 = (65535, false) := by decide

/-! ### O37 -/

/-- Settles O37: every form is a bound of its exact result. -/
theorem arithmeticFormsKeepTheirRules : Obligations.ArithmeticFormsKeepTheirRules := by
  refine ⟨fun a b => ⟨?adds, ?subs, ?addu, ?subu, ?addh, ?subh⟩, fun a b d n hn _ => ⟨?muls, ?mulu, ?macs, ?macu⟩,
    fun a b c => ⟨clmpForm_signed_of_le, clmpForm_unsigned_of_le⟩,
    fun a b ha hb => ⟨blndForm_over_opaque ha hb, blndForm_over_clear ha hb, blndForm_mul_full⟩⟩
  case adds => exact ⟨toInt_satS _, satBetween_saturates _ _ _⟩
  case subs => exact ⟨toInt_satS _, satBetween_saturates _ _ _⟩
  case addu =>
    have hsat : (addsForm 2 a b).2 = true ↔ (a.toNat : Int) + b.toNat < 0 ∨ 2 ^ 32 - 1 < (a.toNat : Int) + b.toNat :=
      satBetween_saturates _ _ _
    exact ⟨toNat_satU_natCast (a.toNat + b.toNat), hsat.trans (by omega)⟩
  case subu =>
    have hword : ((addsForm 3 a b).1.toNat : Int) = max 0 (min (2 ^ 32 - 1) ((a.toNat : Int) - b.toNat)) := toNat_satU _
    have hsat : (addsForm 3 a b).2 = true ↔ (a.toNat : Int) - b.toNat < 0 ∨ 2 ^ 32 - 1 < (a.toNat : Int) - b.toNat :=
      satBetween_saturates _ _ _
    exact ⟨by omega, hsat.trans (by omega)⟩
  case addh => exact ⟨toNat_satH _, satBetween_saturates _ _ _⟩
  case subh => exact ⟨toNat_satH _, satBetween_saturates _ _ _⟩
  case muls => exact roundShift_pos _ hn ▸ toInt_satS _
  case mulu =>
    have := toNat_satU_natCast ((a.toNat * b.toNat + 2 ^ (n - 1)) / 2 ^ n)
    rwa [← roundShift_natCast _ hn] at this
  case macs => exact roundShift_pos _ hn ▸ toInt_satS _
  case macu =>
    have := toNat_satU_natCast (d.toNat + (a.toNat * b.toNat + 2 ^ (n - 1)) / 2 ^ n)
    rwa [Int.natCast_add, ← roundShift_natCast _ hn] at this

end Sys2Proof.Machine
end

section
/-! The issue of a Kerf instruction (R145, R148, R173, R178, R200, R207): what the count of an issue leaves, the ends of an
issue, the control instructions (R198-R202), and O41. -/

namespace Sys2Proof.Machine

variable {s : State} {e t : Nat} {i : KIns}

/-! ### Slots and registers after an issue is counted (R145, R171, R201) -/

@[simp] theorem slot_setSlot_same (s : State) (e t : Nat) (x : Slot) : (s.setSlot e t x).slot e t = x :=
  mget_mput_same _ _ _ _

theorem slot_setSlot_ne (s : State) (e : Nat) {t u : Nat} (x : Slot) (h : u ≠ t) : (s.setSlot e t x).slot e u = s.slot e u :=
  mget_mput_ne _ _ _ _ (by omega)

theorem rd_bump_ne (s : State) {a b : Nat} (h : b ≠ a) (h4 : b ≠ a + 4) : (s.bump a).rd b = s.rd b := by
  simp only [State.bump, State.bumpN]
  split <;> rw [rd_wr_ne _ _ h4, rd_wr_ne _ _ h]

/-- An issue clears its slot from the wait of others and changes nothing else of any slot of its engine. -/
theorem slot_unyield (s : State) (e t u : Nat) : ∃ l, (s.unyield e t).slot e u = { s.slot e u with yld := l } := by
  refine List.foldlRecOn (motive := fun r => ∃ l, State.slot r e u = { s.slot e u with yld := l }) _ _ ⟨_, rfl⟩ ?_
  rintro r ⟨l, hr⟩ v -
  dsimp only
  split
  · exact ⟨l, hr⟩
  · by_cases hv : u = v
    · subst hv
      exact ⟨_, by rw [slot_setSlot_same, hr]⟩
    · exact ⟨l, (slot_setSlot_ne r e _ hv).trans hr⟩

theorem rd_unyield (s : State) (e t a : Nat) : (s.unyield e t).rd a = s.rd a := by
  refine List.foldlRecOn (motive := fun r => State.rd r a = s.rd a) _ _ rfl fun r hr v _ => ?_
  dsimp only
  split
  · exact hr
  · exact hr

theorem slot_issued (s : State) (e t : Nat) : ∃ l, (s.issued e t).slot e t = { s.slot e t with yld := l } := by
  obtain ⟨l, hl⟩ := slot_unyield ((s.setCrew (e / 8) { s.crew (e / 8) with
    lastIssue := lset (s.crew (e / 8)).lastIssue (e % 8) t }).bump (ENG_ISSUED e)) e t t
  refine ⟨l, hl.trans ?_⟩
  simp only [State.slot, State.bump_eng]
  rfl

@[simp] theorem pc_issued (s : State) (e t : Nat) : ((s.issued e t).slot e t).pc = (s.slot e t).pc := by
  obtain ⟨l, hl⟩ := slot_issued s e t
  rw [hl]

@[simp] theorem thr_issued (s : State) (e t : Nat) : ((s.issued e t).slot e t).thr = (s.slot e t).thr := by
  obtain ⟨l, hl⟩ := slot_issued s e t
  rw [hl]

/-- The code region is set in a register that the count of issues is not (R154). -/
@[simp] theorem codeBytes_issued (s : State) (e t : Nat) : (s.issued e t).codeBytes e = s.codeBytes e := by
  have hrd : (s.issued e t).rd (ENG_CFG e) = s.rd (ENG_CFG e) := by
    rw [State.issued, rd_unyield, rd_bump_ne _ (by simp only [ENG_CFG, ENG_ISSUED]; omega)
      (by simp only [ENG_CFG, ENG_ISSUED]; omega)]
    rfl
  simp only [State.codeBytes, State.get, hrd]

/-! ### The ends of an issue -/

variable {row : KIns → Bool} {eff : State → Nat → Nat → KIns → KRes}

theorem kerf_picked (heng : s.engIssues e = true) (hpick : s.pick e = some t) :
    s.kerf e t row eff = s.issueOf e t row eff := by
  rw [State.kerf, if_pos (by simp [heng, hpick])]

/-- A fetch past the code region (R200). -/
theorem issueOf_outside (halive : (s.slot e t).killed = false) (hout : s.codeBytes e < (s.slot e t).pc + 8) :
    s.issueOf e t row eff = (s.issued e t).threadFault e t 5 0 := by
  simp [State.issueOf, halive, hout]

/-- An illegal word, whatever its guard (R178). -/
theorem issueOf_illegal (halive : (s.slot e t).killed = false) (hin : (s.slot e t).pc + 8 ≤ s.codeBytes e)
    (hword : kLegal (kdecode (s.kword e (s.slot e t).pc)) = false) :
    s.issueOf e t row eff = (s.issued e t).threadFault e t 1 (s.kword e (s.slot e t).pc) := by
  simp [State.issueOf, halive, Nat.not_lt.2 hin, hword]

/-- A legal instruction of the row has its effect on the state in which its issue is counted. -/
theorem State.Issues.kerf_eq (h : s.Issues e t i) (hrow : row i = true) : s.kerf e t row eff =
    (s.issued e t).kFinish e t (s.kword e (s.slot e t).pc) (eff (s.issued e t) e t i) := by
  obtain ⟨heng, hpick, halive, hin, rfl, hlegal⟩ := h
  rw [kerf_picked heng hpick]
  simp [State.issueOf, halive, Nat.not_lt.2 hin, hlegal, hrow]

theorem State.Issues.form_lt (h : s.Issues e t i) : i.fn < formCount i.op :=
  of_decide_eq_true (Bool.and_eq_true_iff.1 h.legal).1

/-- HALT's row is a row like the others while its thread lives. -/
theorem exec_kHalt_alive (halive : (s.slot e t).killed = false) :
    exec (.kHalt e t) s = settled (s.kerf e t (fun i => i.op = 0x7F) State.kHalt) := by
  have hrow : s.haltRow e t = s.kerf e t (fun i => i.op = 0x7F) State.kHalt := by
    simp only [State.haltRow, State.kerf, halive, Bool.false_eq_true, if_false]
  exact congrArg settled hrow

/-- What an issue of the rows ends in, its row's effect being known (R149, R173). -/
theorem State.Issues.settled_kerf {k : KRes} {r : State} (h : s.Issues e t i) (hrow : row i = true)
    (hk : eff (s.issued e t) e t i = k)
    (hr : (s.issued e t).kFinish e t (s.kword e ((s.issued e t).slot e t).pc) k = r) :
    settled (s.kerf e t row eff) = .next r.settle := by
  rw [h.kerf_eq hrow, hk, ← pc_issued s e t, hr, settled_next]

/-! ### Targets (R200) -/

theorem inCode_iff {a : Int} : s.inCode e a = true ↔ 0 ≤ a ∧ a % 8 = 0 ∧ a < s.codeBytes e := decide_eq_true_iff

theorem inCode_natCast_iff {n : Nat} : s.inCode e n = true ↔ n % 8 = 0 ∧ n < s.codeBytes e := by
  rw [inCode_iff]
  omega

/-! ### BR (R198) -/

/-- BR is taken, by its form: the guard on some lane or on all, SAT set or clear. -/
def KIns.taken (i : KIns) (x : Slot) : Prop :=
  (i.fn = 0 ∧ i.mask x ≠ 0#16) ∨ (i.fn = 1 ∧ i.mask x = 0xFFFF#16) ∨ (i.fn = 2 ∧ x.sat = true) ∨ (i.fn = 3 ∧ x.sat = false)

/-- SAT cleared if BR asks for it. -/
def State.brSat (s : State) (e t : Nat) (i : KIns) : State :=
  if i.x1 = 1 then s.setSlot e t { s.slot e t with sat := false } else s

theorem kBr_taken (h : i.taken (s.slot e t)) : s.kBr e t i =
    if s.inCode e ((s.slot e t).pc + i.simm * 8) then .jump (s.brSat e t i) ((s.slot e t).pc + i.simm * 8).toNat
    else .fault 5 := by
  rcases h with ⟨hfn, hcond⟩ | ⟨hfn, hcond⟩ | ⟨hfn, hcond⟩ | ⟨hfn, hcond⟩ <;> simp [State.kBr, State.brSat, hfn, hcond]

theorem kBr_notTaken (hfn : i.fn < 4) (h : ¬i.taken (s.slot e t)) : s.kBr e t i = .next (s.brSat e t i) := by
  have hform : i.fn = 0 ∨ i.fn = 1 ∨ i.fn = 2 ∨ i.fn = 3 := by omega
  rcases hform with hfn | hfn | hfn | hfn <;> simp_all [KIns.taken, State.kBr, State.brSat]

/-! ### JMP, YLD and HALT (R199, R201, R202) -/

theorem kJmp_masked (h : i.mask (s.slot e t) = 0) : s.kJmp e t i = .next s := if_pos h

theorem kYld_masked (h : i.mask (s.slot e t) = 0) : s.kYld e t i = .next s := if_pos h

theorem kHalt_masked (h : i.mask (s.slot e t) = 0) : s.kHalt e t i = .next s := if_pos h

theorem kHalt_enabled (h : i.mask (s.slot e t) ≠ 0) : s.kHalt e t i = .ended (s.haltSlot e t) := if_neg h

/-- The other READY threads of the engine that YLD of slot `t` lets issue first. -/
def State.yieldsTo (s : State) (e t : Nat) : List Nat :=
  (List.range 8).filter fun u => u ≠ t && (s.slot e u).st = .ready && !s.held e u &&
    decide ((s.thread (s.slot e t).thr).prio ≤ (s.thread (s.slot e u).thr).prio)

theorem kYld_enabled (h : i.mask (s.slot e t) ≠ 0) : s.kYld e t i =
    .next (s.setSlot e t { s.slot e t with yld := s.yieldsTo e t }) := if_neg h

/-- JMP's target. -/
def KIns.jmpTarget (i : KIns) (x : Slot) : Nat := (x.sreg i.a + i.immW).toNat

/-- The next instruction's address in sD if JMP asks for it. -/
def State.jmpLink (s : State) (e t : Nat) (i : KIns) : State :=
  if i.x1 = 1 then s.setSlot e t ((s.slot e t).setS i.d (BitVec.ofNat 32 ((s.slot e t).pc + 8))) else s

theorem kJmp_enabled (h : i.mask (s.slot e t) ≠ 0) : s.kJmp e t i =
    if s.inCode e (i.jmpTarget (s.slot e t)) then .jump (s.jmpLink e t i) (i.jmpTarget (s.slot e t)) else .fault 5 := by
  rw [State.kJmp]
  refine (if_neg h).trans ?_
  simp only [Bool.not_eq_true', ← Bool.not_eq_true, ite_not]
  rfl

/-! ### The stops of any row -/

/-- The rows of the instructions. -/
def kerfRows : List (Nat → Nat → Instr) :=
  [.kAdd, .kAdds, .kMul, .kMac, .kMin, .kMax, .kClmp, .kShl, .kShr, .kCvt, .kLd, .kSt, .kPull, .kPush, .kLut3, .kSclvOpen,
    .kSclvRun, .kSclvClose, .kSclh, .kBlnd, .kWaitf, .kSigf, .kRelo, .kBr, .kJmp, .kYld, .kHalt]

/-- For a living thread every row is an issue of the engine, of the row's own opcodes and effect. -/
theorem exec_kerfRow (halive : (s.slot e t).killed = false) :
    ∀ c ∈ kerfRows, ∃ row eff, exec (c e t) s = settled (s.kerf e t row eff) := by
  simp only [kerfRows, List.forall_mem_cons]
  refine ⟨⟨_, _, rfl⟩, ⟨_, _, rfl⟩, ⟨_, _, rfl⟩, ⟨_, _, rfl⟩, ⟨_, _, rfl⟩, ⟨_, _, rfl⟩, ⟨_, _, rfl⟩, ⟨_, _, rfl⟩, ⟨_, _, rfl⟩,
    ⟨_, _, rfl⟩, ⟨_, _, rfl⟩, ⟨_, _, rfl⟩, ⟨_, _, rfl⟩, ⟨_, _, rfl⟩, ⟨_, _, rfl⟩, ⟨_, _, rfl⟩, ⟨_, _, rfl⟩, ⟨_, _, rfl⟩,
    ⟨_, _, rfl⟩, ⟨_, _, rfl⟩, ⟨_, _, rfl⟩, ⟨_, _, rfl⟩, ⟨_, _, rfl⟩, ⟨_, _, rfl⟩, ⟨_, _, rfl⟩, ⟨_, _, rfl⟩,
    ⟨_, _, exec_kHalt_alive halive⟩, fun c hc => absurd hc List.not_mem_nil⟩

/-- A killed thread ends at its next issue (R207). -/
theorem exec_kHalt_killed (heng : s.engIssues e = true) (hpick : s.pick e = some t) (hkilled : (s.slot e t).killed = true) :
    exec (.kHalt e t) s = .next ((s.issued e t).haltSlot e t).settle := by
  have hrow : s.haltRow e t = (s.issued e t).haltSlot e t := by simp [State.haltRow, heng, hpick, hkilled]
  exact congrArg settled hrow

/-! ### O41 -/

/-- Settles O41: each instruction's result is its effect's lemma under the issue, and the stops are those of every row. -/
theorem controlInstructionsAndStops : Obligations.ControlInstructionsAndStops := by
  refine fun s e t => ⟨fun i h => ⟨fun hop => ⟨?brPast, ?brGoes, ?brFaults⟩, fun hm => ⟨?jmpMasked, ?yldMasked, ?haltMasked⟩,
    fun hop hm => ⟨?jmpGoes, ?jmpFaults⟩, ?yld, ?halt⟩, fun heng hpick => ⟨?killed, fun c hc => ⟨?outside, ?illegal⟩⟩⟩
  case brPast =>
    intro hnot
    have hform : i.fn < formCount 0x70 := hop ▸ h.form_lt
    exact h.settled_kerf (decide_eq_true hop) (kBr_notTaken hform hnot) rfl
  case brGoes =>
    intro htaken hlo hmod hhi
    rw [← codeBytes_issued s e t] at hhi
    exact h.settled_kerf (decide_eq_true hop) ((kBr_taken htaken).trans (if_pos (inCode_iff.2 ⟨hlo, hmod, hhi⟩))) rfl
  case brFaults =>
    intro htaken hout
    rw [← codeBytes_issued s e t] at hout
    have hnot : ¬(s.issued e t).inCode e (((s.issued e t).slot e t).pc + i.simm * 8) = true := fun hin => by
      obtain ⟨hlo, -, hhi⟩ := inCode_iff.1 hin
      omega
    exact h.settled_kerf (decide_eq_true hop) ((kBr_taken htaken).trans (if_neg hnot)) rfl
  case jmpMasked => exact fun hop => h.settled_kerf (decide_eq_true hop) (kJmp_masked hm) rfl
  case yldMasked => exact fun hop => h.settled_kerf (decide_eq_true hop) (kYld_masked hm) rfl
  case haltMasked =>
    intro hop
    rw [exec_kHalt_alive h.alive]
    exact h.settled_kerf (decide_eq_true hop) (kHalt_masked hm) rfl
  case jmpGoes =>
    intro hmod hhi
    rw [← codeBytes_issued s e t] at hhi
    exact h.settled_kerf (decide_eq_true hop) ((kJmp_enabled hm).trans (if_pos (inCode_natCast_iff.2 ⟨hmod, hhi⟩))) rfl
  case jmpFaults =>
    intro hout
    rw [← codeBytes_issued s e t] at hout
    have hnot : ¬(s.issued e t).inCode e (i.jmpTarget ((s.issued e t).slot e t)) = true := fun hin => by
      obtain ⟨hmod, hhi⟩ := inCode_natCast_iff.1 hin
      exact hout.elim (absurd hmod) (absurd hhi <| Nat.not_lt.2 ·)
    exact h.settled_kerf (decide_eq_true hop) ((kJmp_enabled hm).trans (if_neg hnot)) rfl
  case yld => exact fun hop hm => h.settled_kerf (decide_eq_true hop) (kYld_enabled hm) rfl
  case halt =>
    intro hop hm
    rw [exec_kHalt_alive h.alive]
    exact h.settled_kerf (decide_eq_true hop) (kHalt_enabled hm) rfl
  case killed =>
    intro hkilled
    rw [exec_kHalt_killed heng hpick hkilled, State.haltSlot, thr_issued, pc_issued]
  case outside =>
    intro halive hout
    obtain ⟨row, eff, hexec⟩ := exec_kerfRow halive c hc
    rw [hexec, kerf_picked heng hpick, issueOf_outside halive hout, settled_next]
  case illegal =>
    intro halive hin hword
    obtain ⟨row, eff, hexec⟩ := exec_kerfRow halive c hc
    rw [hexec, kerf_picked heng hpick, issueOf_illegal halive hin hword, settled_next]

end Sys2Proof.Machine
end

section
/-! Starts, downloads, boot commands and recovery mode (R451-R457, R464, R465, R470-R476, R481-R483, R491, R521): what each
event and command does in the cases that O59 names, and O59. -/

namespace Sys2Proof.Machine

variable {s : State}

/-! ### Starts and the hold in reset (R452, R491) -/

theorem exec_porstRise_low {hd : Bool} {n bs : Nat} {dev : Device} (hlow : s.pins.porst = false)
    (hsupply : s.pwr.supply = none) : exec (.porstRise hd n bs dev) s =
      .next (({ s with pins := { s.pins with porst := true } } : State).start hd n bs dev).settle := by
  change settled _ = _
  simp [hlow, hsupply, settled_next]

theorem exec_supplyRecover_away {hd : Bool} {n bs : Nat} {dev : Device} (haway : s.pwr.supply ≠ none)
    (hhigh : s.pins.porst = true) : exec (.supplyRecover hd n bs dev) s =
      .next (({ s with pwr := { s.pwr with supply := none } } : State).start hd n bs dev).settle := by
  change settled _ = _
  simp [haway, hhigh, settled_next]

/-- An unusable flash device leads to recovery mode, whatever the straps and the device hold (R454). -/
theorem phase_start_of_flash_unusable {hd : Bool} {n bs : Nat} {dev : Device} (hflash : dev.flashOk = false) :
    (s.start hd n bs dev).phase = .recovery := by
  rw [State.start, hflash]
  rfl

/-! ### The lamp-side test (R521, R528) -/

/-- The outcome of the lamp-side test in its registers; the test is no longer to come. -/
def State.lampTested (s : State) (vdrv vgate : Nat) : State :=
  (s.bootSet fun b => { b with lampAt := none }).setAll [(PWR_LSDET_DONE, 1),
    (PWR_LSDET_VDRVT, if decide (vdrv < 200) then 1 else 0), (PWR_LSDET_VGATET, if decide (vgate < 200) then 1 else 0),
    (PWR_LSDET_NOLAMP, if decide (vdrv < 200) && decide (vgate < 200) then 1 else 0),
    (PWR_LSDET_VDRVMV, min 255 (vdrv / 10)), (PWR_LSDET_VGATEMV, min 255 (vgate / 10)),
    (GLB_STRAP_NOLAMP, if decide (vdrv < 200) && decide (vgate < 200) then 1 else 0)]

theorem exec_lampSideTest_due {vd vg t : Nat} (hlamp : s.boot.lampAt = some t) (hphase : s.phase ≠ .held)
    (hdue : t ≤ s.now) : exec (.lampSideTest vd vg) s = .next (s.lampTested vd vg).settle := by
  change execLampSideTest vd vg s = _
  simp only [execLampSideTest, hlamp]
  rw [if_neg (by simp [hphase, hdue])]
  rfl

/-- A one-bit field that holds a condition. -/
theorem decide_flag (b : Bool) : decide ((if b then 1 else 0) % 2 ^ 1 = 1) = b := by cases b <;> rfl

theorem bits_lampTested (s : State) (vd vg : Nat) :
    (s.lampTested vd vg).bit GLB_STRAP_NOLAMP = (decide (vd < 200) && decide (vg < 200)) ∧
    (s.lampTested vd vg).bit PWR_LSDET_DONE = true ∧
    (s.lampTested vd vg).bit PWR_LSDET_VDRVT = decide (vd < 200) ∧
    (s.lampTested vd vg).bit PWR_LSDET_VGATET = decide (vg < 200) := by
  refine ⟨?_, ?_, ?_, ?_⟩ <;>
    simp (disch := decide) only [State.lampTested, State.setAll, State.bit, get_set_same, get_set_disjoint, get_set_ne,
      decide_flag]
  rfl

theorem onlyRegisters_lampTested (s : State) (vd vg : Nat) :
    OnlyRegisters (s.bootSet fun b => { b with lampAt := none }) (s.lampTested vd vg) [PWR_LSDET, GLB_STRAP] :=
  (OnlyRegisters.refl _ _).setAll (by simp)

/-! ### The start of firmware (R465, R475) -/

theorem exec_firmwareStart_ok {ee : List Byte} {cv : Option (List Byte)} {b d : State} (hrom : s.phase = .rom)
    (hb : b = { s with phase := .firmware, boot := { s.boot with count := s.boot.count + 1 } })
    (hhash : b.hashesOk b.boot.run 3 (· ≠ 1) = true) (hset : b.showStart.startSettings cv = some d) :
    exec (.firmwareStart ee cv) s = .next (d.firmwareRuns ee).settle := by
  change settled (if s.phase ≠ .rom then s else _) = _
  rw [if_neg (not_not_intro hrom)]
  subst hb
  simp only [State.bootSet, hhash, hset]
  rfl

/-! ### Host commands of BOOT_CMD (R457, R468, R471-R476, R479) -/

/-- A host command whose meaning is known, while firmware runs. -/
theorem settled_running_of_eq {t u : State} (hrun : s.running = true) (h : t = u) :
    settled (if s.running then t else s) = .next u.settle := h ▸ settled_running hrun

section BootCmd

variable {a b : State} {h l : List Byte} (hfree : s.busy BOOT_CMD = false)
include hfree

theorem bootCommand_accepted {op : Nat} {f : State → State} :
    s.bootCommand op false f = f (s.accepted BOOT_CMD op) := command_accepted hfree

/-- The command's SLOT is bit 4 of its word. -/
theorem bootCommand_slot_accepted {op : Nat} {f : State → State} :
    s.bootCommand op true f = f (s.accepted BOOT_CMD (op + 16)) := command_accepted hfree

theorem bootActivate_of_none (ha : a = s.accepted BOOT_CMD 1) (hdl : a.boot.dl = none) :
    s.bootActivate = a.bootRefuse BOOT_CMD boNOTCOMPLETE := by
  rw [State.bootActivate, bootCommand_accepted hfree, ← ha]
  simp only [hdl]

theorem bootActivate_of_complete {d : Download} (ha : a = s.accepted BOOT_CMD 1) (hdl : a.boot.dl = some d)
    (hall : d.complete = true) : s.bootActivate =
      ((a.bsrWrite [(9, 1, d.slot), (0x0A, 1, csPENDING), (0x0B, 1, 0), (0x0C + d.slot, 1, slDOWN),
        (0x10 + 8 * d.slot, 8, a.imgVersion d.slot)]).bootSet fun b => { b with dl := none }).setStat BOOT_CMD stDONE := by
  rw [State.bootActivate, bootCommand_accepted hfree, ← ha]
  simp only [hdl, hall]
  rfl

theorem bootRestart_of_accepted (ha : a = s.accepted BOOT_CMD 2) : s.bootRestart =
    if a.power = psHALT ∨ a.power = psREADY then a.restart false else a.bootRefuse BOOT_CMD boSTATE := by
  rw [State.bootRestart, bootCommand_accepted hfree, ← ha]
  simp only [Bool.or_eq_true, decide_eq_true_eq]

theorem bootConfirm_of_trial (ha : a = s.accepted BOOT_CMD 3) (htrial : a.boot.trial = true) :
    s.bootConfirm = a.bootBusy 3 [] := by
  rw [State.bootConfirm, bootCommand_accepted hfree, ← ha, if_pos htrial]

theorem bootRevert_of_good (ha : a = s.accepted BOOT_CMD 4) (hcand : a.bsrCand = none)
    (hgood : a.slotState a.inactive = slGOOD) : s.bootRevert =
      (a.bsrWrite [(9, 1, a.inactive), (0x0A, 1, csPENDING), (0x0B, 1, 0)]).setStat BOOT_CMD stDONE := by
  rw [State.bootRevert, bootCommand_accepted hfree, ← ha, if_neg (by simp [hcand, hgood])]

theorem bootSave_of_ok (ha : a = s.accepted BOOT_CMD 5) (hrun : a.boot.trial = false) (hpow : a.power ≠ psHALT)
    (hup : a.dramUp = true) (hh : h = a.bytes (dramBase + a.bootSrc) 32) (hmagic : numAt h 0 4 = 0x5453454B)
    (hfits : settLen h ≤ a.areaSize (2 + a.boot.run) / 2) (hread : a.dramRead a.bootSrc (settLen h) = (l, b))
    (hok : settOk l = true) (hver : settVer l = b.imgSetver b.boot.run) : s.bootSave = b.bootBusy 5 l := by
  subst hh
  rw [State.bootSave, bootCommand_accepted hfree, ← ha, if_neg (by simp [hrun, hpow, hup])]
  simp only [hread]
  rw [if_neg (by simp [hmagic, hfits]), if_neg (by simp [hok, hver])]

theorem bootStage_running (ha : a = s.accepted BOOT_CMD 22) (hpow : a.power ≠ psHALT) (hup : a.dramUp = true) :
    s.bootStage true = a.bootBusy 6 [1#8] := by
  rw [State.bootStage, bootCommand_slot_accepted hfree, ← ha, if_neg (by simp [hpow, hup]), if_pos rfl]

theorem bootStorebd_of_up (ha : a = s.accepted BOOT_CMD 7) (hup : a.dramUp = true)
    (hh : h = a.bytes (dramBase + a.bootSrc) 32)
    (hread : a.dramRead a.bootSrc (min 65536 (max 32 (numAt h 0x0C 4))) = (l, b)) : s.bootStorebd = b.bootBusy 7 l := by
  subst hh
  rw [State.bootStorebd, bootCommand_accepted hfree, ← ha, if_neg (by simp [hup])]
  simp only [hread]

theorem bootStorecor_of_ok {n : Nat} (ha : a = s.accepted BOOT_CMD 8) (hup : a.dramUp = true)
    (hn : n = 0xC0 + imgWord (a.bytes (dramBase + a.bootSrc) 0xC0) 8) (hfits : n ≤ a.areaSize 5 / 2)
    (hread : a.dramRead a.bootSrc n = (l, b)) (hok : imgOk l = true) (hmon : (imgProg l).mon = false) :
    s.bootStorecor = b.bootBusy 8 l := by
  subst hn
  rw [State.bootStorecor, bootCommand_accepted hfree, ← ha, if_neg (by simp [hup])]
  simp only [hread]
  rw [if_neg (Nat.not_lt.2 hfits), if_neg (by simp [hok, hmon])]

end BootCmd

theorem exec_bootCommandDone {op : Nat} {l : List Byte} (hbusy : s.boot.busy = some (op, l)) :
    exec .bootCommandDone s = .next ((s.bootSet fun b => { b with busy := none }).bootDone op l).settle := by
  change execBootCommandDone s = _
  simp only [execBootCommandDone, hbusy, settled_next]

/-! ### Downloads (R470, R471) -/

section Download

variable {a : State} {d : Download} (hfree : s.busy BOOT_DLCMD = false) (hserved : a.dlServed = true)
include hfree hserved

theorem bootDlOpen_of_error {r : Nat} (ha : a = s.accepted BOOT_DLCMD 1)
    (hopen : a.dlOpen (a.rd BOOT_DLARG0).toNat (a.rd BOOT_DLARG1).toNat = .error r) :
    s.bootDlOpen = a.bootRefuse BOOT_DLCMD r := by
  rw [State.bootDlOpen, command_accepted hfree, ← ha, if_neg (by simp [hserved])]
  simp only [hopen]

theorem bootDlOpen_of_ok {b : State} (ha : a = s.accepted BOOT_DLCMD 1)
    (hopen : a.dlOpen (a.rd BOOT_DLARG0).toNat (a.rd BOOT_DLARG1).toNat = .ok b) :
    s.bootDlOpen = b.setStat BOOT_DLCMD stDONE := by
  rw [State.bootDlOpen, command_accepted hfree, ← ha, if_neg (by simp [hserved])]
  simp only [hopen]

theorem bootDlAbort_of_some (ha : a = s.accepted BOOT_DLCMD 3) (hdl : a.boot.dl = some d) : s.bootDlAbort =
    ((a.bsrWrite [(0x0C + d.slot, 1, slEMPTY)]).bootSet fun b => { b with dl := none }).setStat BOOT_DLCMD stDONE := by
  rw [State.bootDlAbort, command_accepted hfree, ← ha, if_neg (by simp [hserved])]
  simp only [hdl]

end Download

/-- A piece that the download takes is refused if its CRC does not check; else its programming starts (R470). -/
theorem dlPiece_of_new {d : Download} {i crc : Nat} {l : List Byte} {src : Option (Nat × Nat × Nat)}
    (hdl : s.boot.dl = some d) (hi : i < d.n) (hnew : i ∉ d.held) : s.dlPiece i crc l src =
      if crc32c (l.take (pieceLen d.len i)) ≠ crc then .error boBADPIECE
      else .ok (some (s.bootSet fun b => { b with piece := some (i, l.take (pieceLen d.len i), src) })) := by
  rw [State.dlPiece, hdl]
  simp only
  rw [if_neg (Nat.not_le.2 hi), if_neg (by simp [hnew])]

section Piece

variable {a : State} {d : Download} {i : Nat} {l : List Byte} (hfree : s.busy BOOT_DLCMD = false)
  (ha : a = s.accepted BOOT_DLCMD 2) (hserved : a.dlServed = true) (hdl : a.boot.dl = some d)
  (hi : a.get BOOT_DLARG2_PIECE = i) (hn : i < d.n) (hnew : i ∉ d.held)
  (hl : l = (a.pieceBuffer 16384).take (pieceLen d.len i))
include hfree ha hserved hdl hi hn hnew hl

theorem bootDlPiece_of_badCrc (hcrc : crc32c l ≠ (a.rd BOOT_DLARG3).toNat) :
    s.bootDlPiece = (a.bump BOOT_PIECEBAD).bootRefuse BOOT_DLCMD boBADPIECE := by
  rw [State.bootDlPiece, command_accepted hfree, ← ha, if_neg (by simp [hserved]), hi, dlPiece_of_new hdl hn hnew, ← hl,
    if_pos hcrc]
  simp only [if_pos]

theorem bootDlPiece_of_goodCrc (hcrc : crc32c l = (a.rd BOOT_DLARG3).toNat) :
    s.bootDlPiece = (a.bootSet fun b => { b with piece := some (i, l, none) }).setStat BOOT_DLCMD stBUSY := by
  rw [State.bootDlPiece, command_accepted hfree, ← ha, if_neg (by simp [hserved]), hi, dlPiece_of_new hdl hn hnew, ← hl,
    if_neg (not_not_intro hcrc)]

end Piece

/-- Of a piece of BOOT_DLCMD, programming ends well or not (R470). -/
theorem exec_downloadPieceDone {i : Nat} {l : List Byte} {ok : Bool} (hpiece : s.boot.piece = some (i, l, none)) :
    exec (.downloadPieceDone ok) s = .next (if ok
      then ((s.bootSet fun b => { b with piece := none }).pieceHeld i l).setStat BOOT_DLCMD stDONE
      else ((s.bootSet fun b => { b with piece := none }).bump BOOT_FLERR).bootRefuse BOOT_DLCMD boFLASH).settle := by
  change execDownloadPieceDone ok s = _
  cases ok <;> simp only [execDownloadPieceDone, hpiece, settled_next, if_true, Bool.false_eq_true, if_false]

/-! ### Recovery mode (R481-R483) -/

section Recovery

variable {typ seq : Nat} {f : State → State} {t : State} (hrec : s.phase = .recovery)
include hrec

/-- A request whose CRC checks is carried out. -/
theorem settled_recoveryRow (h : f s = t) : settled (s.recoveryRow typ seq true f) = .next t.settle := by
  rw [State.recoveryRow, if_neg (not_not_intro hrec), ← h]
  rfl

/-- A request whose CRC fails is answered BADCRC and has no other effect (R481). -/
theorem settled_recoveryRow_badCrc :
    settled (s.recoveryRow typ seq false f) = .next (s.uartAnswer typ seq rcBADCRC []).settle := by
  rw [State.recoveryRow, if_neg (not_not_intro hrec)]
  rfl

theorem exec_recoveryBaud_ok {r : Nat} (hlo : 115200 ≤ r) (hhi : r ≤ 3000000) : exec (.recoveryBaud seq true r) s =
    .next ((s.uartAnswer 2 seq rcOK []).bootSet fun b => { b with baud := r }).settle :=
  settled_recoveryRow hrec (if_neg (by simp; omega))

theorem exec_recoveryWrite_ok {k i : Nat} {l : List Byte} (hk : k < 2) (hi : i < 1024) (hl : l.length ≤ 16384) :
    exec (.recoveryWrite seq true k i (crc32c l) l true) s = .next (((s.recoveryEmpty k).bootSet fun b =>
      { b with img := minsert (1024 * k + i) l (merase (1024 * k + i) b.img) }).uartAnswer 3 seq rcOK []).settle :=
  settled_recoveryRow hrec (if_neg (by simp; omega))

theorem exec_recoveryCommit_ok {k : Nat} (hk : k < 2) (hok : s.verifyImage k true = 0) :
    exec (.recoveryCommit seq true k (s.imgLen k)) s = .next ((s.bsrWrite [(8, 1, k), (0x0C + k, 1, slGOOD), (9, 1, 0xFF),
      (0x10 + 8 * k, 8, s.imgVersion k)]).uartAnswer 4 seq rcOK []).settle := by
  refine settled_recoveryRow hrec ?_
  simp only [if_neg (Nat.not_le.2 hk), ne_eq, not_true_eq_false, if_false, hok]

theorem exec_recoveryErase_refused {m : Nat} (hsel : s.get GLB_STRAP_BOOTSEL ≠ 3) :
    exec (.recoveryErase seq true m) s = .next (s.uartAnswer 5 seq rcREFUSED []).settle :=
  settled_recoveryRow hrec (if_pos hsel)

theorem exec_recoveryErase_keys (hsel : s.get GLB_STRAP_BOOTSEL = 3) :
    exec (.recoveryErase seq true 1) s = .next ((s.eraseRec recKEYS).uartAnswer 5 seq rcOK []).settle :=
  settled_recoveryRow hrec (if_neg (not_not_intro hsel))

theorem exec_recoveryWritebd_refused {o : Nat} {l : List Byte} (hlong : 65536 < o + l.length) :
    exec (.recoveryWritebd seq true o l) s = .next (s.uartAnswer 6 seq rcREFUSED []).settle :=
  settled_recoveryRow hrec (if_pos hlong)

end Recovery

/-! ### O59 -/

/-- Settles O59, clause by clause: each event, command and request is the lemma of its case above. -/
theorem startsUpdatesAndRecoveryAct : Obligations.StartsUpdatesAndRecoveryAct := by
  intro s
  refine ⟨?porstRise, ?supplyRecover, ?hold, ?flash, ?lampTest, ?firmware, ?bootCmd, ?bootDone, ?download, ?programmed,
    ?recovery⟩
  case porstRise => exact fun _ _ _ _ => exec_porstRise_low
  case supplyRecover => exact fun _ _ _ _ => exec_supplyRecover_away
  case hold => exact ⟨rfl, rfl, rfl, rfl, rfl, rfl⟩
  case flash => exact fun _ _ _ _ => phase_start_of_flash_unusable
  case lampTest =>
    intro vd vg t hlamp hphase hdue
    obtain ⟨hnolamp, hdone, hvdrv, hvgate⟩ := bits_lampTested s vd vg
    obtain ⟨hregs, hmem, hrest⟩ := (onlyRegisters_lampTested s vd vg).settle
    refine ⟨_, exec_lampSideTest_due hlamp hphase hdue, ?_⟩
    simp only [bit_settle, hnolamp, hdone, hvdrv, hvgate, true_and]
    exact ⟨hregs, hmem, hrest⟩
  case firmware => exact fun _ _ _ _ => exec_firmwareStart_ok
  case bootCmd =>
    intro hrun hfree
    have hmeans {t u : State} (h : t = u) := settled_running_of_eq hrun h
    refine ⟨?none, ?complete, ?restart, ?confirm, ?revert, ?save, ?stage, ?storebd, ?storecor⟩
    case none => exact fun a ha hdl => hmeans (bootActivate_of_none hfree ha hdl)
    case complete => exact fun a d ha hdl hall => hmeans (bootActivate_of_complete hfree ha hdl hall)
    case restart =>
      intro a ha
      have hrestart := bootRestart_of_accepted hfree ha
      exact ⟨fun hpow => hmeans (hrestart.trans (if_pos hpow)),
        fun hhalt hready => hmeans (hrestart.trans (if_neg (not_or.2 ⟨hhalt, hready⟩)))⟩
    case confirm => exact fun a ha htrial => hmeans (bootConfirm_of_trial hfree ha htrial)
    case revert => exact fun a ha hcand hgood => hmeans (bootRevert_of_good hfree ha hcand hgood)
    case save =>
      intro a h l b ha htrial hpow hup hh hmagic hfits hread hok hver
      exact hmeans (bootSave_of_ok hfree ha htrial hpow hup hh hmagic hfits hread hok hver)
    case stage => exact fun a ha hpow hup => hmeans (bootStage_running hfree ha hpow hup)
    case storebd => exact fun a h l b ha hup hh hread => hmeans (bootStorebd_of_up hfree ha hup hh hread)
    case storecor =>
      intro a n l b ha hup hn hfits hread hok hmon
      exact hmeans (bootStorecor_of_ok hfree ha hup hn hfits hread hok hmon)
  case bootDone => exact fun _ _ => exec_bootCommandDone
  case download =>
    intro hrun hfree
    have hmeans {t u : State} (h : t = u) := settled_running_of_eq hrun h
    refine ⟨fun a ha hserved => ⟨?refused, ?opened⟩, ?piece, ?abort⟩
    case refused => exact fun r hopen => hmeans (bootDlOpen_of_error hfree hserved ha hopen)
    case opened => exact fun b hopen => hmeans (bootDlOpen_of_ok hfree hserved ha hopen)
    case piece =>
      intro a d i l ha hserved hdl hi hn hnew hl
      exact ⟨fun hcrc => hmeans (bootDlPiece_of_badCrc hfree ha hserved hdl hi.symm hn hnew hl hcrc),
        fun hcrc => hmeans (bootDlPiece_of_goodCrc hfree ha hserved hdl hi.symm hn hnew hl hcrc)⟩
    case abort =>
      rintro a d b ha hserved hdl rfl
      exact hmeans (bootDlAbort_of_some hfree hserved ha hdl)
  case programmed =>
    rintro i l b hpiece rfl
    exact ⟨exec_downloadPieceDone hpiece, exec_downloadPieceDone hpiece⟩
  case recovery =>
    intro q hrec
    refine ⟨?badCrc, settled_recoveryRow hrec rfl, ?baud, ?write, fun k => exec_recoveryCommit_ok hrec,
      fun m => exec_recoveryErase_refused hrec, exec_recoveryErase_keys hrec, fun o l => exec_recoveryWritebd_refused hrec,
      settled_recoveryRow hrec rfl⟩
    case badCrc =>
      rintro k (rfl | rfl)
      · exact ⟨_, 1, settled_recoveryRow_badCrc hrec, rfl, rfl⟩
      · exact ⟨_, 5, settled_recoveryRow_badCrc hrec, rfl, rfl⟩
    case baud =>
      rintro r b rfl hlo hhi
      exact exec_recoveryBaud_ok hrec hlo hhi
    case write =>
      rintro k i l b hk hi hl rfl
      exact exec_recoveryWrite_ok hrec hk hi hl

end Sys2Proof.Machine
end

section
/-! The block as a whole: every command ends in a settled state, what an idle step leaves, the unit without running firmware,
the reset state and the reference table of check values (O1-O4, O6, O7, O32). -/

namespace Sys2Proof.Machine

variable {s t u : State}

/-! ### The end of a command -/

/-- Every command of the table ends in the settled state of its meaning: none stops the unit. -/
theorem exec_settles (c : Instr) (s : State) : ∃ t, exec c s = settled t := by
  cases c <;> exact ⟨_, rfl⟩

theorem step_settles (s : State) : ∃ t, step s = settled t := by
  unfold step
  split
  · exact ⟨_, rfl⟩
  · exact exec_settles _ _

/-- Settles O3: whatever the step, what it ends in is brought to the canonical form. -/
theorem everyStepKeepsMemoryCanonical : Obligations.EveryStepKeepsMemoryCanonical := by
  intro s _
  obtain ⟨t, ht⟩ := step_settles s
  exact ⟨t.settle, ht, inv_settle t⟩

/-- Settles O1. -/
theorem stepRunsTheFrontCommand : Obligations.StepRunsTheFrontCommand := by
  intro c l s hpending
  simp only [step, hpending]

/-- Settles O4. -/
theorem resetMemoryIsCanonical : Obligations.ResetMemoryIsCanonical := ⟨rfl, rfl⟩

/-- Settles O7: each value is the reset column of the register's row. -/
theorem resetLeavesTheStatedValues : Obligations.ResetLeavesTheStatedValues := by
  unfold Obligations.ResetLeavesTheStatedValues
  decide +kernel

/-! ### The idle step (log entry 16) -/

/-- The idle unit's next wall time (R27, R34). -/
def TimeSt.nextWall (t : TimeSt) : Nat := (((t.wall : Int) + 2 ^ 32 + (t.acc + t.f) / 10 ^ 9) % (wMod : Int)).toNat

/-- A nanosecond passes: the time fields move on, and of the rest at most the level of PPS_OUT. -/
theorem tick_eq (hphase : s.phase ≠ .held) : ∃ p, s.tick = { s with
    now := s.now + 1, tm := { s.tm with wall := s.tm.nextWall, acc := (s.tm.acc + s.tm.f) % 10 ^ 9 }, pins := p } := by
  simp only [State.tick, hphase, if_false]
  split
  · exact ⟨_, rfl⟩
  · exact ⟨_, rfl⟩

/-- Settles O2. -/
theorem idleStepAdvancesTime : Obligations.IdleStepAdvancesTime := by
  intro s hpending hphase
  obtain ⟨p, hp⟩ := tick_eq hphase
  have hstep : step s = .next s.tick.settle := by simp only [step, hpending, settled_next]
  refine ⟨_, hstep, ?_⟩
  rw [hp]
  exact ⟨rfl, rfl, rfl, (sameMemory_of_mem rfl rfl).settle, hpending⟩

/-! ### Guards -/

theorem settled_of_guard {g : Bool} (hg : g = true) : settled (if g then t else s) = .next t.settle := by
  rw [if_pos hg, settled_next]

theorem settled_of_guard_eq {g : Bool} (hg : g = true) (h : t = u) : settled (if g then t else s) = .next u.settle :=
  h ▸ settled_of_guard hg

theorem settled_of_not_guard {g : Bool} (hg : g = false) : settled (if g then t else s) = .next s.settle := by
  rw [if_neg (Bool.eq_false_iff.1 hg), settled_next]

/-- Settles O6, by cases on the command: the guard of every one of them asks for running firmware first. -/
theorem commandsNeedRunningFirmware : Obligations.CommandsNeedRunningFirmware := by
  intro c s hrun hhost
  have hand (p : Bool) : (s.running && p) = false := by rw [hrun, Bool.false_and]
  have hand2 (p q : Bool) : (s.running && p && q) = false := by rw [hand, Bool.false_and]
  rcases hhost with hreg | rfl | rfl | rfl | rfl | ⟨a, v, rfl⟩ | ⟨v, rfl⟩
  case inl =>
    cases c with
    | lqCancel _ _ | cvuEnable _ | cvuDisable _ | storeset _ | eraseset _ | plcVacate _ | plcRestore _ | plcReplace
    | plcReclaim _ | plcReturn _ | rdnDrill _ | rdnClear | rdnResync | monStart | monStop | monArm | progLoad _
    | progUnload _ | armSet _ | disarm | laneRetrain _ | laneCal _ | laneIdle _ | laneWake _ | lanePrbsOn _
    | lanePrbsOff _ => exact settled_of_not_guard (hand _)
    | flowOpen _ | flowClose _ | stillFence _ _ _ => exact settled_of_not_guard (hand2 _ _)
    | servoAcquire | servoSlew | servoStep | servoHold | servoResume | ctxalloc _ | ctxfree _ | setdepth _ _ | flmPush _
    | gopen _ _ | gclose _ | gskip _ | armgeom | armdrv | lduDisarm | lcrProbe | probestop | shorttest | clrflt
    | bootActivate | bootRestart | bootConfirm | bootRevert | bootSave | bootStage _ | storebd | storecor | lqInsert _
    | memFreqChange _ | thrSpawn | thrKill _ | thrSignal _ | thrSetprio _ _ | trcClear | skdEnum _ _ | wcIssue | wcCancel
    | imgStart | imgStop | storemap | rescan _ | dlOpen | dlPiece | dlAbort | powerCommand _ | vcmd _ | stopEngine _
    | resumeEngine _ | stepEngine _ _ | clearSlot _ _ | engGate _ | engUngate _ | lutLoad _ _ _ _ | lutMark _ _ _ _
    | lutUnload _ _ _ | sinkCal => exact settled_of_not_guard hrun
    | _ => exact absurd rfl hreg
  all_goals exact settled_of_not_guard hrun

/-! ### The reference table of check values (R447) -/

/-- Settles O32: with the parameters of a model of the table the check is its CRC of nine bytes. -/
theorem checkValuesAgreeWithTheReferenceTable : Obligations.CheckValuesAgreeWithTheReferenceTable := by
  rintro s u l rfl
  refine ⟨?crc16, ?crc32c, ?crc64xz, ?badcfg⟩
  case crc16 =>
    intro hw hp hi hri hro hx
    rw [State.cvuCheck, hw, hp, hi, hri, hro, hx]
    decide +kernel
  case crc32c =>
    intro hw hp hi hri hro hx
    rw [State.cvuCheck, hw, hp, hi, hri, hro, hx]
    decide +kernel
  case crc64xz =>
    intro hw hp hi hri hro hx
    rw [State.cvuCheck, hw, hp, hi, hri, hro, hx]
    decide +kernel
  case badcfg =>
    intro hhead hbad
    have hcfg : s.cvuCfgOk u = false := by
      simp only [State.cvuCfgOk, decide_eq_false_iff_not]
      omega
    simp [State.cvuRefusal, hhead, hcfg]

end Sys2Proof.Machine
end

section
/-! Writes of single words by the host (R6, R9, R61, R123, R229, R428, R429, R435): the order in which a write is refused,
a plain register, a counter of a context record, a word of DRAM, and O8 and O9. -/

namespace Sys2Proof.Machine

variable {s : State} {a : Nat} {v : Word} {r : RegRow}

/-! ### The word written -/

theorem exec_registerWrite (hrun : s.running = true) (ha : a < 2 ^ 48) :
    exec (.registerWrite a v) s = .next (s.writeWord a v).settle := by
  have hexec : exec (.registerWrite a v) s = .next (s.writeWord (a % 2 ^ 48) v).settle := settled_running hrun
  rw [hexec, Nat.mod_eq_of_lt ha]

theorem writeWord_misaligned (h4 : a % 4 ≠ 0) : s.writeWord a v = s.answer rALIGN := by
  rw [State.writeWord, if_pos h4]

theorem writeWord_register (h4 : a % 4 = 0) (ha : a < 0x01000000) : s.writeWord a v = s.writeReg a v := by
  rw [State.writeWord, if_neg (not_not_intro h4), if_pos ha]

/-- Above the on-chip windows nothing is mapped outside DRAM's window (R123, R428). -/
theorem writeWord_unmapped (h4 : a % 4 = 0) (ha : 0x03000000 ≤ a) (hout : a < 0x1000000000 ∨ 0x2000000000 ≤ a) :
    s.writeWord a v = s.answer rNOADDR := by
  have hbase : dramBase = 0x1000000000 := rfl
  rw [State.writeWord, if_neg (not_not_intro h4), if_neg (by omega), if_neg (by omega), if_neg (by omega)]

theorem writeReg_noRow (hrow : rowAt a = none) : s.writeReg a v = s.answer rNOADDR := by
  simp only [State.writeReg, hrow]

theorem writeReg_unpowered (hrow : rowAt a = some r) (hpow : s.unpowered a = true) :
    s.writeReg a v = s.answer rUNPWR := by
  simp only [State.writeReg, hrow, hpow, if_true]

/-- A row with nothing to write, where the word holds no OV bit to clear and is none of the register-file window. -/
theorem writeReg_readOnly (hrow : rowAt a = some r) (hpow : s.unpowered a = false) (hkind : r.kind = .ro)
    (hpage : a < 0x140000 ∨ 0x180000 ≤ a) (hov : ctxOvWord a = false ∨ v.toNat.testBit 31 = false) :
    s.writeReg a v = s.answer rACCESS := by
  have hclear : (ctxOvWord a && v.toNat.testBit 31) = false := Bool.and_eq_false_iff.2 hov
  have hro : readOnly r a = true := by simp [readOnly, hkind]; omega
  simp [State.writeReg, hrow, hpow, hkind, hclear, hro]

/-- Settles O8, each refusal by the lemma of its step in the order of a write. -/
theorem writeRefusalsChangeNothing : Obligations.WriteRefusalsChangeNothing := by
  intro s a v hrun ha
  rw [exec_registerWrite hrun ha]
  refine ⟨?align, ?unmapped, ?noRow, ?unpowered, ?readOnly⟩
  case align =>
    intro h4
    rw [writeWord_misaligned h4]
  case unmapped =>
    intro h4 hlow hout
    rw [writeWord_unmapped h4 hlow hout]
  case noRow =>
    intro h4 hreg hrow
    rw [writeWord_register h4 hreg, writeReg_noRow hrow]
  case unpowered =>
    intro r h4 hreg hrow hpow
    rw [writeWord_register h4 hreg, writeReg_unpowered hrow hpow]
  case readOnly =>
    intro r h4 hreg hrow hpow hkind hpage hov
    rw [writeWord_register h4 hreg, writeReg_readOnly hrow hpow hkind hpage hov]

/-! ### Plain registers (R6, R9) -/

/-- Every word of the context records is a word of the one row CTX_REC, which is read-only (R229). -/
theorem rowAt_context (h4 : a % 4 = 0) (hlo : 0x200000 ≤ a) (hhi : a < 0x300000) :
    rowAt a = some ⟨0x200000, 1, 0x10000000000, 262144, 0x4, 1, .ro, 0x0, 0x0, 0x0, 0x0⟩ := by
  have hrows : rowsFor a = regsCTX := by
    simp (disch := omega) only [rowsFor, if_neg, if_pos]
  have hhit : hitRow a ⟨0x200000, 1, 0x10000000000, 262144, 0x4, 1, .ro, 0x0, 0x0, 0x0, 0x0⟩ = true := by
    simp only [hitRow, decide_eq_true_eq]
    omega
  rw [rowAt, hrows, regsCTX, List.find?_cons_of_pos hhit]

theorem ctxOvWord_of_rw (h4 : a % 4 = 0) (hrow : rowAt a = some r) (hkind : r.kind = .rw) : ctxOvWord a = false := by
  refine Bool.eq_false_iff.2 fun hov => ?_
  simp only [ctxOvWord, Bool.and_eq_true, decide_eq_true_eq] at hov
  rw [rowAt_context h4 hov.1.1 hov.1.2] at hrow
  cases hrow
  cases hkind

theorem writeReg_plain (h4 : a % 4 = 0) (hrow : rowAt a = some r) (hkind : r.kind = .rw) (hpow : s.unpowered a = false)
    (hrange : rangeBad s.head a v = false) : s.writeReg a v = s.writePlain r a v := by
  have hov := ctxOvWord_of_rw h4 hrow hkind
  have hrw : readOnly r a = false := by simp [readOnly, hkind]
  simp [State.writeReg, hrow, hpow, hkind, hov, hrw, hrange]

/-- Blocks whose plain registers have no rule of their own. -/
theorem writePlain_store
    (ha : a < 0x20000 ∨ (0x180000 ≤ a ∧ a < 0x300000) ∨ (0x500000 ≤ a ∧ a < 0x01000000)) :
    s.writePlain r a v = s.store r a v := by
  rcases ha with ha | ha | ha
  · rw [State.writePlain, if_pos ha]
  · simp (disch := omega) only [State.writePlain, if_neg, if_pos]
  · simp (disch := omega) only [State.writePlain, if_neg]

theorem onlyRegisters_wr (s : State) (a : Nat) (v : Word) : OnlyRegisters s (s.wr a v) [a] :=
  (OnlyRegisters.refl s _).wr v (List.mem_singleton.2 rfl)

/-! ### The OV bit of a counter of a context record (R61, R229) -/

theorem writeReg_contextOv (h4 : a % 4 = 0) (hlo : 0x200000 ≤ a) (hhi : a < 0x300000)
    (hword : a / 4 % 16 = 6 ∨ a / 4 % 16 = 8) (hpow : s.unpowered a = false) (hbit : v.toNat.testBit 31 = true) :
    s.writeReg a v = (s.clearCount (a - 4)).answer rOK := by
  have hov : ctxOvWord a = true := by
    simp only [ctxOvWord, Bool.and_eq_true, Bool.or_eq_true, decide_eq_true_eq]
    exact ⟨⟨hlo, hhi⟩, hword⟩
  simp [State.writeReg, rowAt_context h4 hlo hhi, hpow, hov, hbit]

/-- A counter cleared: both its words are zero, and no other register changes. -/
theorem clearCount_spec (s : State) (a : Nat) : (s.clearCount a).rd a = 0 ∧ (s.clearCount a).rd (a + 4) = 0 ∧
    OnlyRegisters s (s.clearCount a) [a, a + 4] := by
  refine ⟨?_, rd_wr_same _ _ _, ((OnlyRegisters.refl s _).wr 0 (by simp)).wr 0 (by simp)⟩
  rw [State.clearCount, rd_wr_ne _ _ (by omega), rd_wr_same]

/-! ### A word of DRAM (R123) -/

theorem ready_iff : s.ready = true ↔ s.phase = .firmware ∧ psREADY ≤ s.power := by
  simp only [State.ready, Bool.and_eq_true, decide_eq_true_eq]

theorem running_of_ready (h : s.ready = true) : s.running = true := by
  obtain ⟨hphase, hpower⟩ := ready_iff.1 h
  have hoff : s.power ≠ psOFF := Nat.ne_of_gt (Nat.lt_of_lt_of_le (by decide) hpower)
  simp [State.running, hphase, hoff]

/-- Only in STANDBY does a request wake a channel (R137). -/
theorem touchDram_ready (h : s.ready = true) (o : Nat) : s.touchDram o = s :=
  if_neg (Nat.ne_of_gt (Nat.lt_of_lt_of_le (by decide) (ready_iff.1 h).2))

theorem writeWord_dram {o : Nat} (hready : s.ready = true) (h4 : o % 4 = 0) (hup : s.dramUp = true) (ho : o < s.dramBytes)
    (hcap : s.dramBytes ≤ 0x1000000000) :
    s.writeWord (0x1000000000 + o) v = (s.dramWrite o (wordBytes v)).answer rOK := by
  have hok : s.dramRefusal o = 0 := by
    rw [State.dramRefusal, if_neg (by simp [hup]), if_neg (Nat.not_le.2 ho)]
  have hbase : dramBase = 0x1000000000 := rfl
  rw [State.writeWord, if_neg (by omega), if_neg (by omega), if_neg (by omega), if_pos (by omega), ← hbase, Nat.add_sub_cancel_left]
  simp only [hok, touchDram_ready hready]

theorem byte_dramWrite_outside {o x : Nat} {l : List Byte} (h : x < dramBase + o ∨ dramBase + o + l.length ≤ x) :
    (s.dramWrite o l).byte x = s.byte x := by
  rw [State.dramWrite, byte_countLines, byte_putBytes_outside _ _ _ h]

theorem byte_dramWrite_inside {o k : Nat} {l : List Byte} (h : k < l.length) :
    (s.dramWrite o l).byte (dramBase + o + k) = l.getD k 0 := by
  rw [State.dramWrite, byte_countLines, byte_putBytes_inside _ _ _ h]

/-- The bytes of a word, lowest first. -/
theorem wordBytes_getD {k : Nat} (h : k < 4) : (wordBytes v).getD k 0 = BitVec.ofNat 8 (v.toNat / 256 ^ k) := by
  match k, h with
  | 0, _ => simp [wordBytes]
  | 1, _ | 2, _ | 3, _ => rfl

/-- Settles O9: a plain register by its row, a word of DRAM by its four bytes, a context's counter by its OV bit. -/
theorem registerAndDramWritesTakeEffect : Obligations.RegisterAndDramWritesTakeEffect := by
  refine ⟨?plain, ?dram, ?counter⟩
  case plain =>
    intro s a v r hrun h4 hblock hrow hkind hpow hrange
    have hwrite : s.writeWord a v = s.store r a v := by
      rw [writeWord_register h4 (by omega), writeReg_plain h4 hrow hkind hpow hrange, writePlain_store hblock]
    obtain ⟨hregs, hmem, -⟩ := (onlyRegisters_wr s a (writeBits r.rw r.w1 (s.rd a) v)).settle
    refine ⟨_, exec_registerWrite hrun (by omega), ?_⟩
    rw [hwrite]
    exact ⟨rfl, rd_wr_same s a _, hregs, hmem, rfl⟩
  case dram =>
    intro s o v hready h4 hup ho hcap
    refine ⟨_, exec_registerWrite (running_of_ready hready) (by omega), ?_⟩
    rw [writeWord_dram hready h4 hup ho hcap]
    refine ⟨rfl, fun k hk => ?_, fun x hx => ?_⟩
    · rw [byte_settle, byte_answer, byte_dramWrite_inside hk, wordBytes_getD hk]
    · rw [byte_settle, byte_answer, byte_dramWrite_outside hx]
  case counter =>
    intro s a v hrun hpow h4 hlo hhi hword hbit
    have hwrite : s.writeWord a v = (s.clearCount (a - 4)).answer rOK := by
      rw [writeWord_register h4 (by omega), writeReg_contextOv h4 hlo hhi hword hpow hbit]
    obtain ⟨hlow, hhigh, honly⟩ := clearCount_spec s (a - 4)
    rw [show a - 4 + 4 = a by omega] at hhigh honly
    obtain ⟨hregs, hmem, -⟩ := honly.settle
    refine ⟨_, exec_registerWrite hrun (by omega), ?_⟩
    rw [hwrite]
    exact ⟨rfl, hhigh, hlow, hregs, hmem⟩

end Sys2Proof.Machine
end

section
/-! The servo and the time unit (R30, R33-R44, R58, R324): the servo commands that are accepted, a sample in LOCKED, the
events of the time unit, and O12, O13 and O14. -/

namespace Sys2Proof.Machine

variable {s t : State}

/-! ### Servo commands (R35, R40, R41) -/

theorem get_accepted_tmu (s : State) (v : Nat) {f : Fld} (h : f.reg ≠ TMU_CMD) :
    (s.accepted TMU_CMD v).get f = s.get f := get_accepted_ne s v h

theorem servo_accepted_tmu (s : State) (v : Nat) : (s.accepted TMU_CMD v).servo = s.servo :=
  get_accepted_tmu s v (by decide)

theorem gridRuns_accepted_tmu (s : State) (v : Nat) : (s.accepted TMU_CMD v).gridRuns = s.gridRuns := by
  rw [State.gridRuns, State.gridRuns, servo_accepted_tmu]

theorem remedy_accepted_tmu (s : State) (v : Nat) : (s.accepted TMU_CMD v).remedy = s.remedy := by
  rw [State.remedy, State.remedy, bit_accepted_ne s v (by decide), bit_accepted_ne s v (by decide)]

theorem grid_accepted_tmu (s : State) (v : Nat) : (s.accepted TMU_CMD v).grid = s.grid := by
  simp (disch := decide) only [State.grid, get_accepted_tmu]

theorem tmuCommand_taken {op : Nat} {ok : State → Bool} {f : State → State} (hfree : s.busy TMU_CMD = false)
    (hok : ok (s.accepted TMU_CMD op) = true) :
    s.tmuCommand op ok f = ((s.accepted TMU_CMD op).servoOp f).setStat TMU_CMD stDONE := by
  rw [tmuCommand_accepted hfree, if_pos hok]

theorem tmuCommand_refused {op : Nat} {ok : State → Bool} {f : State → State} (hfree : s.busy TMU_CMD = false)
    (hok : ok (s.accepted TMU_CMD op) = false) :
    s.tmuCommand op ok f = (s.accepted TMU_CMD op).setStat TMU_CMD stREFUSED := by
  rw [tmuCommand_accepted hfree, if_neg (Bool.eq_false_iff.1 hok)]

/-- The step that STEP leaves pending is made of the last sample and the grid, which the command word is no part of. -/
theorem servoOp_step_accepted (s : State) : (s.accepted TMU_CMD 3).servoOp (fun x =>
      (x.tmSet fun t => { t with step := some (-t.e, frameAfter x.grid t.wall), stepAnn := false }).set
        TMU_SRV_STAT_STEPPEND 1) =
    (s.accepted TMU_CMD 3).servoOp fun x =>
      (x.tmSet fun t => { t with step := some (-s.tm.e, frameAfter s.grid s.tm.wall), stepAnn := false }).set
        TMU_SRV_STAT_STEPPEND 1 := by
  simp only [State.servoOp, State.tmSet, grid_accepted_tmu]
  rfl

/-- Settles O12: each command's condition does not read the command register, so it holds of the state accepted. -/
theorem servoCommandsAct : Obligations.ServoCommandsAct := by
  intro s hrun hfree
  refine ⟨?slew, ?step, ?hold, ?resume, ?refused, ?holdRefused⟩
  case slew =>
    intro hservo hremedy hlimit
    exact settled_running_of_eq hrun (tmuCommand_taken hfree (by
      simp [servo_accepted_tmu, remedy_accepted_tmu, get_accepted_tmu s 2 (f := TMU_SRV_CFG_SLEW) (by decide), hservo,
        hremedy, hlimit]))
  case step =>
    intro hservo hremedy
    rw [← servoOp_step_accepted]
    exact settled_running_of_eq hrun (tmuCommand_taken hfree (by
      simp [servo_accepted_tmu, remedy_accepted_tmu, hservo, hremedy]))
  case hold =>
    intro hgrid
    exact settled_running_of_eq hrun (tmuCommand_taken hfree ((gridRuns_accepted_tmu s 5).trans hgrid))
  case resume =>
    intro hservo hheld
    have hheld' : (s.accepted TMU_CMD 6).bit TMU_SRV_STAT_HELD = true := (bit_accepted_ne s 6 (by decide)).trans hheld
    exact settled_running_of_eq hrun (tmuCommand_taken hfree (by simp [servo_accepted_tmu, hservo, hheld']))
  case refused =>
    intro hservo
    exact ⟨settled_running_of_eq hrun (tmuCommand_refused hfree (by simp [servo_accepted_tmu, hservo])),
      settled_running_of_eq hrun (tmuCommand_refused hfree (by simp [servo_accepted_tmu, hservo]))⟩
  case holdRefused =>
    intro hgrid
    exact settled_running_of_eq hrun (tmuCommand_refused hfree ((gridRuns_accepted_tmu s 5).trans hgrid))

/-! ### A sample in LOCKED (R33-R35) -/

/-- A measurement writes TMU_SRV_OFS and the sample's fields, and may draw a free value. -/
theorem measure_eq (s : State) (e : Int) : ∃ v n, s.measure e = (State.tmSet { s with fresh := n } fun t =>
    { t with e := e, lastSample := s.now }).wr TMU_SRV_OFS v := by
  simp only [State.measure, State.offsetWord]
  split
  · exact ⟨_, s.fresh, rfl⟩
  · exact ⟨_, s.fresh + 1, rfl⟩

/-- A sample within the limit moves the integrator and sets the correction (R34). -/
theorem feed_within {e i u lim : Int} (hi : i = s.tm.i + roundDiv ((s.rd TMU_SRV_KI).toNat * e) (2 ^ 24))
    (hu : u = -(roundDiv ((s.rd TMU_SRV_KP).toNat * e) (2 ^ 24) + i)) (hlim : u.natAbs ≤ lim) :
    s.feed e lim = (s.tmSet fun t => { t with i := i }).setFreq u := by
  rw [State.feed]
  simp only [← hi, ← hu]
  rw [if_neg (by omega)]

/-- A small sample in LOCKED that nothing holds up is fed to the servo (R35). -/
theorem useSample_locked {e : Int} (hservo : s.servo = svLOCKED) (hheld : s.bit TMU_SRV_STAT_HELD = false)
    (hslew : s.tm.slewPeer = false) (hsmall : e.natAbs ≤ s.get TMU_SRV_CFG_JTHR * wNs) :
    s.useSample e = (s.tmSet fun t => { t with refCnt := 0 }).feed e fMax := by
  have hbig : decide (s.get TMU_SRV_CFG_JTHR * wNs < e.natAbs) = false := decide_eq_false (Nat.not_lt.2 hsmall)
  have hservo' : (s.tmSet fun t => { t with refCnt := 0 }).servo = svLOCKED := hservo
  have hreject : svLOCKED ≠ svREJECT := by decide
  have hholdover : svLOCKED ≠ svHOLDOVER := by decide
  simp [State.useSample, hservo, hheld, hslew, hbig, hservo', hreject, hholdover]

/-- An operation that leaves TMU_SRV_STAT as it is notifies nothing. -/
theorem servoOp_of_stat_eq {f : State → State} (h : (f s).rd TMU_SRV_STAT = s.rd TMU_SRV_STAT) : s.servoOp f = f s := by
  have hnew (w : Word) : w &&& ~~~ w = 0 := by simp
  simp only [State.servoOp, State.servoNotify, h]
  rw [if_neg (by simp [hnew])]

/-- The state that a fed sample leaves: what is measured, the integrator and the correction. -/
def State.locked (s : State) (v : Word) (n : Nat) (e i u : Int) : State :=
  ((((State.tmSet { s with fresh := n } fun t => { t with e := e, lastSample := s.now }).wr TMU_SRV_OFS v).tmSet fun t =>
    { t with refCnt := 0 }).tmSet fun t => { t with i := i }).setFreq u

theorem locked_spec (s : State) (v : Word) (n : Nat) (e i u : Int) : (s.locked v n e i u).servo = s.servo ∧
    SameRegisters s (s.locked v n e i u) [TMU_SRV_OFS, TMU_SRV_FREQ] ∧ SameMemory s (s.locked v n e i u) := by
  have hregs : SameRegisters s (s.locked v n e i u) [TMU_SRV_OFS, TMU_SRV_FREQ] :=
    have hofs : SameRegisters s (({ s with fresh := n } : State).wr TMU_SRV_OFS v) [TMU_SRV_OFS, TMU_SRV_FREQ] :=
      .wr (t := { s with fresh := n }) (fun _ _ => rfl) v (by decide)
    hofs.wr _ (by decide)
  exact ⟨congrArg (getBits · 0 3) (hregs TMU_SRV_STAT (by decide)), hregs, sameMemory_of_mem rfl rfl⟩

theorem sampleIn_locked {e i u : Int} (hservo : s.servo = svLOCKED) (hskip : s.tm.skip = 0)
    (hheld : s.bit TMU_SRV_STAT_HELD = false) (hslew : s.tm.slewPeer = false)
    (hsmall : e.natAbs ≤ s.get TMU_SRV_CFG_JTHR * wNs)
    (hi : i = s.tm.i + roundDiv ((s.rd TMU_SRV_KI).toNat * e) (2 ^ 24))
    (hu : u = -(roundDiv ((s.rd TMU_SRV_KP).toNat * e) (2 ^ 24) + i)) (hlim : u.natAbs ≤ fMax) :
    ∃ v n, s.sampleIn e = s.locked v n e i u := by
  obtain ⟨v, n, hm⟩ := measure_eq s e
  have hrd {a : Nat} (ha : a ≠ TMU_SRV_OFS) : (s.measure e).rd a = s.rd a := hm ▸ rd_wr_ne _ v ha
  have hget {f : Fld} (hf : f.reg ≠ TMU_SRV_OFS) : (s.measure e).get f = s.get f := by rw [State.get, State.get, hrd hf]
  have huse : (s.measure e).useSample e = ((s.measure e).tmSet fun t => { t with refCnt := 0 }).feed e fMax :=
    useSample_locked ((hget (by decide)).trans hservo) (by rw [State.bit, hget (by decide)]; exact hheld)
      (hm ▸ hslew) ((hget (f := TMU_SRV_CFG_JTHR) (by decide)).symm ▸ hsmall)
  have hfeed : ((s.measure e).tmSet fun t => { t with refCnt := 0 }).feed e fMax = s.locked v n e i u := by
    have hinteg : (s.measure e).tm.i = s.tm.i := by rw [hm]; rfl
    rw [← hinteg, ← hrd (a := TMU_SRV_KI) (by decide)] at hi
    rw [← hrd (a := TMU_SRV_KP) (by decide)] at hu
    refine (feed_within (s := (s.measure e).tmSet fun t => { t with refCnt := 0 }) hi hu hlim).trans ?_
    rw [hm]
    rfl
  have hop : (if 0 < (s.measure e).tm.skip then (s.measure e).tmSet fun t => { t with skip := t.skip - 1 }
      else (s.measure e).useSample e) = s.locked v n e i u := by
    have hskip' : (s.measure e).tm.skip = 0 := hm ▸ hskip
    rw [if_neg (by omega), huse, hfeed]
  refine ⟨v, n, ?_⟩
  rw [State.sampleIn, servoOp_of_stat_eq (f := fun x => if 0 < (x.measure e).tm.skip
    then (x.measure e).tmSet fun t => { t with skip := t.skip - 1 } else (x.measure e).useSample e)]
  · exact hop
  · rw [hop]
    exact (locked_spec s v n e i u).2.1 _ (by decide)

/-- Settles O13: the exchange gives the sample, and the sample is fed. -/
theorem sampleInLockedFeedsTheServo : Obligations.SampleInLockedFeedsTheServo := by
  intro s t1 t2 t3 t4 cs cd e i u hhead hsamples hsel hsrc hservo hskip hheld hslew he hsmall hi hu hlim
  let q := s.tmSet fun t =>
    { t with dRaw := (((t2 - t1 - cs) + (t4 - t3 - cd)) :: t.dRaw).take (2 ^ min 6 (s.get TMU_PTP_CFG_DLYAVG)) }
  have hsample : s.ptpSample t1 t2 t3 t4 cs cd = q.sampleIn e := by
    have hsrc' : q.get TMU_SRV_STAT_SRC = srcPTP := hsrc
    rw [State.ptpSample, he]
    exact if_pos hsrc'
  obtain ⟨v, n, hq⟩ : ∃ v n, q.sampleIn e = q.locked v n e i u :=
    sampleIn_locked (s := q) hservo hskip hheld hslew hsmall hi hu hlim
  obtain ⟨hserv, hregs, hmem⟩ := locked_spec q v n e i u
  refine ⟨_, settled_of_guard_eq (by simp [hhead, hsamples, hsel]) (hsample.trans hq), rfl, rfl, rfl, rfl, rfl, rfl,
    hserv.trans hservo, hregs, hmem.settle⟩

/-! ### Events of the time unit -/

/-- A step that was commanded here changes wall time at its effective time (R41). -/
theorem exec_stepExecute_due {d : Int} {w : Nat} (hstep : s.tm.step = some (d, w)) (hrun : s.running = true)
    (hdue : w ≤ s.tm.wall) : exec .stepExecute s = .next (s.stepWall d (!s.tm.stepAnn)).settle := by
  change execStepExecute s = _
  simp [execStepExecute, hstep, hrun, hdue, settled_next]

/-- Settles O14: each event's guard is its hypotheses. -/
theorem timeEventsAct : Obligations.TimeEventsAct := by
  intro s
  refine ⟨?announce, ?timeout, ?step, ?peer, ?source, ?pps⟩
  case announce =>
    intro port gm rank log hhead hsamples hport hen hlo hhi
    exact settled_of_guard (by simp [hhead, hsamples, hport, hen, hlo, hhi])
  case timeout =>
    intro hsamples hservo hdue
    exact settled_of_guard (by simp [hsamples, hservo, hdue])
  case step =>
    intro d w hstep hrun hdue r q hcmd
    have hwall : s.stepWall d (!s.tm.stepAnn) = q.lqSweep q.lqPending.length := by
      rw [hcmd, State.stepWall]
      simp only [Bool.not_false, Bool.true_and, decide_eq_true_eq]
      rfl
    rw [exec_stepExecute_due hstep hrun hdue, hwall]
  case peer =>
    intro hhead hsamples hsrc hdue
    exact settled_of_guard (by simp [hhead, hsamples, hsrc, hdue])
  case source =>
    intro hsamples hhead hdn hup hheard hlate
    exact settled_of_guard (by simp [hsamples, hhead, hdn, hup, hheard, hlate])
  case pps =>
    intro hrun hen hgrid hnew hdue
    exact settled_of_guard (by simpa [hrun, hen, hgrid, hnew] using hdue)

end Sys2Proof.Machine
end

section
/-! The due entry of a launch queue (R36, R51, R53, R55, R371, R401, R549) and TIM frames (R45, R46, R294): O16 and O17. -/

namespace Sys2Proof.Machine

variable {s : State}

/-! ### The due entry (R55) -/

/-- A row of the launch queues carries out the entry that executes next, once it is due and of the row's action. -/
theorem lqRun_due {k a : Nat} (hrun : s.running = true) (hleast : s.lqLeast = some k) (hdue : s.lqTime k ≤ s.tm.wall)
    (haction : lqAction (s.lqWord k 3) = a) : s.lqRun a = s.lqExecute k 2 := by
  simp [State.lqRun, hleast, hrun, hdue, haction]

/-- An entry executes unless it is of queue 0 while the slot grid does not run (R36). -/
theorem lqExecute_effect {k st : Nat} (h : s.gridRuns = true ∨ 256 ≤ k) : s.lqExecute k st =
    (s.lqClose k st).lqEffect (lqAction (s.lqWord k 3)) (s.lqWord k 2) (s.lqTime k) := by
  rw [State.lqExecute, if_neg]
  rintro ⟨hqueue, hgrid⟩
  rcases h with h | h
  · simp [h] at hgrid
  · omega

theorem lqExecute_discards {k st : Nat} (hgrid : s.gridRuns = false) (hk : k < 256) :
    s.lqExecute k st = s.lqDiscard k :=
  if_pos ⟨Nat.div_eq_of_lt hk, by simp [hgrid]⟩

/-- The due entry's effect, by its action. -/
theorem lqRun_effect {k a : Nat} (hrun : s.running = true) (hleast : s.lqLeast = some k) (hdue : s.lqTime k ≤ s.tm.wall)
    (haction : lqAction (s.lqWord k 3) = a) (h : s.gridRuns = true ∨ 256 ≤ k) :
    s.lqRun a = (s.lqClose k 2).lqEffect a (s.lqWord k 2) (s.lqTime k) := by
  rw [lqRun_due hrun hleast hdue haction, lqExecute_effect h, haction]

/-! ### Effects (R53) -/

theorem rampAction_taken {arg : Nat} (hi : arg / 16 % 4096 < 64) (hvalid : s.bit (LPE_TGT_W0_VALID (arg / 16 % 4096)) = true)
    (hch : s.get (LPE_TGT_W0_CH (arg / 16 % 4096)) = arg % 16) : s.rampAction arg =
      s.setLpeChan (arg % 16) { s.lpeChan (arg % 16) with ramp := some (arg / 16 % 4096) } :=
  if_pos (by simp [hi, hvalid, hch])

theorem calSwitch_pending (hpend : s.bit LCR_SWITCH_PEND = true) : s.calSwitch =
    ((s.selectSet (s.get LCR_SWITCH_NEXTSET)).set LCR_SWITCH_PEND 0).putWord (selBase + 8)
      (BitVec.ofNat 32 ((s.selectSet (s.get LCR_SWITCH_NEXTSET)).get LCR_SWITCH_SEQ)) :=
  if_neg (by simp [hpend])

theorem exec_gridTakeEffect_due {g : GridSet} {j : Nat} (hpend : s.tm.gridPend = some (g, j)) (hrun : s.running = true)
    (hgrid : s.gridRuns = true) (hdue : launchTime g j ≤ s.tm.wall) :
    exec .gridTakeEffect s = .next (s.takeNewGrid g j).settle := by
  change execGridTakeEffect s = _
  simp [execGridTakeEffect, hpend, hrun, hgrid, hdue, settled_next]

section Effects

variable (s : State) (arg w : Nat)

theorem lqEffect_flip : s.lqEffect aFLIP arg w = s.flipAction arg w := if_pos rfl

theorem lqEffect_phase : s.lqEffect aPHASE arg w = s.phaseAction arg w := by
  simp [State.lqEffect, aPHASE, aFLIP]

theorem lqEffect_grid : s.lqEffect aGRID arg w = s.gridAction arg w := by
  simp [State.lqEffect, aGRID, aPHASE, aFLIP]

theorem lqEffect_ramp : s.lqEffect aRAMP arg w = s.rampAction arg := by
  simp [State.lqEffect, aRAMP, aGRID, aPHASE, aFLIP]

theorem lqEffect_mode : s.lqEffect aLPEMODE arg w = s.modeAction arg := by
  simp [State.lqEffect, aLPEMODE, aRAMP, aGRID, aPHASE, aFLIP]

theorem lqEffect_calset : s.lqEffect aCALSET arg w = s.calSwitch := by
  simp [State.lqEffect, aCALSET, aLPEMODE, aRAMP, aGRID, aPHASE, aFLIP]

theorem lqEffect_mclk : s.lqEffect aMCLK arg w = s.setMclk (arg % 2) (arg / 2 % 16) := by
  simp [State.lqEffect, aMCLK, aCALSET, aLPEMODE, aRAMP, aGRID, aPHASE, aFLIP]

theorem lqEffect_pin : s.lqEffect aPIN arg w = s.pinAction arg := by
  simp [State.lqEffect, aPIN, aMCLK, aCALSET, aLPEMODE, aRAMP, aGRID, aPHASE, aFLIP]

theorem lqEffect_mark : s.lqEffect aMARK arg w = s.trace0 0x28 6 arg := by
  simp [State.lqEffect, aMARK, aPIN, aMCLK, aCALSET, aLPEMODE, aRAMP, aGRID, aPHASE, aFLIP]

end Effects

/-- A due row of action `a` ends in what `lqEffect` makes of the closed entry. -/
theorem settled_lqRun {k a : Nat} {t : State} (hrun : s.running = true) (hleast : s.lqLeast = some k)
    (hdue : s.lqTime k ≤ s.tm.wall) (haction : lqAction (s.lqWord k 3) = a) (h : s.gridRuns = true ∨ 256 ≤ k)
    (ht : (s.lqClose k 2).lqEffect a (s.lqWord k 2) (s.lqTime k) = t) : settled (s.lqRun a) = .next t.settle := by
  rw [lqRun_effect hrun hleast hdue haction h, ht, settled_next]

/-- Settles O16: the row's effect is that of its action; an entry of queue 0 without a slot grid is discarded. -/
theorem dueQueueEntriesExecute : Obligations.DueQueueEntriesExecute := by
  intro s k arg w hrun hleast harg hw hdue
  subst harg hw
  have run {a : Nat} {t : State} := settled_lqRun (a := a) (t := t) hrun hleast hdue
  refine ⟨?flip, ?phase, ?grid, ?discard, ?ramp, ?mode, ?calset, ?mclk, ?pin, ?mark, ?takes⟩
  case flip => exact fun haction hgrid => run haction (.inl hgrid) (lqEffect_flip _ _ _)
  case phase => exact fun haction hgrid => run haction (.inl hgrid) (lqEffect_phase _ _ _)
  case grid => exact fun haction hgrid => run haction (.inl hgrid) (lqEffect_grid _ _ _)
  case discard =>
    exact fun haction hgrid hk =>
      congrArg settled ((lqRun_due hrun hleast hdue haction).trans (lqExecute_discards hgrid hk))
  case ramp =>
    exact fun haction hk hi hvalid hch =>
      run haction (.inr hk) ((lqEffect_ramp _ _ _).trans (rampAction_taken hi hvalid hch))
  case mode => exact fun haction hk hmode => run haction (.inr hk) ((lqEffect_mode _ _ _).trans (if_pos hmode))
  case calset =>
    exact fun haction hk hpend => run haction (.inr hk) ((lqEffect_calset _ _ _).trans (calSwitch_pending hpend))
  case mclk => exact fun haction hk => run haction (.inr hk) (lqEffect_mclk _ _ _)
  case pin => exact fun haction hk => run haction (.inr hk) (lqEffect_pin _ _ _)
  case mark => exact fun haction hk => run haction (.inr hk) (lqEffect_mark _ _ _)
  case takes => exact fun g j hpend hgrid hj => exec_gridTakeEffect_due hpend hrun hgrid hj

/-! ### TIM frames (R45, R46, R294) -/

section TimFrames

variable {p : Nat} {i : RxItem} {r : State}

theorem exec_timSyncRx_taken (hsamples : s.samples = true) (hp : p < s.portCount)
    (htake : s.takeRx p Frame.isSync = some (i, r)) :
    exec (.timSyncRx p) s = .next (if r.head then r.peerSync i else r.tileSync p i).settle := by
  change execTimSyncRx p s = _
  simp [execTimSyncRx, hsamples, hp, htake, settled_next]

theorem exec_timPdlyreqSend_due (hport : s.delayPort = some p) (hsamples : s.samples = true) (hactive : s.active p = true)
    (hdue : s.tm.nextPdly ≤ s.now) : exec .timPdlyreqSend s = .next ((s.tmSet fun t =>
      { t with timCnt := t.timCnt + 1, nextPdly := s.now + 10 ^ 6 * 2 ^ s.get TMU_TIM_PDLY }).send p
        (pdlyFrame s.srcAddr 1 (s.tm.timCnt % 2 ^ 16) (zeros 32))).settle := by
  change execTimPdlyreqSend s = _
  simp [execTimPdlyreqSend, hport, hsamples, hactive, hdue, settled_next]

theorem exec_timPdlyreqRx_taken (hrun : s.running = true) (hp : p < s.portCount)
    (htake : s.takeRx p (isPdly 1) = some (i, r)) : exec (.timPdlyreqRx p) s =
      .next (r.send p (pdlyFrame r.srcAddr 2 (i.f.fld 11 2) (stampBytes i.at0 ++ zeros 20))).settle := by
  change execTimPdlyreqRx p s = _
  simp [execTimPdlyreqRx, hrun, hp, htake, settled_next]

theorem exec_timPdlyrspRx_taken (hsamples : s.samples = true) (hp : p < s.portCount)
    (htake : s.takeRx p (isPdly 2) = some (i, r)) (hport : r.delayPort = some p)
    (hid : r.tm.pdlyId = i.f.fld 11 2 + 1) : exec (.timPdlyrspRx p) s =
      .next (r.takeDelay (linkDelay r.tm.pdlyT1 (stampAt i.f.pay 0) (stampAt i.f.pay 12) i.at0)).settle := by
  change execTimPdlyrspRx p s = _
  simp [execTimPdlyrspRx, hsamples, hp, htake, hport, hid, settled_next]

end TimFrames

/-- Settles O17. -/
theorem timFramesAct : Obligations.TimFramesAct := by
  intro s
  refine ⟨?beacons, ?syncRx, ?reqSend, ?reqRx, ?rspRx⟩
  case beacons => exact fun hhead hready hdue => settled_of_guard (by simp [hhead, hready, hdue])
  case syncRx => exact fun p i r hsamples hp htake => exec_timSyncRx_taken hsamples hp htake
  case reqSend => exact fun p hport hsamples hactive hdue => exec_timPdlyreqSend_due hport hsamples hactive hdue
  case reqRx => exact fun p i r hrun hp htake => exec_timPdlyreqRx_taken hrun hp htake
  case rspRx => exact fun p i r hsamples hp htake hport hid => exec_timPdlyrspRx_taken hsamples hp htake hport hid

end Sys2Proof.Machine
end

section
/-! Pacing and commits (R266-R274) and the placement commands (R265, R280): O18, O19 and O21. -/

namespace Sys2Proof.Machine

variable {s : State}

/-! ### The life of a slot (R266, R270, R271) -/

theorem postNow_next {j : Nat} (hnext : s.cmp.next = some j) :
    s.postNow = s.flushWait.tryPost (slotAt s.grid s.tm.wall + s.leadN + 2 - j) := by
  simp only [State.postNow, hnext]

theorem slotComplete_done {r : SlotRun} (hr : s.flushWait.composing = some r) (hdone : s.flushWait.runDone r = true) :
    s.slotComplete = (s.flushWait.completeRun r true).postNow := by
  simp only [State.slotComplete, hr, hdone, if_true]

theorem exec_slotAbandon_due {r : SlotRun} (hhead : s.head = true) (hready : s.ready = true) (hr : s.composing = some r)
    (hdue : launchTime s.grid (r.j + 1) ≤ s.tm.wall) (hopen : s.runDone r = false) :
    exec .slotAbandon s = .next ((s.slotAbandon r).postNow).settle := by
  change execSlotAbandon s = _
  simp [execSlotAbandon, hr, hhead, hready, hdue, hopen, settled_next]

theorem commitDeadline_passed {r : SlotRun} {l : List SlotRun} (hopen : s.openRuns = r :: l)
    (hlate : s.deadline r.j < s.tm.wall) (hwall : s.wallCmt = false) : s.commitDeadline = s.withhold r := by
  simp [State.commitDeadline, hopen, hwall, hlate, Nat.lt_asymm hlate]

theorem sectionCommit_met {r : SlotRun} (hwall : s.wallCmt = false)
    (hr : s.openRuns.find? (fun r => s.runReady r && decide (s.tm.wall ≤ s.deadline r.j)) = some r) :
    s.sectionCommit = s.sendCommit r false := by
  have hcond (x : SlotRun) : (s.runReady x && decide (s.tm.wall ≤ s.deadline x.j) && (!s.wallCmt || s.decision x.j = some true)) =
      (s.runReady x && decide (s.tm.wall ≤ s.deadline x.j)) := by simp [hwall]
  simp only [State.sectionCommit, hcond, hr]
  rw [hwall]

/-- Settles O18. -/
theorem pacingPostsCompletesAndCommits : Obligations.PacingPostsCompletesAndCommits := by
  intro s hhead hready
  have hguard : (s.head && s.ready) = true := by rw [hhead, hready]; rfl
  refine ⟨?post, ?complete, ?abandon, ?deadline, ?commit⟩
  case post => exact fun j hgrid hnext => settled_of_guard_eq (by rw [hguard, hgrid]; rfl) (postNow_next hnext)
  case complete => exact fun r hr hdone => settled_of_guard_eq hguard (slotComplete_done hr hdone)
  case abandon => exact fun r hr hdue hopen => exec_slotAbandon_due hhead hready hr hdue hopen
  case deadline => exact fun r l hopen hlate hwall => settled_of_guard_eq hguard (commitDeadline_passed hopen hlate hwall)
  case commit => exact fun r hwall hr => settled_of_guard_eq hguard (sectionCommit_met hwall hr)

/-! ### Wall decisions (R272-R274) -/

section WallDecisions

variable {j : Nat}

theorem wallReady_ready {r : SlotRun} (hj : j = nextInStep s.cmp.told (s.readySlot s.tm.wall))
    (hr : s.cmp.slots.find? (fun r => r.j = j) = some r) (hready : s.runReady r = true) (hdue : s.tm.wall ≤ s.readyDue j) :
    s.wallReady = s.tellReady j true := by
  simp [State.wallReady, ← hj, hr, hready, hdue]

theorem wallReady_notReady (hj : j = nextInStep s.cmp.told (s.readySlot s.tm.wall))
    (hr : s.cmp.slots.find? (fun r => r.j = j) = none) (hdue : s.readyDue j ≤ s.tm.wall) :
    s.wallReady = s.tellReady j false := by
  simp [State.wallReady, ← hj, hr, hdue]

theorem wallDecideNext_due (hj : j = nextInStep s.cmp.decided (s.readySlot (s.tm.wall - 25000 * wNs)))
    (hdue : s.readyDue j + 25000 * wNs ≤ s.tm.wall) : s.wallDecideNext = s.wallDecide j := by
  simp only [State.wallDecideNext, ← hj, hdue, if_true]

variable {p : Nat} {i : RxItem} {r : State}

theorem exec_wallrdyRx_taken (hrun : s.running = true) (hhead : s.head = true) (hp : p < 16)
    (htake : s.takeRx p (isSvc vWALLRDY) = some (i, r)) : exec (.wallrdyRx p) s = .next (r.noteReady (numAt (svcPay i.f) 0 2)
      (numAt (svcPay i.f) 4 2 / 1024) (numAt (svcPay i.f) 2 1 = 1)).settle := by
  change execWallrdyRx p s = _
  simp [execWallrdyRx, hrun, hhead, hp, htake, settled_next]

theorem exec_walldecRx_taken (hrun : s.running = true) (hhead : s.head = true) (hp : p < 16)
    (htake : s.takeRx p (isSvc vWALLDEC) = some (i, r)) : exec (.walldecRx p) s =
      .next (r.takeDecision (numAt (svcPay i.f) 0 2) (numAt (svcPay i.f) 2 1 = 1)).settle := by
  change execWalldecRx p s = _
  simp [execWalldecRx, hrun, hhead, hp, htake, settled_next]

/-- A decision known already changes nothing. -/
theorem takeDecision_known {q : Nat} {commit : Bool} (h : s.cmp.decs.any (fun d => d.1 = q) = true) :
    s.takeDecision q commit = s := if_pos h

/-- The first decision for a sequence is recorded; an abort is counted. -/
theorem takeDecision_new {q : Nat} {commit : Bool} (h : s.cmp.decs.any (fun d => d.1 = q) = false) :
    s.takeDecision q commit =
      if commit then (s.set CMP_PACE_STAT_WALLOUT 0).cmpSet fun k => { k with decs := ((q, commit) :: k.decs).take 16 }
      else ((s.set CMP_PACE_STAT_WALLOUT 0).cmpSet fun k => { k with decs := ((q, commit) :: k.decs).take 16 }).bump
        CMP_PACE_WALLHOLD := by
  rw [State.takeDecision, if_neg (by simp [h])]

end WallDecisions

/-- Settles O19. -/
theorem wallCommitMessagesAreKept : Obligations.WallCommitMessagesAreKept := by
  intro s hhead
  refine ⟨?told, ?decide, ?rdyRx, ?decRx⟩
  case told =>
    intro hready hgrid hwall
    have hguard : (s.head && s.ready && s.gridRuns && s.wallCmt) = true := by rw [hhead, hready, hgrid, hwall]; rfl
    exact ⟨fun r hr hslot hdue => settled_of_guard_eq hguard (wallReady_ready rfl hr hslot hdue),
      fun hr hdue => settled_of_guard_eq hguard (wallReady_notReady rfl hr hdue)⟩
  case decide =>
    exact fun hready hgrid hwall href hdue =>
      settled_of_guard_eq (by simp [hhead, hready, hgrid, hwall, href]) (wallDecideNext_due rfl hdue)
  case rdyRx => exact fun p i r hrun hp htake => exec_wallrdyRx_taken hrun hhead hp htake
  case decRx =>
    intro p i r hrun hp htake
    rw [exec_walldecRx_taken hrun hhead hp htake]
    refine ⟨fun hknown => ?_, fun hnew => ?_⟩
    · rw [takeDecision_known hknown]
    · rw [takeDecision_new hnew]
      simp only [decide_eq_true_eq]

/-! ### Placement commands (R265, R280) -/

section Placement

variable {op e t : Nat} {f : State → State}

theorem plcCommand_engine (hfree : s.busy CMP_PLC_CMD = false) (he : e < 64) :
    s.plcCommand op e 0 f = f (s.accepted CMP_PLC_CMD (op + 16 * e)) := by
  rw [State.plcCommand, command_accepted hfree, Nat.mod_eq_of_lt he, Nat.zero_mod, Nat.mul_zero, Nat.add_zero]

theorem plcCommand_entry (hfree : s.busy CMP_PLC_CMD = false) (ht : t < 1024) :
    s.plcCommand op 0 t f = f (s.accepted CMP_PLC_CMD (op + 1024 * t)) := by
  rw [State.plcCommand, command_accepted hfree, Nat.mod_eq_of_lt ht, Nat.zero_mod, Nat.mul_zero, Nat.add_zero]

theorem cmp_accepted (s : State) (a v : Nat) : (s.accepted a v).cmp = s.cmp := rfl

theorem power_accepted_plc (s : State) (v : Nat) : (s.accepted CMP_PLC_CMD v).power = s.power :=
  get_accepted_ne s v (by decide)

theorem ready_accepted_plc (s : State) (v : Nat) : (s.accepted CMP_PLC_CMD v).ready = s.ready := by
  simp only [State.ready, power_accepted_plc]
  rfl

end Placement

/-- Settles O21: the command's word names engine or entry; what it finds decides between acting, holding and refusing. -/
theorem placementCommandsAct : Obligations.PlacementCommandsAct := by
  intro s hrun hhead hfree
  have hguard : (s.running && s.head) = true := by rw [hrun, hhead]; rfl
  refine ⟨?vacate, ?restore, ?restoreNow, ?replace, ?replaceLate, ?reclaim, ?giveBack⟩
  case vacate =>
    intro e he
    refine ⟨fun ⟨hlast, hctx⟩ => settled_of_guard_eq hguard ?_, fun hmore => settled_of_guard_eq hguard ?_⟩
    · rw [State.plcVacate, plcCommand_engine hfree he, Nat.mod_eq_of_lt he, if_pos (by simp [hlast, hctx])]
    · rw [State.plcVacate, plcCommand_engine hfree he, Nat.mod_eq_of_lt he, if_neg (by simp [hmore])]
  case restore =>
    intro e he hready
    refine settled_of_guard_eq hguard ?_
    rw [State.plcRestore, plcCommand_engine hfree he, Nat.mod_eq_of_lt he, ready_accepted_plc, if_pos hready]
  case restoreNow =>
    intro e he hready
    refine settled_of_guard_eq hguard ?_
    rw [State.plcRestore, plcCommand_engine hfree he, Nat.mod_eq_of_lt he, ready_accepted_plc, if_neg (by simp [hready])]
  case replace =>
    intro hpower
    refine settled_of_guard_eq hguard ?_
    rw [State.plcReplace, plcCommand_engine hfree (by decide), power_accepted_plc, if_pos hpower]
  case replaceLate =>
    intro hpower
    refine settled_of_guard_eq hguard ?_
    rw [State.plcReplace, plcCommand_engine hfree (by decide), power_accepted_plc, if_neg hpower]
  case reclaim =>
    intro t ht
    refine ⟨fun hmoved => settled_of_guard_eq hguard ?_, fun hnone => settled_of_guard_eq hguard ?_⟩
    · rw [State.plcReclaim, plcCommand_entry hfree ht, Nat.mod_eq_of_lt ht]
      exact if_neg (by simp [cmp_accepted, hmoved])
    · rw [State.plcReclaim, plcCommand_entry hfree ht, Nat.mod_eq_of_lt ht]
      exact if_pos (by simp [cmp_accepted, hnone])
  case giveBack =>
    intro g hg
    refine ⟨fun hguest => settled_of_guard_eq hguard ?_, fun hnone => settled_of_guard_eq hguard ?_⟩
    · rw [State.plcReturn, plcCommand_entry hfree hg, Nat.mod_eq_of_lt hg]
      exact if_neg (by simp [cmp_accepted, hguest])
    · rw [State.plcReturn, plcCommand_entry hfree hg, Nat.mod_eq_of_lt hg]
      exact if_pos (by simp [cmp_accepted, hnone])

end Sys2Proof.Machine
end

section
/-! Lanes: bring-up and its failures (R69-R79), electrical idle (R81-R84), lane commands (R91-R93), calibration runs
(R85-R90) and Ethernet ports (R62, R80, R94-R96): O22-O27. -/

namespace Sys2Proof.Machine

variable {s : State} {p : Nat}

/-! ### Bring-up (R71-R77) -/

/-- A port whose state is not OFF has a lane. -/
theorem portLanes_of_state (h : s.portState p ≠ lOFF) : ∃ l ls, s.portLanes p = l :: ls := by
  cases hlanes : s.portLanes p with
  | nil => simp [State.portState, hlanes] at h
  | cons l ls => exact ⟨l, ls, rfl⟩

/-- A stepped bring-up with a matching far end aims at the lower of the two maximum rates (R74, R76). -/
theorem capExchange_stepped {c : CapWord} {eyes : List (Nat × Nat)} (hstate : s.portState p = lCAPX)
    (hdirect : (s.link p).direct = false) (hwidth : ∀ l ∈ s.portLanes p, s.get (LNK_LCFG_WIDTH l) = c.width)
    (hfw : c.sameFw = true) (hrate : 0 < min (s.link p).target c.rate) : s.capExchange p c eyes =
      (s.linkSet p fun x => { x with target := min (s.link p).target c.rate }).setPortState p lSTEP := by
  obtain ⟨l, ls, hlanes⟩ := portLanes_of_state (s := s) (p := p) (by simp [hstate])
  have hw : s.get (LNK_LCFG_WIDTH l) = c.width := hwidth l (by simp [hlanes])
  have hpos : min (s.link p).target c.rate ≠ 0 := Nat.ne_of_gt hrate
  simp [State.capExchange, hlanes, hw, hdirect, hfw, hpos]

theorem rateStep_last {eyes : List (Nat × Nat)} (hok : eyes.all (eyeOk ((s.link p).rate + 1)) = true)
    (hlast : (s.link p).rate + 1 = (s.link p).target) :
    s.rateStep p true eyes true = s.activate p (s.link p).target eyes := by
  rw [hlast] at hok
  simp [State.rateStep, hlast, hok]

theorem rateStep_noLock {eyes : List (Nat × Nat)} {far : Bool} :
    s.rateStep p false eyes far = (s.setCapped p).activate p (s.link p).rate eyes := by
  simp [State.rateStep]

/-- Lock within the skew limit: the lanes' places and skews are recorded, then capabilities are exchanged (R68, R69). -/
theorem laneLock_inLimit {lanes : List (Nat × Nat)} {unc : Nat} (hskew : lanes.any (fun q => decide (256 < q.2)) = false) :
    s.laneLock p lanes unc =
      ((s.portLanes p).foldl (fun (x : State) l => x.bumpN (LNK_FECUNC l) unc)
        ((s.portLanes p).zip lanes |>.foldl (fun (x : State) q =>
          let v := if q.2.2 < 256 then (q.2.2, x) else (x.draw.1.toNat % 256, x.draw.2)
          v.2.setAll [(LNK_LSTAT_LLANE q.1, q.2.1), (LNK_LSTAT_DSKEW q.1, v.1)]) s)).setPortState p lCAPX := by
  rw [State.laneLock, if_neg (by simp [hskew])]

/-- Settles O22. -/
theorem bringUpAdvances : Obligations.BringUpAdvances := by
  intro s p hrun hp
  refine ⟨?enable, ?detect, ?retry, ?lock, ?capability, ?step, ?capped⟩
  case enable =>
    exact fun cid hbd hpower hcomplete hoff => settled_of_guard (by simp only [hrun, hbd, hpower, hp, hcomplete, hoff]; rfl)
  case detect => exact fun hstate => settled_of_guard (by simp [hrun, hp, hstate])
  case retry =>
    intro hdue hstate
    have hguard : ¬(!s.running || !decide (p < s.portCount) || !decide ((s.link p).nextDet ≤ s.now)) = true := by
      simp [hrun, hp, hdue]
    constructor
    · change execDetectRetry p true s = _
      rw [execDetectRetry, if_neg hguard, if_pos hstate, if_pos rfl, settled_next]
    · change execDetectRetry p false s = _
      rw [execDetectRetry, if_neg hguard, if_pos hstate, if_neg (by decide), settled_next]
  case lock =>
    exact fun lanes unc hstate hfresh hlen hskew =>
      settled_of_guard_eq (by simp [hrun, hp, hstate, hfresh, hlen]) (laneLock_inLimit hskew)
  case capability =>
    exact fun c eyes hstate hlen hdirect hwidth hfw hrate =>
      settled_of_guard_eq (by simp [hrun, hp, hstate, hlen]) (capExchange_stepped hstate hdirect hwidth hfw hrate)
  case step =>
    exact fun eyes hstate hlen hok hlast =>
      settled_of_guard_eq (by simp [hrun, hp, hstate, hlen]) (rateStep_last hok hlast)
  case capped =>
    exact fun eyes far hstate hlen => settled_of_guard_eq (by simp [hrun, hp, hstate, hlen]) rateStep_noLock

/-! ### Failures and loss (R69, R73, R78, R79) -/

theorem exec_skewRestart_due {t : Nat} (hrun : s.running = true) (hp : p < s.portCount) (hskew : (s.link p).skewAt = some t)
    (hstate : s.portState p = lTRAIN) (hdue : t + 100000000 ≤ s.now) : exec (.skewRestart p) s =
      .next ((s.linkSet p fun x => { x with skewAt := none }).bringUpFails p).settle := by
  change execSkewRestart p s = _
  simp [execSkewRestart, hrun, hp, hskew, hstate, hdue, settled_next]

/-- A failure before the eighth in a row starts again at detection (R79). -/
theorem bringUpFails_again (h : (s.link p).fails < 7) :
    s.bringUpFails p = (s.linkSet p fun x => { x with fails := (s.link p).fails + 1 }).detect p :=
  if_pos (Nat.succ_lt_succ h)

theorem laneLoss_skidline {l : Nat} {cid : Option (Nat × Nat)} (hport : (s.bump (LNK_LOSS l)).linkOf l = p) (hp : p < 16) :
    s.laneLoss l cid =
      (((s.bump (LNK_LOSS l)).lcmdEnd ((s.bump (LNK_LOSS l)).linkLanes p) 2 stFAILED).skdLost p).bringUp p cid false := by
  simp only [State.laneLoss, hport, if_neg (Nat.not_le.2 hp)]

/-- Settles O23. -/
theorem bringUpFailuresRestart : Obligations.BringUpFailuresRestart := by
  intro s p hrun hp
  refine ⟨?skew, ?failed, ?direct, ?loss⟩
  case skew => exact fun t hskew hstate hdue => exec_skewRestart_due hrun hp hskew hstate hdue
  case failed =>
    exact fun hlow hhigh hdue hfails =>
      settled_of_guard_eq (by simp [hrun, hp, hlow, hhigh, hdue]) (bringUpFails_again hfails)
  case direct => exact fun hdirect hstate hdue => settled_of_guard (by simp [hrun, hp, hdirect, hstate, hdue])
  case loss =>
    exact fun l cid hl hstate hport hp16 =>
      settled_of_guard_eq (by simp [hrun, hl, hstate]) (laneLoss_skidline hport hp16)

/-! ### Electrical idle (R81-R84) -/

theorem wakePort_idle (h : s.portState p = lIDLE) :
    s.wakePort p = (s.setPortState p lEXIT).setLink p { s.link p with exitAt := s.now, ei := false } := if_pos h

/-- Settles O24. -/
theorem idleEntryAndExit : Obligations.IdleEntryAndExit := by
  intro s p hrun hp
  refine ⟨?entry, ?burst, ?fast, ?slow, ?timeout⟩
  case entry => exact fun far hstate hasked => settled_of_guard (by rcases hasked with h | h <;> simp [hrun, hp, hstate, h])
  case burst => exact fun hstate => settled_of_guard_eq (by simp [hrun, hp, hstate]) (wakePort_idle hstate)
  case fast =>
    exact fun cid hstate hfull htemp => settled_of_guard_eq (by simp [hrun, hp, hstate]) (if_neg (by simp [hfull, htemp]))
  case slow =>
    exact fun cid hstate hwhy =>
      settled_of_guard_eq (by simp [hrun, hp, hstate]) (if_pos (by rcases hwhy with h | h <;> simp [h]))
  case timeout => exact fun cid hstate hdue => settled_of_guard (by simp [hrun, hp, hstate, hdue])

end Sys2Proof.Machine
end

section
/-! Lane commands (R91-R93), calibration runs (R85-R90) and Ethernet ports (R62, R80, R94-R96): O25, O26 and O27. -/

namespace Sys2Proof.Machine

variable {s : State}

theorem phase_of_running (h : s.running = true) : s.phase = .firmware := by
  simp only [State.running, Bool.and_eq_true, decide_eq_true_eq] at h
  exact h.1

/-! ### Lane commands (R91-R93) -/

section LaneCommand

variable {l op st : Nat} {f : State → Nat × State} {t : State}

/-- An accepted lane command: its word in the register of every lane it acts on (R93). -/
def State.laneAccepted (s : State) (l op : Nat) : State :=
  (s.cmdLanes l).foldl (fun (x : State) m => x.wr (LNK_LCMD m) (BitVec.ofNat 32 op)) (s.answer rOK)

/-- The status of a lane command, in the register of every lane it acts on. -/
def State.laneEnd (s : State) (l st : Nat) (t : State) : State :=
  (s.cmdLanes l).foldl (fun (x : State) m => x.setStat (LNK_LCMD m) st) t

theorem laneCommand_accepted (hpow : s.bit (LNK_QSTAT_UNPWR (l / 4)) = false) (hfree : s.busy (LNK_LCMD l) = false)
    (hidle : s.laneBusy l = false ∨ (op ≠ 1 ∧ op ≠ 2)) (hf : f (s.laneAccepted l op) = (st, t)) :
    s.laneCommand l op f = s.laneEnd l st t := by
  have hbusy : ((op = 1 || op = 2) && s.laneBusy l) = false := by
    rcases hidle with h | ⟨h1, h2⟩
    · simp [h]
    · simp [h1, h2]
  rw [State.laneCommand, if_neg (by simp [hpow]), if_neg (by simp [hfree, hbusy])]
  change (let (st, s') := f (s.laneAccepted l op); s.laneEnd l st s') = _
  rw [hf]

end LaneCommand

section LaneCommands

variable {l : Nat} {a : State}

theorem retrain_accepted (ha : a = s.laneAccepted l 1) (hpow : s.bit (LNK_QSTAT_UNPWR (l / 4)) = false)
    (hfree : s.busy (LNK_LCMD l) = false) (hidle : s.laneBusy l = false) (hoff : a.get (LNK_LSTAT_STATE l) ≠ lOFF)
    (hprbs : a.get (LNK_LSTAT_STATE l) ≠ lPRBS) (hskd : a.linkOf l < 16) :
    s.retrain l = s.laneEnd l stBUSY (((a.skdLost (a.linkOf l)).linkSet (a.linkOf l) fun x =>
      { x with fails := 0, direct := (a.skdLost (a.linkOf l)).mayDirect (a.linkOf l),
               target := (a.skdLost (a.linkOf l)).portMax (a.linkOf l) }).detect (a.linkOf l)) := by
  subst ha
  refine laneCommand_accepted hpow hfree (.inl hidle) ?_
  simp only [hoff, hprbs, or_self, if_false, if_neg (Nat.not_le.2 hskd)]

theorem laneCal_accepted (ha : a = s.laneAccepted l 2) (hpow : s.bit (LNK_QSTAT_UNPWR (l / 4)) = false)
    (hfree : s.busy (LNK_LCMD l) = false) (hidle : s.laneBusy l = false) (hactive : a.get (LNK_LSTAT_STATE l) = lACTIVE) :
    s.laneCal l = s.laneEnd l stBUSY ((a.linkSet (a.linkOf l) fun x =>
      { x with calCmd := true, cal := false }).calDue (a.linkOf l)) := by
  subst ha
  refine laneCommand_accepted hpow hfree (.inl hidle) ?_
  simp [hactive]

theorem laneIdle_accepted (ha : a = s.laneAccepted l 3) (hpow : s.bit (LNK_QSTAT_UNPWR (l / 4)) = false)
    (hfree : s.busy (LNK_LCMD l) = false) (hskd : a.linkOf l < 16) (hactive : a.get (LNK_LSTAT_STATE l) = lACTIVE) :
    s.laneIdle l = s.laneEnd l stBUSY (a.linkSet (a.linkOf l) fun x => { x with ei := true }) := by
  subst ha
  refine laneCommand_accepted hpow hfree (.inr ⟨by decide, by decide⟩) ?_
  simp only [hskd, hactive, and_self, if_true]

theorem laneWake_accepted (ha : a = s.laneAccepted l 4) (hpow : s.bit (LNK_QSTAT_UNPWR (l / 4)) = false)
    (hfree : s.busy (LNK_LCMD l) = false) (hskd : a.linkOf l < 16) (hidle : a.get (LNK_LSTAT_STATE l) = lIDLE) :
    s.laneWake l = s.laneEnd l stBUSY (a.wakePort (a.linkOf l)) := by
  subst ha
  refine laneCommand_accepted hpow hfree (.inr ⟨by decide, by decide⟩) ?_
  simp only [hskd, hidle, and_self, if_true]

theorem prbsOn_accepted {b : State} (ha : a = s.accepted (LNK_LCMD l) 5) (hb : b = a.draw.2.set (LNK_LSTAT_STATE l) lPRBS)
    (hpow : s.bit (LNK_QSTAT_UNPWR (l / 4)) = false) (hfree : s.busy (LNK_LCMD l) = false)
    (hoff : a.get (LNK_LSTAT_STATE l) = lOFF) (hpll : a.bit (LNK_QSTAT_PLLLOCK (l / 4)) = true)
    (hpat : a.get (LNK_PRBS_PAT l) < 6) :
    s.prbsOn l = (b.set (LNK_PRBS_SYNC l) (if b.bit (LNK_PRBS_RXEN l) then a.draw.1.toNat % 2 else 0)).setStat
      (LNK_LCMD l) stDONE := by
  subst ha hb
  have hpam : ((s.accepted (LNK_LCMD l) 5).get (LNK_PRBS_PAT l) = 6 || (s.accepted (LNK_LCMD l) 5).get (LNK_PRBS_PAT l) = 7) =
      false := by simp [Nat.ne_of_lt hpat, Nat.ne_of_lt (Nat.lt_succ_of_lt hpat)]
  rw [State.prbsOn, if_neg (by simp [hpow]), command_accepted hfree]
  simp [hoff, hpll, hpam]

theorem prbsOff_accepted (ha : a = s.accepted (LNK_LCMD l) 6) (hpow : s.bit (LNK_QSTAT_UNPWR (l / 4)) = false)
    (hfree : s.busy (LNK_LCMD l) = false) (hprbs : a.get (LNK_LSTAT_STATE l) = lPRBS) :
    s.prbsOff l = ((a.set (LNK_LSTAT_STATE l) lOFF).set (LNK_PRBS_SYNC l) 0).setStat (LNK_LCMD l) stDONE := by
  subst ha
  rw [State.prbsOff, if_neg (by simp [hpow]), command_accepted hfree]
  exact if_neg (by simp [hprbs])

end LaneCommands

/-- Settles O25. -/
theorem laneCommandsAct : Obligations.LaneCommandsAct := by
  intro s l hrun hl hpow hfree
  have hguard : (s.running && decide (l < 32)) = true := by simp [hrun, hl]
  refine ⟨?retrain, ?cal, ?idle, ?wake, ?prbsOn, ?prbsOff⟩
  case retrain =>
    exact fun hidle hoff hprbs hskd =>
      settled_of_guard_eq hguard (retrain_accepted rfl hpow hfree hidle hoff hprbs hskd)
  case cal => exact fun hidle hactive => settled_of_guard_eq hguard (laneCal_accepted rfl hpow hfree hidle hactive)
  case idle => exact fun hskd hactive => settled_of_guard_eq hguard (laneIdle_accepted rfl hpow hfree hskd hactive)
  case wake => exact fun hskd hidle => settled_of_guard_eq hguard (laneWake_accepted rfl hpow hfree hskd hidle)
  case prbsOn =>
    exact fun x y hx hy hoff hpll hpat => settled_of_guard_eq hguard (prbsOn_accepted hx hy hpow hfree hoff hpll hpat)
  case prbsOff => exact fun x hx hprbs => settled_of_guard_eq hguard (prbsOff_accepted hx hpow hfree hprbs)

/-! ### Calibration runs (R85-R90) -/

section Calibration

variable {p k : Nat} {i : RxItem} {r : State}

theorem calreqRx_taken {ahead : Nat} (htake : s.takeRx p (isSvc vCALREQ) = some (i, r)) : s.calreqRx p ahead =
    (if r.lnk.reqs.contains (p, numAt (svcPay i.f) 0 2, numAt (svcPay i.f) 2 1, numAt (svcPay i.f) 3 1 % 16) then r
      else { r with lnk := { r.lnk with reqs := r.lnk.reqs ++
        [(p, numAt (svcPay i.f) 0 2, numAt (svcPay i.f) 2 1, numAt (svcPay i.f) 3 1 % 16)] } }).tryGrant p ahead := by
  simp only [State.calreqRx, htake]

/-- A grant for this tile is recorded by the port it names (R87). -/
theorem calgrant_own {b : List Byte} (h : numAt b 0 2 = s.addr) :
    s.calgrant b = s.linkSet (numAt b 2 1 % 4) fun x => { x with win := some (timeAt b 4) } := if_pos h

theorem exec_calgrantRx_own (hrun : s.running = true) (hhead : s.head = false) (hp : p < 4)
    (htake : s.takeRx p (isSvc vCALGRANT) = some (i, r)) (hown : numAt (svcPay i.f) 0 2 = r.addr) :
    exec (.calgrantRx p) s = .next (r.linkSet (numAt (svcPay i.f) 2 1 % 4) fun x =>
      { x with win := some (timeAt (svcPay i.f) 4) }).settle := by
  change execCalgrantRx p s = _
  simp [execCalgrantRx, hrun, hhead, hp, htake, calgrant_own hown, settled_next]

/-- The calibrating receiver's window has come, on an ACTIVE port that faces no other window (R88). -/
theorem windowStart_receiver {w : Nat} (htx : s.lnk.txWin.find? (fun x => x.1 = p) = none) (hwin : (s.link p).win = some w)
    (hdue : w ≤ s.tm.wall) (hactive : s.portState p = lACTIVE) : s.windowStart p = s.startRun p := by
  simp [State.windowStart, htx, hwin, hactive, Nat.not_lt.2 hdue]

/-- The sender that faces a due window holds its frames for the run (R88). -/
theorem windowStart_sender {q w : Nat} (htx : s.lnk.txWin.find? (fun x => x.1 = p) = some (q, w)) (hdue : w ≤ s.tm.wall)
    (hwin : (s.link p).win = none) (hr : r = { s with lnk := { s.lnk with txWin := s.lnk.txWin.filter (fun x => x.1 ≠ p) } }) :
    s.windowStart p = r.setPort p { r.port p with calTx := s.now + calRunNs } := by
  have hlink : ((r.setPort p { r.port p with calTx := s.now + calRunNs }).link p).win = none := by subst hr; exact hwin
  simp only [State.windowStart, htx, if_neg (Nat.not_lt.2 hdue)]
  rw [← hr, hlink]

theorem exec_calRunEnd_due {t : Nat} {eyes : List ((Nat × Nat) × (Nat × Nat))} (hrun : s.running = true)
    (hend : (s.link k).runEnd = some t) (hdue : t ≤ s.now) (hlen : eyes.length = (s.linkLanes k).length) :
    exec (.calRunEnd k eyes) s = .next (s.runEnd k eyes).settle := by
  change execCalRunEnd k eyes s = _
  simp [execCalRunEnd, hend, hrun, hdue, hlen, settled_next]

end Calibration

/-- Settles O26. -/
theorem calibrationRunsAdvance : Obligations.CalibrationRunsAdvance := by
  intro s hrun
  refine ⟨?due, ?request, ?requestRx, ?grantRx, ?receiver, ?sender, ?runEnd, ?starve⟩
  case due =>
    intro k hk hlanes hend hstate hwhy
    exact settled_of_guard (by rcases hwhy with h | h <;> simp only [hrun, hk, hend, hstate, h] <;> simp [hlanes])
  case request => exact fun p hhead hp hwants hdue => settled_of_guard (by simp [hrun, hhead, hp, hwants, hdue])
  case requestRx =>
    exact fun p ahead i r hhead hp htake => settled_of_guard_eq (by simp [hrun, hhead, hp]) (calreqRx_taken htake)
  case grantRx => exact fun p i r hhead hp htake hown => exec_calgrantRx_own hrun hhead hp htake hown
  case receiver =>
    exact fun p w hp htx hwin hdue hactive =>
      settled_of_guard_eq (by simp [hrun, hp]) (windowStart_receiver htx hwin hdue hactive)
  case sender =>
    exact fun p q w hp htx hdue hwin =>
      settled_of_guard_eq (by simp [hrun, hp]) (windowStart_sender htx hdue hwin rfl)
  case runEnd => exact fun k t eyes hend hdue hlen => exec_calRunEnd_due hrun hend hdue hlen
  case starve => exact fun p hp hwants hwait => settled_of_guard (by simp only [hrun, hp, hwants, hwait]; rfl)

/-! ### Ethernet ports (R62, R80, R94-R96) -/

section Ethernet

variable {p : Nat} {l : List Byte}

theorem ethRx_badFcs {fcs cmax vrx : Bool} (h : (s.bump (ETH_RXFRM p)).ethClass p l fcs = 1) :
    s.ethRx p l fcs cmax vrx = (s.bump (ETH_RXFRM p)).bump (ETH_RXFCS p) := by
  simp only [State.ethRx, h]

theorem ethRx_control {fcs cmax vrx : Bool} (h : (s.bump (ETH_RXFRM p)).ethClass p l fcs = 5) :
    s.ethRx p l fcs cmax vrx = (s.bump (ETH_RXFRM p)).bump (ETH_CTLRX p) := by
  simp only [State.ethRx, h]

end Ethernet

/-- Settles O27. -/
theorem ethernetPortsAct : Obligations.EthernetPortsAct := by
  intro s p hrun hhead hp
  refine ⟨?bringUp, fun hactive => ⟨fun hen => ⟨?full, ?fcs, ?control⟩, ?sent, ?waits⟩, ?clock⟩
  case bringUp =>
    exact fun hmode hen hlanes hquad hdown => settled_of_guard (by simp only [hrun, hhead, hp, hmode, hen, hlanes, hquad, hdown]; rfl)
  case full =>
    exact fun l fcs c v => settled_of_guard_eq (by simp [hrun, hhead, hp, hactive, hen]) rfl
  case fcs =>
    exact fun l c v hclass => settled_of_guard_eq (by simp [hrun, hhead, hp, hactive, hen]) ((if_neg (by decide)).trans (ethRx_badFcs hclass))
  case control =>
    exact fun l c v hclass => settled_of_guard_eq (by simp [hrun, hhead, hp, hactive, hen]) ((if_neg (by decide)).trans (ethRx_control hclass))
  case sent =>
    intro x b hx hmon hb
    subst hb
    change execEthFrameTx p s = _
    simp [execEthFrameTx, hrun, hhead, hp, hactive, hx, hmon, settled_next, State.ethSend, State.ethSet, State.skdSet]
  case waits =>
    intro x w hx hmon hon hlate
    change execEthFrameTx p s = _
    simp [execEthFrameTx, hrun, hhead, hp, hactive, hx, hmon, hon, Nat.not_le.2 hlate, settled_next]
  case clock =>
    have hphase : s.phase = .firmware := phase_of_running hrun
    exact fun ok => settled_of_guard (by simp [hphase, hp])

end Sys2Proof.Machine
end

section
/-! Flows and stills (R97-R106) and the monitor output (R107-R113): O28 and O29. -/

namespace Sys2Proof.Machine

variable {s a b t : State} {f : Nat}

/-! ### Flows (R97, R99, R103) -/

theorem flowOpen_accepted (hfree : s.busy (ETH_FLOW_CMD f) = false) (ha : a = s.accepted (ETH_FLOW_CMD f) 1)
    (hclosed : a.get (ETH_FLOW_STAT_STATE f) = 0) (hfmt : a.flowFmtOk f = true) (hport : a.flowPortOk f = true)
    (haddr : a.flowAddrOk f = true) (hstores : a.flowStores f 0 (a.nbuf f) = some t) :
    s.flowOpen f = (((t.setFlow f FlowSt.init).wr (ETH_FLOW_STAT f)
      (putBits (t.rd (ETH_FLOW_STAT f) &&& 0x1C#32) 0 2 1)).legReports f 2).setStat (ETH_FLOW_CMD f) stDONE := by
  rw [State.flowOpen, command_accepted hfree, ← ha]
  simp [hclosed, hfmt, hport, haddr, hstores]

theorem flowOpen_notClosed (hfree : s.busy (ETH_FLOW_CMD f) = false) (ha : a = s.accepted (ETH_FLOW_CMD f) 1)
    (hstate : a.get (ETH_FLOW_STAT_STATE f) ≠ 0) :
    s.flowOpen f = (a.set (ETH_FLOW_STAT_REASON f) 1).setStat (ETH_FLOW_CMD f) stREFUSED := by
  rw [State.flowOpen, command_accepted hfree, ← ha]
  exact if_pos hstate

theorem flowClose_open (hfree : s.busy (ETH_FLOW_CMD f) = false) (ha : a = s.accepted (ETH_FLOW_CMD f) 2)
    (hopen : a.get (ETH_FLOW_STAT_STATE f) = 1)
    (hb : b = (a.legReports f 3).setAll [(ETH_FLOW_STAT_STATE f, 2), (ETH_FLOW_STAT_FRAME f, 0)]) :
    s.flowClose f = (b.setFlow f { b.flow f with frames := [] }).setStat (ETH_FLOW_CMD f) stDONE := by
  rw [State.flowClose, command_accepted hfree, ← ha, hb]
  exact if_neg (not_not_intro hopen)

theorem exec_frameCloseTimeout_due {x : FlowFrame} {m w : Nat} (hrun : s.running = true) (hhead : s.head = true)
    (hf : f < 16) (hopen : s.get (ETH_FLOW_STAT_STATE f) = 1) (hframes : (s.flow f).frames = [x])
    (hmark : x.mark = some (m, w)) (hdue : w + s.skewTime f ≤ s.tm.wall) :
    exec (.frameCloseTimeout f) s = .next (s.frameClose f x m).settle := by
  change execFrameCloseTimeout f s = _
  simp [execFrameCloseTimeout, hrun, hhead, hf, hopen, hframes, hmark, hdue, settled_next]

/-! ### The fence of a still (R106) -/

theorem exec_stillFence {k buf tok : Nat} (hrun : s.running = true) (hhead : s.head = true) (hk : k < 64) (hbuf : buf < 2)
    (htok : tok < 2 ^ 16) : exec (.stillFence k buf tok) s = .next (s.stillFence k (buf + 2 * tok)).settle := by
  have hv : buf % 2 + 2 * (tok % 2 ^ 16) = buf + 2 * tok := by rw [Nat.mod_eq_of_lt hbuf, Nat.mod_eq_of_lt htok]
  exact settled_of_guard_eq (by simp [hrun, hhead, hk]) (by rw [hv])

theorem stillFence_free {k buf tok : Nat} (hbuf : buf < 2) (htok : tok < 2 ^ 16)
    (hfree : s.busy (ETH_STILL_FENCE k) = false) (hb : b = s.accepted (ETH_STILL_FENCE k) (buf + 2 * tok))
    (ha : a = b.stillRefresh k) (hen : b.bit (ETH_STILL_CFG_EN k) = true) (henR : a.bit (ETH_STILL_CFG_EN k) = true)
    (hok : a.bit (ETH_STILL_STAT_FREEOK k) = true) (huse : a.stillInUse k buf = false) :
    s.stillFence k (buf + 2 * tok) = (a.stillFenced k buf tok).setStat (ETH_STILL_FENCE k) stDONE := by
  have hlow : (buf + 2 * tok) % 2 = buf := by omega
  have hhigh : (buf + 2 * tok) / 2 % 2 ^ 16 = tok := by omega
  rw [State.stillFence, command_accepted hfree, ← hb]
  simp only [hlow, hhigh, hen, if_true, ← ha]
  exact if_neg (by simp [henR, hok, huse])

/-- Settles O28. -/
theorem flowsAndStillsAct : Obligations.FlowsAndStillsAct := by
  intro s f hrun hhead hf
  have hguard : (s.running && s.head && decide (f < 16)) = true := by simp [hrun, hhead, hf]
  refine ⟨fun hfree => ⟨?opens, ?refused, ?closes⟩, ?timeout, ?fence⟩
  case opens =>
    exact fun a t ha hclosed hfmt hport haddr hstores =>
      settled_of_guard_eq hguard (flowOpen_accepted hfree ha hclosed hfmt hport haddr hstores)
  case refused => exact fun a ha hstate => settled_of_guard_eq hguard (flowOpen_notClosed hfree ha hstate)
  case closes => exact fun a b ha hopen hb => settled_of_guard_eq hguard (flowClose_open hfree ha hopen hb)
  case timeout =>
    exact fun x m w hopen hframes hmark hdue => exec_frameCloseTimeout_due hrun hhead hf hopen hframes hmark hdue
  case fence =>
    intro k buf tok a hk hbuf htok hfree ha hen henR hok huse
    rw [exec_stillFence hrun hhead hk hbuf htok, stillFence_free hbuf htok hfree rfl ha hen henR hok huse]

/-! ### Commands of the monitor (R107, R112, R113) -/

theorem monStart_accepted {t1 t2 : State} {o1 o2 : Nat} (hfree : s.busy ETH_MON_CMD = false)
    (ha : a = s.accepted ETH_MON_CMD 1) (hstopped : a.get ETH_MON_STAT_STATE = 0) (hok : a.monOk = true)
    (h1 : a.allocWide a.monStoreBytes (.monitor 0) = some (o1, t1))
    (h2 : t1.allocWide a.monStoreBytes (.monitor 1) = some (o2, t2)) :
    s.monStart = (((t2.set ETH_MON_STAT_STATE 1).monSet fun m =>
      { m with pkt := none, done := [], sent := none, job := none, wrote := [],
               nextFrame := a.monFrameNow + a.monDiv }).monContexts).setStat ETH_MON_CMD stDONE := by
  rw [State.monStart, command_accepted hfree, ← ha, if_neg (by simp [hstopped, hok])]
  simp only [h1, h2]

theorem monStop_betweenFrames (hfree : s.busy ETH_MON_CMD = false) (ha : a = s.accepted ETH_MON_CMD 2)
    (hon : a.get ETH_MON_STAT_STATE = 1) (hb : b = (a.freeUser 2048).monSet fun m => { m with job := none, wrote := [] })
    (hpkt : (b.dropThreads fun x => x.2.2.1 = b.get CMP_CFG_MONPROG).eth.mon.pkt = none) :
    s.monStop = ((b.dropThreads fun x => x.2.2.1 = b.get CMP_CFG_MONPROG).monStopped).setStat ETH_MON_CMD stDONE := by
  rw [State.monStop, command_accepted hfree, ← ha, if_neg (not_not_intro hon), ← hb]
  exact if_pos (by rw [hpkt]; rfl)

theorem monArm_pending (hfree : s.busy ETH_MON_CMD = false) (ha : a = s.accepted ETH_MON_CMD 3)
    (hon : a.get ETH_MON_STAT_STATE ≠ 0) : s.monArm = (a.set ETH_MON_STAT_ARMED 1).setStat ETH_MON_CMD stDEFERRED := by
  rw [State.monArm, command_accepted hfree, ← ha]
  exact if_neg hon

/-! ### Frames of the monitor (R109-R111) -/

section Frames

variable (hrun : s.running = true) (hhead : s.head = true)
include hrun hhead

/-- At T_R a frame starts on the store completed most recently, or is counted as missed (R110). -/
theorem exec_monSof_due (hgrid : s.gridRuns = true) (hon : s.get ETH_MON_STAT_STATE = 1) (hpkt : s.eth.mon.pkt = none)
    (hnew : s.monFrameNow + s.monDiv ≠ s.eth.mon.nextFrame) (hdue : s.monRaster s.monFrameNow ≤ s.tm.wall)
    (hb : b = (s.monSet fun m => { m with nextFrame := s.monFrameNow + s.monDiv }).monEvent 0) :
    (s.eth.mon.done = [] → exec .monSof s = .next ((b.bump ETH_MON_UNDER).monEvent 4).settle) ∧
    (∀ d r, s.eth.mon.done = d :: r → s.eth.mon.sent ≠ some d → exec .monSof s =
      .next ((b.monSet fun m => { m with frame := s.monFrameNow, pkt := some 0, sent := some d }).setAll
        [(⟨ETH_MON_STAT, 3, 12⟩, 0), (⟨ETH_MON_STAT, 15, 1⟩, d.2)]).settle) := by
  subst hb
  refine ⟨fun hdone => ?_, fun d r hdone hsent => ?_⟩
  · change execMonSof s = _
    simp [execMonSof, hrun, hhead, hgrid, hon, hpkt, hnew, hdue, hdone, settled_next]
  · change execMonSof s = _
    simp [execMonSof, hrun, hhead, hgrid, hon, hpkt, hnew, hdue, hdone, hsent, settled_next]

/-- A packet inside the frame that is neither at the MATCH nor at the APPLY line, sent on one port (R109). -/
theorem exec_monPacket_inside {i : Nat} (hpkt : s.eth.mon.pkt = some i)
    (hdue : s.monPacketTime s.eth.mon.frame i ≤ s.tm.wall) (hmore : i + 1 ≠ s.monPackets)
    (ha : a = ((s.monPayload i).2).ethSend ((s.monPayload i).2.get ETH_MON_CFG_PORTA) 0 (s.monPayload i).1)
    (hb : b = (a.monSet fun m => { m with seq := (m.seq + 1) % 2 ^ 32 }).set ⟨ETH_MON_STAT, 3, 12⟩
      (i / s.get ETH_MON_TIMING_PPL))
    (hclone : a.bit ETH_MON_CFG_CLONE = false) (hmatch : i ≠ b.get ETH_MON_LINE_MATCH * s.get ETH_MON_TIMING_PPL)
    (hplain : i ≠ b.get ETH_MON_LINE_APPLY * s.get ETH_MON_TIMING_PPL) :
    exec .monPacket s = .next (b.monSet fun m => { m with pkt := some (i + 1) }).settle := by
  change execMonPacket s = _
  subst ha
  simp only [execMonPacket, hpkt, hrun, hhead, hdue, decide_true, Bool.and_true, if_true, hclone, Bool.false_eq_true, if_false,
    ← hb, hmatch, hplain, hmore, decide_false, Bool.false_and, Bool.or_false, settled_next]

end Frames

/-- Settles O29. -/
theorem monitorOutputActs : Obligations.MonitorOutputActs := by
  intro s hrun hhead
  have hguard : (s.running && s.head) = true := by rw [hrun, hhead]; rfl
  refine ⟨fun hfree => ⟨?start, ?stop, ?arm⟩, ?sof, ?packet⟩
  case start =>
    exact fun a o1 t1 o2 t2 ha hstopped hok h1 h2 =>
      settled_of_guard_eq hguard (monStart_accepted hfree ha hstopped hok h1 h2)
  case stop => exact fun a b ha hon hb hpkt => settled_of_guard_eq hguard (monStop_betweenFrames hfree ha hon hb hpkt)
  case arm => exact fun a ha hon => settled_of_guard_eq hguard (monArm_pending hfree ha hon)
  case sof => exact fun hgrid hon hpkt hnew hdue => exec_monSof_due hrun hhead hgrid hon hpkt hnew hdue rfl
  case packet =>
    exact fun i hpkt hdue hmore hclone hmatch hplain =>
      exec_monPacket_inside hrun hhead hpkt hdue hmore rfl rfl hclone hmatch hplain

end Sys2Proof.Machine
end

section
/-! Control requests and relays (R114, R326, R327, R430), notifications and control units (R440, R448), and memory
(R130-R138): O30, O31 and O33. -/

namespace Sys2Proof.Machine

variable {s a : State}

theorem settled_of_eq {t u : State} (h : t = u) : settled t = .next u.settle := h ▸ settled_next t

/-! ### Requests from Ethernet (R114, R115) -/

theorem authenticate_noKeys {p : Peer} {l : List Byte} (hA : s.ctl.keyA = none) (hB : s.ctl.keyB = none) :
    s.authenticate p l = (some (⟨0, 0⟩, l), s) :=
  if_pos (by simp [hA, hB])

theorem authenticate_noMatch {p : Peer} {l : List Byte} (hkey : s.ctl.keyA ≠ none ∨ s.ctl.keyB ≠ none)
    (hmatch : s.keyMatch l = none) : s.authenticate p l = (none, s.bump (ETH_AUTHFAIL p.port)) := by
  have hsome : ¬(s.ctl.keyA.isNone && s.ctl.keyB.isNone) = true := by
    simp only [Bool.and_eq_true, Option.isNone_iff_eq_none]
    exact fun hnone => hkey.elim (absurd hnone.1) (absurd hnone.2)
  simp only [State.authenticate, if_neg hsome, hmatch]

section Request

variable {p ip udp : Nat} {v6 : Bool} {l : List Byte} (hrun : s.running = true) (hhead : s.head = true) (hp : p < 4)
include hrun hhead hp

theorem exec_controlRequest_served {au : Auth} {b : List Byte}
    (hauth : s.authenticate ⟨p, v6, ip, udp⟩ l = (some (au, b), a)) :
    exec (.controlRequest p v6 ip udp l) s = .next (a.serveMessage ⟨p, v6, ip, udp⟩ au b).settle := by
  change execControlRequest p v6 ip udp l s = _
  simp [execControlRequest, hrun, hhead, hp, hauth, settled_next]

theorem exec_controlRequest_rejected (hauth : s.authenticate ⟨p, v6, ip, udp⟩ l = (none, a)) :
    exec (.controlRequest p v6 ip udp l) s = .next a.settle := by
  change execControlRequest p v6 ip udp l s = _
  simp [execControlRequest, hrun, hhead, hp, hauth, settled_next]

end Request

/-! ### Relays (R326) -/

theorem exec_relayTimeout_due {r : Relay} (hrun : s.running = true)
    (hr : s.ctl.relays.find? (fun r => decide (r.till ≤ s.now)) = some r) (hhost : r.maps = false) :
    exec .relayTimeout s = .next ((s.relayDrop r.tag).relayAnswer r fun hd => refusal hd mTIMEOUT).settle := by
  change execRelayTimeout s = _
  simp [execRelayTimeout, hrun, hr, hhost, settled_next]

section Response

variable {p : Nat} {i : RxItem} {r : State} (hrun : s.running = true) (hhead : s.head = true) (hp : p < 16)
  (htake : s.takeRx p (fun f => f.typ = fCTL && f.fld 12 1 % 4 = 1) = some (i, r))
include hrun hhead hp htake

theorem exec_ctlResponseRx_late (hnone : r.ctl.relays.find? (fun x => x.tag = i.f.fld 10 2) = none) :
    exec (.ctlResponseRx p) s = .next (r.bump SKD_CH_LATERSP).settle := by
  change execCtlResponseRx p s = _
  simp only [execCtlResponseRx, hrun, hhead, hp, htake, hnone]
  rfl

theorem exec_ctlResponseRx_answered {x : Relay} (hx : r.ctl.relays.find? (fun x => x.tag = i.f.fld 10 2) = some x)
    (hhost : x.maps = false) : exec (.ctlResponseRx p) s =
      .next ((r.relayDrop x.tag).relayAnswer x fun hd => putAt i.f.pay 2 (slice hd 2 2)).settle := by
  change execCtlResponseRx p s = _
  simp only [execCtlResponseRx, hrun, hhead, hp, htake, hx, hhost]
  rfl

end Response

/-! ### Requests at a tile (R327) -/

theorem ctlArrives_room {p : Nat} {f : Frame} (hroom : s.ctl.tileQ.length < 16)
    (ha : a = s.ctlSet fun c => { c with tileQ := c.tileQ ++ [(p, f)] }) :
    s.ctlArrives p f = if f.fld 13 1 % 2 = 1 then a.sendAck f.src (f.fld 10 2) akOK fCTL 0 else a := by
  subst ha
  exact if_neg (Nat.not_le.2 hroom)

theorem exec_tileCtlRequest_arrives {p : Nat} {i : RxItem} {r : State} (hrun : s.running = true) (htile : s.head = false)
    (hp : p < 4) (htake : s.takeRx p (fun f => f.typ = fCTL && f.fld 12 1 % 4 = 0) = some (i, r)) :
    exec (.tileCtlRequest (some p)) s = .next (r.ctlArrives p i.f).settle := by
  change execTileCtlRequest (some p) s = _
  simp only [execTileCtlRequest, hrun, htile, if_neg (Nat.not_le.2 hp), htake]
  rfl

section Serve

variable {x : Nat} {f : Frame} {q : List (Nat × Frame)} (hq : s.ctl.tileQ = (x, f) :: q)
  (ha : a = s.ctlSet fun c => { c with tileQ := q, served := c.served.filter fun y => decide (s.now ≤ y.2.2.1 + 10 ^ 8) })
include hq ha

theorem ctlServe_again {y : Nat × Nat × Nat × List Byte}
    (hy : a.ctl.served.find? (fun y => y.1 = f.src && y.2.1 = f.fld 10 2) = some y) :
    s.ctlServe = a.sendTo f.src (ctlFrame f.src a.srcAddr false (f.fld 10 2) 1 false y.2.2.2) := by
  subst ha
  simp only [State.ctlServe, hq, hy]

theorem ctlServe_first {b : List Byte} {t u : State}
    (hnone : a.ctl.served.find? (fun y => y.1 = f.src && y.2.1 = f.fld 10 2) = none) (hanswer : a.tileAnswer f = (b, t))
    (hu : u = t.ctlSet fun c => { c with served := (f.src, f.fld 10 2, t.now, b) :: c.served }) :
    s.ctlServe = u.sendTo f.src (ctlFrame f.src u.srcAddr false (f.fld 10 2) 1 false b) := by
  subst ha hu
  simp only [State.ctlServe, hq, hnone, hanswer]

end Serve

/-- Settles O30. -/
theorem controlRequestsAreAnswered : Obligations.ControlRequestsAreAnswered := by
  intro s hrun
  refine ⟨fun hhead => ⟨?plain, ?unauthentic, ?timeout, ?response⟩, fun htile => ⟨?arrives, ?serves⟩⟩
  case plain =>
    exact fun p v6 ip udp l hp hA hB => exec_controlRequest_served hrun hhead hp (authenticate_noKeys hA hB)
  case unauthentic =>
    exact fun p v6 ip udp l hp hkey hmatch =>
      exec_controlRequest_rejected hrun hhead hp (authenticate_noMatch hkey hmatch)
  case timeout =>
    intro r a hr hhost ha
    subst ha
    exact exec_relayTimeout_due hrun hr hhost
  case response =>
    intro p i r hp htake
    refine ⟨fun hnone => exec_ctlResponseRx_late hrun hhead hp htake hnone, fun x a hx hhost ha => ?_⟩
    subst ha
    exact exec_ctlResponseRx_answered hrun hhead hp htake hx hhost
  case arrives =>
    intro p i r hp htake hroom
    rw [exec_tileCtlRequest_arrives hrun htile hp htake, ctlArrives_room hroom rfl]
    rfl
  case serves =>
    have hguard : (s.running && !s.head) = true := by rw [hrun, htile]; rfl
    intro x f q a hq ha
    exact ⟨fun y hy => settled_of_guard_eq hguard (ctlServe_again hq ha hy),
      fun b t hnone hanswer => settled_of_guard_eq hguard (ctlServe_first hq ha hnone hanswer rfl)⟩

/-! ### Notifications (R440) -/

theorem notifyDest_due {x : NRec} {q : List NRec} {t : Nat} {b : List Byte} {u : State} (hq : s.note.q0 = x :: q)
    (hlost : s.note.lost0 = 0) (hen : s.bit (GLB_NDEST_W4_EN 0) = true) (hdue : s.note.next0 ≤ s.now)
    (ha : a = { s with note := { s.note with q0 := s.note.q0.drop 64, lost0 := 0, next0 := s.now + 1000000 } })
    (hbody : a.noteBody a.srcAddr (s.note.q0.take 64) = (t, b, u)) :
    s.notifyDest 0 = u.sendBody (u.noteDest 0) 0 (u.cvuOf (u.noteDest 0)) b := by
  have hlog : s.lostRecord 0 = ([], s) := if_pos rfl
  have hguard : ¬(!s.bit (GLB_NDEST_W4_EN 0) || decide (s.now < s.note.next0) || (s.note.q0.isEmpty && s.note.lost0 = 0)) =
      true := by simp [hen, hq, Nat.not_lt.2 hdue]
  have hsome : ¬(s.note.q0.take 64).isEmpty = true := by simp [hq]
  simp only [State.notifyDest, if_true]
  rw [if_neg hguard]
  simp only [hlost, hlog, List.length_nil, Nat.sub_zero, List.nil_append, if_neg hsome, ← ha, hbody]

theorem notifyHead_due {x : NRec} {q : List NRec} {t : Nat} {b : List Byte} {u : State} (hq : s.note.tileQ = x :: q)
    (hdue : s.note.next0 ≤ s.now) (haddr : s.bit SKD_ADDR_VALID = true)
    (ha : a = { s with note := { s.note with tileQ := s.note.tileQ.drop 63, next0 := s.now + 1000000 } })
    (hbody : a.noteBody a.headOf (s.note.tileQ.take 63) = (t, b, u)) :
    s.notifyHead = u.sendTo u.headOf (ctlFrame u.headOf u.srcAddr false t 2 false b) := by
  rw [State.notifyHead, if_neg (by simp [hq, haddr, Nat.not_lt.2 hdue]), ← ha]
  simp only [hbody]

theorem exec_ctlNotificationRx_taken {p : Nat} {i : RxItem} {r : State} (hrun : s.running = true) (hhead : s.head = true)
    (hp : p < 16) (htake : s.takeRx p (fun f => f.typ = fCTL && f.fld 12 1 % 4 = 2) = some (i, r)) :
    exec (.ctlNotificationRx p) s =
      .next ((List.range (min (numAt i.f.pay 6 2) ((i.f.pay.drop 16).length / 16))).foldl
        (fun (a : State) k => a.tileRecord (slice (i.f.pay.drop 16) (16 * k) 16)) r).settle := by
  change execCtlNotificationRx p s = _
  simp only [execCtlNotificationRx, hrun, hhead, hp, htake]
  rfl

/-! ### Control units (R448) -/

theorem cvuEnable_accepted {u : Nat} (hfree : s.busy (CVU_CMD u) = false) (ha : a = s.accepted (CVU_CMD u) 1)
    (hok : a.cvuRefusal u = none) : s.cvuEnable u = ((a.set (CVU_STAT_EN u) 1).ctlSet fun c =>
      { c with first := u :: c.first.filter (· ≠ u) }).setStat (CVU_CMD u) stDONE := by
  rw [State.cvuEnable, command_accepted hfree, ← ha]
  simp only [hok]

theorem cvuEnable_refused {u r : Nat} (hfree : s.busy (CVU_CMD u) = false) (ha : a = s.accepted (CVU_CMD u) 1)
    (hbad : a.cvuRefusal u = some r) :
    s.cvuEnable u = (a.set (CVU_STAT_REASON u) r).setStat (CVU_CMD u) stREFUSED := by
  rw [State.cvuEnable, command_accepted hfree, ← ha]
  simp only [hbad]

theorem cvuDisable_accepted {u : Nat} (hfree : s.busy (CVU_CMD u) = false) (ha : a = s.accepted (CVU_CMD u) 2) :
    s.cvuDisable u = (a.set (CVU_STAT_EN u) 0).setStat (CVU_CMD u) stDONE := by
  rw [State.cvuDisable, command_accepted hfree, ← ha]

/-- Settles O31. -/
theorem notificationsAndControlUnitsAct : Obligations.NotificationsAndControlUnitsAct := by
  intro s hrun
  refine ⟨fun hhead => ⟨?destination, ?received⟩, ?tile, ?units⟩
  case destination =>
    intro x q a t b u hq hlost hen hdue ha hbody
    refine settled_of_eq ?_
    rw [if_neg (by simp [hrun]), if_neg (by simp [hhead]), if_pos (by decide),
      notifyDest_due hq hlost hen hdue ha hbody]
  case received => exact fun p i r hp htake => exec_ctlNotificationRx_taken hrun hhead hp htake
  case tile =>
    intro htile d x q a t b u hq hdue haddr ha hbody
    refine settled_of_eq ?_
    rw [if_neg (by simp [hrun]), if_pos (by simp [htile]), notifyHead_due hq hdue haddr ha hbody]
  case units =>
    intro u hu hfree
    have hguard : (s.running && decide (u < 4)) = true := by simp [hrun, hu]
    exact ⟨fun a ha hok => settled_of_guard_eq hguard (cvuEnable_accepted hfree ha hok),
      fun a r ha hbad => settled_of_guard_eq hguard (cvuEnable_refused hfree ha hbad),
      fun a ha => settled_of_guard_eq hguard (cvuDisable_accepted hfree ha)⟩

/-! ### Rates and measurements of memory (R130-R135) -/

/-- In READY a rate change starts, deferred while training runs (R132). -/
theorem memFreq_ready {r : Nat} {b d : State} (hfree : s.busy MEM_FREQ = false) (ha : a = s.accepted MEM_FREQ r)
    (hpower : a.power = psREADY) (hb : b = a.setStat MEM_FREQ (if a.get MEM_TRN_STEP ≠ 0 then stDEFERRED else stBUSY))
    (hd : d = { b with memc := { b.memc with prevRate := b.get MEM_STAT_RATE, started := b.now } }) :
    s.memFreq r = ((d.set MEM_STAT_STATE mRATECHG).setChannels mRATECHG).set MEM_TRN_STEP 1 := by
  have hhalt : (decide (a.power = psHALT) && decide (a.get MEM_STAT_STATE = mOFF)) = false := by rw [hpower]; rfl
  have hready : (decide (a.power = psREADY) || (decide (a.power = psHALT) && decide (a.get MEM_STAT_STATE = mTRAIN))) = true := by
    rw [hpower]; rfl
  subst hb hd
  rw [State.memFreq, command_accepted hfree, ← ha, if_neg (Bool.eq_false_iff.1 hhalt), if_pos hready]

theorem memFreq_show {r : Nat} (hfree : s.busy MEM_FREQ = false) (ha : a = s.accepted MEM_FREQ r)
    (hpower : a.power = psSHOW) : s.memFreq r = a.setStat MEM_FREQ stREFUSED := by
  have hhalt : psSHOW ≠ psHALT := by decide
  have hready : psSHOW ≠ psREADY := by decide
  rw [State.memFreq, command_accepted hfree, ← ha]
  simp [hpower, hhalt, hready]

theorem exec_rateChangeDone_inChange {ok again : Bool} {bad : Nat} (hrun : s.running = true)
    (hchange : s.get MEM_STAT_STATE = mRATECHG) : exec (.rateChangeDone ok again bad) s = settled (
      if ok then (((s.set MEM_STAT_RATE (s.get ⟨MEM_FREQ, 0, 1⟩)).memTrained).setStat MEM_FREQ stDONE).bump MEM_FREQCHG
      else if again then ((s.set MEM_STAT_RATE s.memc.prevRate).memTrained).setStat MEM_FREQ stFAILED
      else ((s.set MEM_STAT_RATE s.memc.prevRate).memFailed bad).setStat MEM_FREQ stFAILED) := by
  change execRateChangeDone ok again bad s = _
  rw [execRateChangeDone, if_neg (by simp [hrun]), if_pos hchange]

/-- A poll of a channel that is not the last (R134, R135). -/
theorem exec_mr4Poll_due {c w : Nat} {fields : List Nat} (hphase : s.phase = .firmware) (hc : c + 1 < s.memc.nch)
    (hactive : s.get (MEM_CH_STAT_STATE c) = mACTIVE) (hdue : s.memc.nextPoll ≤ s.now) (hfields : fields ≠ [])
    (hw : w = fields.foldl max 0) : exec (.mr4Poll c fields) s = settled (
      if w = 0x1F then ((s.set (MEM_CH_STAT_RRATE c) w).set (MEM_CH_STAT_MULT c) 0).set (MEM_CH_STAT_OVERT c) 1
      else (s.set (MEM_CH_STAT_RRATE c) w).set (MEM_CH_STAT_MULT c)
        (if 2 < mr4Mult w && !s.bit MEM_REF_SLOW then 2 else mr4Mult w)) := by
  have hc' : c < s.memc.nch := Nat.lt_of_succ_lt hc
  have hlast : c + 1 ≠ s.memc.nch := Nat.ne_of_lt hc
  change execMr4Poll c fields s = _
  rw [execMr4Poll, if_pos (by simp [hphase, hc', hactive, hdue, hfields])]
  simp only [← hw]
  by_cases hhot : w = 0x1F
  · simp [hhot, hlast]
  · simp [hhot, hlast]

/-- Without SLOW the multiplier code is capped at 2 (R135). -/
theorem mult_capped (m : Nat) (slow : Bool) : (if 2 < m && !slow then 2 else m) = if slow then m else min 2 m := by
  cases slow with
  | true => simp
  | false =>
    by_cases h : 2 < m
    · simp [h, Nat.le_of_lt h]
    · simp [h, Nat.not_lt.1 h]

/-! ### Self-refresh (R137-R139) -/

section SelfRefresh

variable {c : Nat}

theorem channelTouch_inSelfRefresh (h : s.get (MEM_CH_STAT_STATE c) = mSELFREF) :
    s.channelTouch c = (s.channelOut c).bump MEM_SRWAIT := if_pos h

theorem channelTouch_pending (h : s.get (MEM_CH_STAT_STATE c) ≠ mSELFREF) (hpend : (s.chan c).pend = true) :
    s.channelTouch c = (s.setChan c { s.chan c with pend := false, idle := s.now }).bump MEM_SRABORT := by
  rw [State.channelTouch, if_neg h, if_pos hpend]

theorem channelTouch_idle (h : s.get (MEM_CH_STAT_STATE c) ≠ mSELFREF) (hpend : (s.chan c).pend = false) :
    s.channelTouch c = s.setChan c { s.chan c with idle := s.now } := by
  rw [State.channelTouch, if_neg h, if_neg (by simp [hpend])]

end SelfRefresh

/-- Settles O33. -/
theorem memoryCommandsAndSelfRefreshAct : Obligations.MemoryCommandsAndSelfRefreshAct := by
  refine ⟨fun s hrun hphase => ⟨?measure, ?rate, fun hchange => ⟨?passed, ?again, ?failed⟩, ?poll⟩, fun s c hc hpower => ?refresh⟩
  case measure =>
    exact fun c t hc hactive hdue => settled_of_guard (by simp [hphase, hc, hactive, hdue])
  case rate =>
    intro r a hr hfree ha
    have hexec : exec (.memFreqChange r) s = .next (s.memFreq r).settle :=
      settled_running_of_eq hrun (by rw [Nat.mod_eq_of_lt hr])
    rw [hexec]
    refine ⟨fun hpow => ?_, fun hpow => ?_⟩
    · rw [memFreq_ready hfree ha hpow rfl rfl]
    · rw [memFreq_show hfree ha hpow]
  case passed =>
    intro again bad
    rw [exec_rateChangeDone_inChange hrun hchange, if_pos rfl, settled_next]
  case again =>
    intro bad
    rw [exec_rateChangeDone_inChange hrun hchange, if_neg Bool.false_ne_true, if_pos rfl, settled_next]
  case failed =>
    intro bad
    rw [exec_rateChangeDone_inChange hrun hchange, if_neg Bool.false_ne_true, if_neg Bool.false_ne_true, settled_next]
  case poll =>
    intro c fields w hc hactive hdue hfields hw
    rw [exec_mr4Poll_due hphase hc hactive hdue hfields hw, settled_next, mult_capped]
    exact ⟨fun hhot => by rw [if_pos hhot], fun hcool => by rw [if_neg hcool]⟩
  case refresh =>
    have hguard : (decide (c < s.memc.nch) && s.power = psSTANDBY) = true := by simp [hc, hpower]
    exact ⟨fun hactive hidle => settled_of_guard (by simp [hc, hpower, hactive, hidle]),
      fun h => settled_of_guard_eq hguard (channelTouch_inSelfRefresh h),
      fun h hpend => settled_of_guard_eq hguard (channelTouch_pending h hpend),
      fun h hpend => settled_of_guard_eq hguard (channelTouch_idle h hpend)⟩

end Sys2Proof.Machine
end

section
/-! Commands of engines (R150, R152, R170), lattices (R161, R188) and threads (R203-R213): O42, O43 and O44. -/

namespace Sys2Proof.Machine

variable {s a : State}

/-! ### Engine commands (R150, R170) -/

section EngineCommands

variable {e t : Nat} {f : State → State} (he : e < 64) (hcrew : s.crewOn (e / 8) = true) (hfree : s.busy (ENG_CMD e) = false)
include he hcrew hfree

theorem engCommand_accepted {op : Nat} (ht : t < 8) :
    s.engCommand e op t f = f (s.accepted (ENG_CMD e) (op + 16 * t)) := by
  rw [State.engCommand, if_neg (by simp [he, hcrew]), command_accepted hfree, Nat.mod_eq_of_lt ht]

theorem engStop_accepted (ha : a = s.accepted (ENG_CMD e) 1) :
    s.engStop e = a.setStat (ENG_CMD e) (if a.bit (ENG_STAT_STOPPED e) then stDONE else stBUSY) := by
  rw [State.engStop, engCommand_accepted he hcrew hfree (by decide), ha]

theorem engResume_running (ha : a = s.accepted (ENG_CMD e) 2) (hon : a.bit (ENG_STAT_STOPPED e) = false) :
    s.engResume e = a.setStat (ENG_CMD e) stREFUSED := by
  rw [State.engResume, engCommand_accepted he hcrew hfree (by decide), ← ha]
  exact if_pos (by simp [hon])

theorem engResume_stopped (ha : a = s.accepted (ENG_CMD e) 2) (hoff : a.bit (ENG_STAT_STOPPED e) = true) :
    s.engResume e = ((List.range 8).foldl (fun (x : State) t => x.resumeSlot e t) (a.set (ENG_STAT_STOPPED e) 0)).setStat
      (ENG_CMD e) stDONE := by
  rw [State.engResume, engCommand_accepted he hcrew hfree (by decide), ← ha]
  exact if_neg (by simp [hoff])

theorem engStep_running (ht : t < 8) (ha : a = s.accepted (ENG_CMD e) (3 + 16 * t))
    (hon : a.bit (ENG_STAT_STOPPED e) = false) : s.engStep e t = a.setStat (ENG_CMD e) stREFUSED := by
  rw [State.engStep, engCommand_accepted he hcrew hfree ht, ← ha]
  exact if_pos (by simp [hon])

theorem engStep_stopped (ht : t < 8) (ha : a = s.accepted (ENG_CMD e) (3 + 16 * t))
    (hoff : a.bit (ENG_STAT_STOPPED e) = true) (hst : (a.slot e t).st = .stopped) (hprior : (a.slot e t).prior = .ready)
    (hheld : a.held e t = false) : s.engStep e t = (a.stepSlot e t).setStat (ENG_CMD e) stDONE := by
  rw [State.engStep, engCommand_accepted he hcrew hfree ht, ← ha]
  simp only [Nat.mod_eq_of_lt ht]
  exact if_neg (by simp [hoff, hst, hprior, hheld])

theorem engClear_fault (ht : t < 8) (ha : a = s.accepted (ENG_CMD e) (4 + 16 * t)) (hst : (a.slot e t).st = .fault) :
    s.engClear e t = (a.endSlot e t).setStat (ENG_CMD e) stDONE := by
  rw [State.engClear, engCommand_accepted he hcrew hfree ht, ← ha, Nat.mod_eq_of_lt ht, if_neg (not_not_intro hst)]

theorem engClear_noFault (ht : t < 8) (ha : a = s.accepted (ENG_CMD e) (4 + 16 * t)) (hst : (a.slot e t).st ≠ .fault) :
    s.engClear e t = a.setStat (ENG_CMD e) stREFUSED := by
  rw [State.engClear, engCommand_accepted he hcrew hfree ht, ← ha, Nat.mod_eq_of_lt ht, if_pos hst, State.engRefuse]

theorem engGate_occupied (ha : a = s.accepted (ENG_CMD e) 5) (hres : a.resident e ≠ []) :
    s.engGate e = a.setStat (ENG_CMD e) stREFUSED := by
  rw [State.engGate, engCommand_accepted he hcrew hfree (by decide), ← ha, if_pos hres, State.engRefuse]

/-- Gating an engine of a crew that keeps another one powered. -/
theorem engGate_empty (ha : a = s.accepted (ENG_CMD e) 5) (hres : a.resident e = [])
    (hgated : (a.set (ENG_STAT_GATED e) 1).crewGated (e / 8) = false) :
    s.engGate e = (a.set (ENG_STAT_GATED e) 1).setStat (ENG_CMD e) stDONE := by
  rw [State.engGate, engCommand_accepted he hcrew hfree (by decide), ← ha, if_neg (not_not_intro hres), State.gateEngine,
    if_neg (by simp [hgated])]

theorem engUngate_powered (ha : a = s.accepted (ENG_CMD e) 6) (hon : a.bit (ENG_STAT_GATED e) = false) :
    s.engUngate e = a.setStat (ENG_CMD e) stDONE := by
  rw [State.engUngate, engCommand_accepted he hcrew hfree (by decide), ← ha, if_neg (by simp [hon])]

theorem engUngate_gated (ha : a = s.accepted (ENG_CMD e) 6) (hoff : a.bit (ENG_STAT_GATED e) = true)
    (hready : a.ready = true) (hgated : a.crewGated (e / 8) = false) :
    s.engUngate e = ((a.set (ENG_STAT_GATED e) 0).takeCode e).setStat (ENG_CMD e) stDONE := by
  rw [State.engUngate, engCommand_accepted he hcrew hfree (by decide), ← ha, if_pos (by simp [hoff, hready]),
    State.ungateEngine, if_neg (by simp [hgated])]

end EngineCommands

/-- Settles O42. -/
theorem engineCommandsAct : Obligations.EngineCommandsAct := by
  intro s e hrun he hcrew
  refine ⟨fun hfree => ⟨?stop, ?resume, ?step, ?clear, ?gate, ?ungate⟩, ?drained, ?pace⟩
  case stop => exact fun a ha => settled_running_of_eq hrun (engStop_accepted he hcrew hfree ha)
  case resume =>
    exact fun a ha => ⟨fun hon => settled_running_of_eq hrun (engResume_running he hcrew hfree ha hon),
      fun hoff => settled_running_of_eq hrun (engResume_stopped he hcrew hfree ha hoff)⟩
  case step =>
    refine fun t a ht ha => ⟨fun hon => settled_running_of_eq hrun (engStep_running he hcrew hfree ht ha hon), ?_⟩
    intro b y hoff hst hprior _ hheld hb hy
    refine settled_running_of_eq hrun ((engStep_stopped he hcrew hfree ht ha hoff hst hprior hheld).trans ?_)
    rw [hy, hb]
    rfl
  case clear =>
    exact fun t a ht ha => ⟨fun hst => settled_running_of_eq hrun (engClear_fault he hcrew hfree ht ha hst),
      fun hst => settled_running_of_eq hrun (engClear_noFault he hcrew hfree ht ha hst)⟩
  case gate =>
    exact fun a ha => ⟨fun hres => settled_running_of_eq hrun (engGate_occupied he hcrew hfree ha hres),
      fun hres hgated => settled_running_of_eq hrun (engGate_empty he hcrew hfree ha hres hgated)⟩
  case ungate =>
    exact fun a ha => ⟨fun hon => settled_running_of_eq hrun (engUngate_powered he hcrew hfree ha hon),
      fun hoff hready hgated => settled_running_of_eq hrun (engUngate_gated he hcrew hfree ha hoff hready hgated)⟩
  case drained => exact fun hstop hnone => settled_of_guard (by simp [hrun, hstop, hnone])
  case pace =>
    intro n b hgated hn hdue hb
    exact settled_of_guard_eq (by simp only [hrun, hcrew, hgated, hn, hdue]; rfl) (by rw [State.paceWindow, hb])

/-! ### Lattices (R161, R188) -/

section Lattices

variable {c k u z : Nat} {f : State → Nat → Nat → Nat → State} (hcrew : s.crewOn c = true) (hk : k < 4) (hu : u < 8) (hz : z < 2)
  (hfree : s.busy (CMP_CREW_LUTCMD c) = false)
include hcrew hk hu hz hfree

theorem lutCommand_refused {op : Nat} (ha : a = s.accepted (CMP_CREW_LUTCMD c) (lutWord op k u z))
    (hbad : a.lutRefused c k u z (op ≠ 2) = true) :
    s.lutCommand c op k u z f = a.setStat (CMP_CREW_LUTCMD c) stREFUSED := by
  rw [State.lutCommand, if_neg (by simp [hcrew]), command_accepted hfree, ← ha, Nat.mod_eq_of_lt hk, Nat.mod_eq_of_lt hu,
    Nat.mod_eq_of_lt hz, if_pos hbad]

theorem lutCommand_accepted {op : Nat} (ha : a = s.accepted (CMP_CREW_LUTCMD c) (lutWord op k u z))
    (hok : a.lutRefused c k u z (op ≠ 2) = false) : s.lutCommand c op k u z f = f a k u z := by
  rw [State.lutCommand, if_neg (by simp [hcrew]), command_accepted hfree, ← ha, Nat.mod_eq_of_lt hk, Nat.mod_eq_of_lt hu,
    Nat.mod_eq_of_lt hz, if_neg (Bool.eq_false_iff.1 hok)]

/-- The copy starts where DRAM holds the source (R161). -/
theorem lutLoad_accepted (ha : a = s.accepted (CMP_CREW_LUTCMD c) (lutWord 1 k u z))
    (hok : a.lutRefused c k u z true = false) (hup : a.dramUp = true)
    (hsrc : pageOff (a.rd (CMP_CREW_LUTSRC c)) + latticeBytes (z = 1) ≤ a.dramBytes) : s.lutLoad c k u z =
      ((a.setLoaded c k u false).setCrew c { a.crew c with loading := some (k, u, z) }).setStat (CMP_CREW_LUTCMD c) stBUSY := by
  rw [State.lutLoad, lutCommand_accepted hcrew hk hu hz hfree ha hok, if_neg (by simp [hup, hsrc])]

end Lattices

/-- What a lattice command is refused for, whichever it is (R161, R188). -/
theorem lutRefused_of_fields {c k u z : Nat} {sizes : Bool}
    (h : u = 7 ∨ s.bit (CMP_CREW_LUTSLOT_LOCK c k) = true ∨ (z = 1 ∧ u ≠ 0)) : s.lutRefused c k u z sizes = true := by
  rcases h with h | h | ⟨hz, hu⟩
  · simp [State.lutRefused, h]
  · simp [State.lutRefused, h]
  · simp [State.lutRefused, hz, hu]

theorem lutLoadDone_copied {c k u z : Nat} {l : List Byte} {d b : State} (hload : (s.crew c).loading = some (k, u, z))
    (hread : s.dramRead (pageOff (s.rd (CMP_CREW_LUTSRC c))) (latticeBytes (z = 1)) = (l, d))
    (hb : b = ((d.putBytes (latticeBase c k u) l).set (CMP_CREW_LUTSLOT_SIZE c k) z).setLoaded c k u true) :
    s.lutLoadDone c = (b.setCrew c { b.crew c with loading := none }).setStat (CMP_CREW_LUTCMD c) stDONE := by
  simp only [State.lutLoadDone, hload, hread, ← hb]

/-- Settles O43. -/
theorem latticeCommandsAct : Obligations.LatticeCommandsAct := by
  intro s c k u hrun hcrew hk hu
  refine ⟨fun hfree => ⟨?load, ?mark, ?unload⟩, ?done⟩
  case load =>
    refine fun z a hz ha => ⟨fun hbad => settled_running_of_eq hrun ?_, fun hok hup hsrc => settled_running_of_eq hrun ?_⟩
    · exact lutCommand_refused hcrew hk hu hz hfree ha (lutRefused_of_fields hbad)
    · exact lutLoad_accepted hcrew hk hu hz hfree ha hok hup hsrc
  case mark =>
    exact fun z a hz ha hok => settled_running_of_eq hrun (lutCommand_accepted hcrew hk hu hz hfree ha hok)
  case unload =>
    exact fun a ha hok => settled_running_of_eq hrun (lutCommand_accepted hcrew hk hu (by decide) hfree ha hok)
  case done =>
    exact fun z l d b hload hread hb =>
      settled_of_guard_eq (by simp [hrun, hcrew]) (lutLoadDone_copied hload hread hb)

/-! ### Thread commands (R206-R209, R213) -/

section ThreadCommands

variable {n : Nat} (hfree : s.busy TDP_CMD = false)
include hfree

theorem tdpSpawn_spawned {q : Nat} {b : State} (ha : a = s.accepted TDP_CMD 1)
    (hspawn : a.spawn (a.get TDP_ARG0_ENTRY) (a.get TDP_ARG0_PRIO) (a.get TDP_ARG0_AFFIN) (a.get TDP_ARG1_CTX)
      (a.get TDP_ARG1_NCTX + 1) (a.rd TDP_ARG2) (a.rd TDP_ARG3) false = ((some n, q), b)) :
    s.tdpSpawn = ((b.set TDP_RES_THREAD n).set TDP_RES_REASON 0).setStat TDP_CMD stDONE := by
  rw [State.tdpSpawn, command_accepted hfree, ← ha]
  simp only [hspawn]

theorem tdpSpawn_refused {q : Nat} {b : State} (ha : a = s.accepted TDP_CMD 1)
    (hspawn : a.spawn (a.get TDP_ARG0_ENTRY) (a.get TDP_ARG0_PRIO) (a.get TDP_ARG0_AFFIN) (a.get TDP_ARG1_CTX)
      (a.get TDP_ARG1_NCTX + 1) (a.rd TDP_ARG2) (a.rd TDP_ARG3) false = ((none, q), b)) :
    s.tdpSpawn = (b.set TDP_RES_REASON q).setStat TDP_CMD stREFUSED := by
  rw [State.tdpSpawn, command_accepted hfree, ← ha]
  simp only [hspawn]

variable (hn : n < 1024)
include hn

theorem tdpKill_refused (ha : a = s.accepted TDP_CMD (2 + 2 ^ 4 * n))
    (hst : (a.thread n).st = .free ∨ (a.thread n).st = .kernel) : s.tdpKill n = a.setStat TDP_CMD stREFUSED := by
  rw [State.tdpKill, command_accepted hfree, Nat.mod_eq_of_lt hn, ← ha]
  exact if_pos hst

theorem tdpKill_accepted (ha : a = s.accepted TDP_CMD (2 + 2 ^ 4 * n)) (hst : (a.thread n).st ≠ .free)
    (hkernel : (a.thread n).st ≠ .kernel) : s.tdpKill n = (a.setStat TDP_CMD stBUSY).killThread n := by
  rw [State.tdpKill, command_accepted hfree, Nat.mod_eq_of_lt hn, ← ha]
  exact if_neg (not_or.2 ⟨hst, hkernel⟩)

theorem tdpSignal_accepted (ha : a = s.accepted TDP_CMD (3 + 2 ^ 4 * n)) :
    s.tdpSignal n = (a.signal n (a.rd TDP_ARG2)).setStat TDP_CMD stDONE := by
  rw [State.tdpSignal, command_accepted hfree, Nat.mod_eq_of_lt hn, ← ha]

variable {p : Nat} (hp : p < 32) (ha : a = s.accepted TDP_CMD (4 + 2 ^ 4 * n + 2 ^ 14 * p))
include hp ha

theorem tdpSetprio_placed (hst : (a.thread n).st = .placed) :
    s.tdpSetprio n p = (a.setThread n { a.thread n with prio := p }).setStat TDP_CMD stDONE := by
  rw [State.tdpSetprio, command_accepted hfree, Nat.mod_eq_of_lt hn, Nat.mod_eq_of_lt hp, ← ha]
  simp [hst]

/-- An unplaced thread goes to the tail of its new list (R210). -/
theorem tdpSetprio_unplaced {b : State} (hst : (a.thread n).st = .unplaced)
    (hb : b = a.setThread n { a.thread n with prio := p }) : s.tdpSetprio n p =
      ({ b with eng := { b.eng with ready := b.eng.ready.filter (fun u => u ≠ n) ++ [n] } } : State).setStat TDP_CMD stDONE := by
  rw [State.tdpSetprio, command_accepted hfree, Nat.mod_eq_of_lt hn, Nat.mod_eq_of_lt hp, ← ha]
  simp [hst, hb]

end ThreadCommands

/-! ### Placement of a thread (R206, R210-R212) -/

/-- A trace entry changes the trace memory of the engines' state alone. -/
theorem eng_trace (s : State) (ev cls thr e t arg : Nat) :
    ∃ l m, (s.trace ev cls thr e t arg).eng = { s.eng with trc := l, trcN := m } := by
  rw [State.trace]
  split
  · exact ⟨_, _, rfl⟩
  split
  · exact ⟨_, _, by rw [State.bump_eng]⟩
  dsimp only
  split
  · exact ⟨_, _, by rw [State.set_eng, State.set_eng]⟩
  · exact ⟨_, _, by rw [State.set_eng]⟩

/-- The slot a placed thread starts in: its entry, s0 and s1 as spawned, the rest clear (R206). -/
def Thr.placedSlot (x : Thr) (n : Nat) : Slot :=
  ({ Slot.init with st := .ready, pc := x.entry, thr := n }.setS 0 x.s0).setS 1 (BitVec.ofNat 32 x.ctx)

section Placed

variable (s : State) (n e t : Nat)

theorem eng_placeIn : ∃ l m, (s.placeIn n e t).eng = { s.eng with
    slots := mput Slot.init s.eng.slots (8 * e + t) ((s.thread n).placedSlot n)
    thr := mput Thr.init s.eng.thr n { s.thread n with st := .placed, eng := e, slot := t }
    ready := s.eng.ready.filter (fun u => u ≠ n), trc := l, trcN := m } := by
  obtain ⟨l, m, h⟩ := eng_trace (({ s with eng := { s.eng with
    slots := mput Slot.init s.eng.slots (8 * e + t) ((s.thread n).placedSlot n)
    thr := mput Thr.init s.eng.thr n { s.thread n with st := .placed, eng := e, slot := t }
    ready := s.eng.ready.filter (fun u => u ≠ n) } } : State).bump TDP_PLACED) 0x02 0 n e t (s.thread n).prio
  rw [State.bump_eng] at h
  exact ⟨l, m, h⟩

theorem slot_placeIn : (s.placeIn n e t).slot e t = (s.thread n).placedSlot n := by
  obtain ⟨l, m, h⟩ := eng_placeIn s n e t
  rw [State.slot, h, mget_mput_same]

theorem thread_placeIn : (s.placeIn n e t).thread n = { s.thread n with st := .placed, eng := e, slot := t } := by
  obtain ⟨l, m, h⟩ := eng_placeIn s n e t
  rw [State.thread, h, mget_mput_same]

theorem not_mem_ready_placeIn : n ∉ (s.placeIn n e t).eng.ready := by
  obtain ⟨l, m, h⟩ := eng_placeIn s n e t
  simp [h]

end Placed

theorem sreg_setS_same (x : Slot) (r : Nat) (w : Word) : (x.setS r w).sreg r = w := mget_mput_same _ _ _ _

theorem sreg_setS_ne (x : Slot) {r q : Nat} (w : Word) (h : q ≠ r) : (x.setS r w).sreg q = x.sreg q :=
  mget_mput_ne _ _ _ _ h

theorem placeOne_best {n e t : Nat} (hn : s.bestThread = some n) (he : s.bestEngine (s.thread n).affin = some e)
    (ht : (List.range 8).find? (fun t => s.slotOpen e t) = some t) : s.placeOne = s.placeIn n e t := by
  simp only [State.placeOne, hn, he, ht]

/-- Settles O44. -/
theorem threadCommandsAct : Obligations.ThreadCommandsAct := by
  intro s hrun
  refine ⟨fun hfree => ⟨?spawned, ?refused, fun n hn => ⟨?kill, ?signal, ?prio⟩⟩, ?place⟩
  case spawned => exact fun a n q b ha hspawn => settled_running_of_eq hrun (tdpSpawn_spawned hfree ha hspawn)
  case refused => exact fun a q b ha hspawn => settled_running_of_eq hrun (tdpSpawn_refused hfree ha hspawn)
  case kill =>
    exact fun a ha => ⟨fun hst => settled_running_of_eq hrun (tdpKill_refused hfree hn ha hst),
      fun hst hkernel => settled_running_of_eq hrun (tdpKill_accepted hfree hn ha hst hkernel)⟩
  case signal => exact fun a ha => settled_running_of_eq hrun (tdpSignal_accepted hfree hn ha)
  case prio =>
    exact fun p a hp ha => ⟨fun hst => settled_running_of_eq hrun (tdpSetprio_placed hfree hn hp ha hst),
      fun b hst hb => settled_running_of_eq hrun (tdpSetprio_unplaced hfree hn hp ha hst hb)⟩
  case place =>
    intro n e t hready hn he ht
    rw [slot_placeIn, thread_placeIn]
    refine ⟨settled_of_guard_eq hready (placeOne_best hn he ht), rfl, rfl, ?_, sreg_setS_same _ _ _, fun r hr => ?_, rfl,
      not_mem_ready_placeIn s n e t⟩
    · rw [Thr.placedSlot, sreg_setS_ne _ _ (by decide), sreg_setS_same]
    · rw [Thr.placedSlot, sreg_setS_ne _ _ (by omega), sreg_setS_ne _ _ (by omega)]
      rfl

end Sys2Proof.Machine
end

section
/-! Commands of the flume manager (R216-R232, R236), the engines of FETCH and OUT and the trace (R219-R224, R234), programs
and record sets (R242, R251-R253): O45, O46 and O47. -/

namespace Sys2Proof.Machine

variable {s a : State}

/-! ### The flume manager (R236, R546) -/

section SetDepthOf

variable {d f : Nat}

/-- What SETDEPTH does with a flume of a bound context. -/
def State.setDepthOf (a : State) (f d : Nat) : State :=
  if decide (a.flumeLen f ≠ 0) || a.flumeWaiter f then a.flmRefuse fBUSY
  else if flumeBytes [d] = 0 then ((a.freeOwner (.flume f)).set (CTX_DEPTH (f / 16) (f % 16)) d).flmDone f
  else match (a.freeOwner (.flume f)).allocCrew (a.get (CTX_CREW (f / 16))) (flumeBytes [d]) (.flume f) with
    | none => a.flmRefuse fNOMEM
    | some (_, b) => (b.set (CTX_DEPTH (f / 16) (f % 16)) d).flmDone f

theorem setDepthOf_inUse (huse : a.flumeLen f ≠ 0 ∨ a.flumeWaiter f = true) : a.setDepthOf f d = a.flmRefuse fBUSY :=
  if_pos (by rcases huse with h | h <;> simp [h])

variable (hempty : a.flumeLen f = 0) (hwait : a.flumeWaiter f = false)
include hempty hwait

/-- One or two entries need no storage (R217). -/
theorem setDepthOf_small (h2 : d < 2) :
    a.setDepthOf f d = ((a.freeOwner (.flume f)).set (CTX_DEPTH (f / 16) (f % 16)) d).flmDone f := by
  have hbytes : flumeBytes [d] = 0 := by simp [flumeBytes, Nat.le_of_lt_succ h2]
  rw [State.setDepthOf, if_neg (by simp [hempty, hwait]), if_pos hbytes]

theorem setDepthOf_stored {o : Nat} {b : State} (h2 : 2 ≤ d)
    (halloc : (a.freeOwner (.flume f)).allocCrew (a.get (CTX_CREW (f / 16))) (2 ^ d * 16) (.flume f) = some (o, b)) :
    a.setDepthOf f d = (b.set (CTX_DEPTH (f / 16) (f % 16)) d).flmDone f := by
  have hbytes : flumeBytes [d] = 2 ^ d * 16 := by simp [flumeBytes, Nat.not_le.2 h2]
  have hpos : 2 ^ d * 16 ≠ 0 := Nat.ne_of_gt (Nat.mul_pos (Nat.two_pow_pos d) (by decide))
  rw [State.setDepthOf, if_neg (by simp [hempty, hwait]), hbytes, if_neg hpos]
  simp only [halloc]

end SetDepthOf

section FlumeCommands

variable {src : Src} {v : Nat} {ok : State → Bool} {op : State → State} (hfree : s.busy FLM_CMD = false)
include hfree

theorem flmCommand_accepted (ha : a = s.accepted FLM_CMD v) (hsrc : src ≠ .host ∨ ok a = true) :
    s.flmCommand src v ok op = op a := by
  rw [State.flmCommand, command_accepted hfree, ← ha, if_neg]
  rcases hsrc with h | h <;> simp [h]

theorem flmCommand_hostRefused (ha : a = s.accepted FLM_CMD v) (hok : ok a = false) :
    s.flmCommand .host v ok op = a.flmRefuse fSTATE := by
  rw [State.flmCommand, command_accepted hfree, ← ha, if_pos (by simp [hok])]

theorem flmCtxAlloc_bound {c q : Nat} {b : State} (ha : a = s.accepted FLM_CMD 1) (hsrc : src ≠ .host)
    (halloc : a.ctxAlloc (getBits (a.rd (FLM_ARG 0)) 0 16) (getBits (a.rd (FLM_ARG 0)) 16 4)
      (getBits (a.rd (FLM_ARG 0)) 20 3) (getBits (a.rd (FLM_ARG 0)) 23 1) (getBits (a.rd (FLM_ARG 0)) 24 1) = ((some c, q), b)) :
    s.flmCtxAlloc src = b.flmDone c := by
  rw [State.flmCtxAlloc, flmCommand_accepted hfree ha (.inl hsrc)]
  simp only [halloc]

theorem flmCtxFree_bound {c : Nat} (ha : a = s.accepted FLM_CMD 2) (hc : c = a.get FLM_SEL_SEL) (hsrc : src ≠ .host)
    (hlt : c < a.ctxCount) (hbound : a.get (CTX_STATE c) = cBOUND) :
    s.flmCtxFree src = ((a.set (CTX_STATE c) cDRAINING).trace0 0x19 4 c).flmDone c := by
  have hbusy : cBOUND ≠ cDRAINING := by decide
  rw [State.flmCtxFree, flmCommand_accepted hfree ha (.inl hsrc), ← hc, if_neg (by simp [hbound, hbusy]),
    if_neg (Nat.not_le.2 hlt), State.ctxFree]

section SetDepth

variable {d f : Nat} (hd : d ≤ 16) (ha : a = s.accepted FLM_CMD (3 + 2 ^ 4 * d)) (hf : f = a.get FLM_SEL_SEL)
  (hsrc : src ≠ .host ∨ 12 ≤ f % 16) (hlt : f / 16 < a.ctxCount) (hused : a.get (CTX_STATE (f / 16)) ≠ cFREE)
include hd ha hf hsrc hlt hused

/-- SETDEPTH of a flume of a bound context is left to whether the flume is in use, and to room (R216, R217). -/
theorem flmSetDepth_lawful : s.flmSetDepth src d = a.setDepthOf f d := by
  have hd32 : d % 32 = d := Nat.mod_eq_of_lt (by omega)
  have hok : src ≠ .host ∨ decide (12 ≤ a.get FLM_SEL_SEL % 16) = true := by
    rw [← hf]
    exact hsrc.imp_right decide_eq_true
  rw [State.flmSetDepth, hd32, flmCommand_accepted hfree ha hok]
  simp only [← hf]
  rw [if_neg (by simp [hused]), if_neg (by simp [hlt, hd])]
  rfl

end SetDepth

section Push

variable {f : Nat} (ha : a = s.accepted FLM_CMD 4) (hf : f = a.get FLM_SEL_SEL) (hsrc : src ≠ .host ∨ 11 ≤ f % 16)
  (hlt : f / 16 < a.ctxCount) (hused : a.get (CTX_STATE (f / 16)) ≠ cFREE)
include ha hf hsrc hlt hused

theorem flmPush_checked : s.flmPush src = if a.flumeFull f then a.flmRefuse fFULL
    else (a.pushVis f (.mk4 (a.rd (FLM_ARG 0)) (a.rd (FLM_ARG 1)) (a.rd (FLM_ARG 2)) (a.rd (FLM_ARG 3)) 0x3FF 0)).flmDone f := by
  have hok : src ≠ .host ∨ decide (11 ≤ a.get FLM_SEL_SEL % 16) = true := by
    rw [← hf]
    exact hsrc.imp_right decide_eq_true
  rw [State.flmPush, flmCommand_accepted hfree ha hok]
  simp only [← hf]
  rw [if_neg (by simp [hused]), if_neg (Nat.not_le.2 hlt)]

end Push

section Groups

variable {g : Nat} (hg : g = a.get FLM_SEL_SEL) (hlt : g < 4096)
include hg hlt

theorem flmGopen_checked {w : Nat} (hw : w < 256) (ha : a = s.accepted FLM_CMD (5 + 2 ^ 9 * w)) (hsrc : src ≠ .host)
    (hroom : a.eng.groups.length ≠ 4096) : s.flmGopen src w = if (a.group g).isSome then a.flmRefuse fBUSY
      else (a.groupOpen g (getBits (a.rd (FLM_ARG 0)) 0 16) (w + 1)).flmDone g := by
  rw [State.flmGopen, Nat.mod_eq_of_lt hw, flmCommand_accepted hfree ha (.inl hsrc)]
  simp only [← hg]
  rw [if_neg (Nat.not_le.2 hlt), if_neg hroom]

theorem flmGclose_closed (ha : a = s.accepted FLM_CMD 6) (hsrc : src ≠ .host) (hnone : a.group g = none) :
    s.flmGclose src = a.flmRefuse fSTATE := by
  rw [State.flmGclose, flmCommand_accepted hfree ha (.inl hsrc), ← hg]
  exact if_pos (by simp [hlt, hnone])

theorem flmGclose_open (ha : a = s.accepted FLM_CMD 6) (hsrc : src ≠ .host) (hsome : a.group g ≠ none) :
    s.flmGclose src = (a.closeGroup g).flmDone g := by
  rw [State.flmGclose, flmCommand_accepted hfree ha (.inl hsrc), ← hg, if_neg (by simp [hsome]), if_neg (Nat.not_le.2 hlt)]

section Skip

variable {q : Nat} {x : OGroup} (ha : a = s.accepted FLM_CMD 7) (hq : q = getBits (a.rd (FLM_ARG 0)) 0 16)
  (hx : a.group g = some x)
include ha hq hx

theorem flmGskip_outside (hbad : inWindow x q = false ∨ usedSeq x q = true) :
    s.flmGskip src = a.flmRefuse fBADARG := by
  rw [State.flmGskip, flmCommand_accepted hfree ha (.inr rfl)]
  simp only [← hg, ← hq, if_neg (Nat.not_le.2 hlt), hx]
  exact if_pos (by rcases hbad with h | h <;> simp [h])

theorem flmGskip_skipped {y : OGroup} (hin : inWindow x q = true) (hnew : usedSeq x q = false)
    (hy : (a.skipSeq g q).group g = some y) : s.flmGskip src = (a.skipSeq g q).flmDone y.base := by
  rw [State.flmGskip, flmCommand_accepted hfree ha (.inr rfl)]
  simp only [← hg, ← hq, if_neg (Nat.not_le.2 hlt), hx, hy]
  exact if_neg (by simp [hin, hnew])

end Skip

end Groups

end FlumeCommands

/-- Settles O45. -/
theorem flumeCommandsAct : Obligations.FlumeCommandsAct := by
  intro s hrun
  refine ⟨fun hfree src => ⟨?alloc, ?free, ?depth, ?push, ?gopen, ?gclose, ?gskip⟩, ?drained⟩
  case alloc =>
    exact fun a ha => ⟨settled_running_of_eq hrun (flmCommand_hostRefused hfree ha rfl),
      fun c q b hsrc halloc => settled_running_of_eq hrun (flmCtxAlloc_bound hfree ha hsrc halloc)⟩
  case free =>
    exact fun a c ha hc hsrc hlt hbound => settled_running_of_eq hrun (flmCtxFree_bound hfree ha hc hsrc hlt hbound)
  case depth =>
    intro d a f hd ha hf hsrc hlt hused
    have hset := flmSetDepth_lawful hfree hd ha hf hsrc hlt hused
    exact ⟨fun hempty hwait =>
        ⟨fun h2 => settled_running_of_eq hrun (hset.trans (setDepthOf_small hempty hwait h2)),
          fun o b h2 halloc => settled_running_of_eq hrun (hset.trans (setDepthOf_stored hempty hwait h2 halloc))⟩,
      fun huse => settled_running_of_eq hrun (hset.trans (setDepthOf_inUse huse))⟩
  case push =>
    intro a f ha hf hsrc hlt hused
    have hpush := flmPush_checked hfree ha hf hsrc hlt hused
    exact ⟨fun hfull => settled_running_of_eq hrun (hpush.trans (if_pos hfull)),
      fun hroom => settled_running_of_eq hrun (hpush.trans (if_neg (by simp [hroom])))⟩
  case gopen =>
    intro w a g hw ha hg hsrc hlt hroom
    have hopen := flmGopen_checked hfree hg hlt hw ha hsrc hroom
    exact ⟨fun hnone => settled_running_of_eq hrun (hopen.trans (if_neg (by simp [hnone]))),
      fun hsome => settled_running_of_eq hrun (hopen.trans (if_pos (Option.isSome_iff_ne_none.2 hsome)))⟩
  case gclose =>
    exact fun a g ha hg hsrc hlt =>
      ⟨fun hnone => settled_running_of_eq hrun (flmGclose_closed hfree hg hlt ha hsrc hnone),
        fun hsome => settled_running_of_eq hrun (flmGclose_open hfree hg hlt ha hsrc hsome)⟩
  case gskip =>
    intro a g q x ha hg hlt hq hx
    exact ⟨fun hbad => settled_running_of_eq hrun (flmGskip_outside hfree hg hlt ha hq hx hbad),
      fun y hin hnew hy => settled_running_of_eq hrun (flmGskip_skipped hfree hg hlt ha hq hx hin hnew hy)⟩
  case drained =>
    exact fun c hc hdrain hempty => settled_of_guard (by simp [hrun, hc, hdrain, hempty])

/-! ### FETCH and OUT (R219-R224) -/

theorem fetchTake_next {c f : Nat} {unc : Bool} {x : FEntry} (hnext : s.nextEntry (s.fetchServes c) = some (f, x)) :
    s.fetchTake c unc = s.takeFetch c f x unc := by
  simp only [State.fetchTake, hnext]

/-- The oldest entry in progress, of this crew, has moved its lines. -/
theorem fetchFinish_first {c : Nat} {i j : InFlight} {l : List InFlight} {r : State} (hunit : i.unit = c)
    (hmore : s.fetchMore i = (j, r)) (hdone : i.e.fLines ≤ j.done) :
    s.fetchFinish c [] (i :: l) = ({ r with eng := { r.eng with flight := l } } : State).completeEntry j := by
  rw [State.fetchFinish, if_neg (not_not_intro hunit), hmore]
  exact if_pos hdone

theorem outTake_next {u f : Nat} {unc : Bool} {x : FEntry} (hnext : s.nextEntry (s.outServes u) = some (f, x))
    (hroom : u ≠ uOWN ∨ x.outOk = false ∨ s.ownFree x = true) : s.outTake u unc = s.takeOut u f x unc := by
  simp only [State.outTake, hnext]
  exact if_neg (by rcases hroom with h | h | h <;> simp [h])

/-! ### The trace (R234) -/

theorem trcClear_enabled (hfree : s.busy TRC_CMD = false) (ha : a = s.accepted TRC_CMD 1) (hen : a.bit TRC_CTL_EN = true) :
    s.trcClear = a.setStat TRC_CMD stREFUSED := by
  rw [State.trcClear, command_accepted hfree, ← ha, if_pos hen]

theorem trcClear_stopped (hfree : s.busy TRC_CMD = false) (ha : a = s.accepted TRC_CMD 1) (hen : a.bit TRC_CTL_EN = false) :
    s.trcClear = (({ a with eng := { a.eng with trc := [], trcN := 0 } } : State).wr TRC_WIDX 0).setStat TRC_CMD stDONE := by
  rw [State.trcClear, command_accepted hfree, ← ha]
  exact if_neg (by simp [hen])

/-- Settles O46. -/
theorem fetchOutAndTraceAct : Obligations.FetchOutAndTraceAct := by
  intro s
  refine ⟨fun c hready hcrew => ⟨?fetchTake, ?fetchDone⟩, fun u hready hu => ⟨?outTake, ?outDone⟩, fun a hrun hfree ha => ?clear⟩
  case fetchTake => exact fun unc f x hnext => settled_of_guard_eq (by simp [hready, hcrew]) (fetchTake_next hnext)
  case fetchDone =>
    intro i l j r hflight hunit hmore hdone
    exact settled_of_guard_eq (by simp [hready, hcrew]) (by rw [hflight, fetchFinish_first hunit hmore hdone])
  case outTake =>
    exact fun unc f x hnext hroom =>
      settled_of_guard_eq (by simp only [hready, hu]; rfl) (outTake_next hnext hroom)
  case outDone =>
    intro i hi
    have hguard : (s.ready && decide (u ≤ uMONITOR)) = true := by simp only [hready, hu]; rfl
    change execOutComplete u s = _
    rw [execOutComplete, if_pos hguard, hi, settled_next]
    rfl
  case clear =>
    exact ⟨fun hen => settled_running_of_eq hrun (trcClear_enabled hfree ha hen),
      fun hen => settled_running_of_eq hrun (trcClear_stopped hfree ha hen)⟩

end Sys2Proof.Machine
end

section
/-! Programs and record sets of CMP_CMD (R242, R251-R253): O47. -/

namespace Sys2Proof.Machine

variable {s a b : State}

section Commands

variable {p : Nat} (hfree : s.busy CMP_CMD = false)
include hfree

section Load

variable {n o : Nat} {h l : List Byte} (hp : p < 32) (ha : a = s.accepted CMP_CMD (1 + 16 * p))
  (ho : o = (a.rd CMP_ARG0).toNat * 4096) (hup : a.dramUp = true) (hh : h = a.bytes (dramBase + o) 0xC0) (hn : n = imgWord h 8)
  (hin : o + 0xC0 + n ≤ a.dramBytes) (hsize : n ≤ 131072) (hl : l = a.bytes (dramBase + o) (0xC0 + n))
include hp ha ho hup hh hn hin hsize hl

/-- An image that DRAM holds and that passes the table is copied (R251). -/
theorem cmpLoad_ok {c : Nat} (hcheck : a.loadCheck p l = .ok c) : s.cmpLoad p = (({ a with cmp := { a.cmp with
    loading := some (p, { imgProg l with base := c }, l.drop 0xC0) } } : State).setStat CMP_CMD stBUSY) := by
  have hfits : ¬(!a.dramUp || decide (a.dramBytes < o + 0xC0)) = true := by simp [hup]; omega
  have hlong : ¬(a.dramBytes < o + 0xC0 + n ∨ 131072 < n) := by omega
  rw [State.cmpLoad, Nat.mod_eq_of_lt hp, command_accepted hfree, ← ha]
  simp only [← ho]
  rw [if_neg hfits]
  simp only [← hh, ← hn, if_neg hlong, ← hl, hcheck]
  rfl

theorem cmpLoad_error {r : Nat × Nat} (hcheck : a.loadCheck p l = .error r) :
    s.cmpLoad p = (a.cmpRefuse r).bump CMP_LOADREF := by
  have hfits : ¬(!a.dramUp || decide (a.dramBytes < o + 0xC0)) = true := by simp [hup]; omega
  have hlong : ¬(a.dramBytes < o + 0xC0 + n ∨ 131072 < n) := by omega
  rw [State.cmpLoad, Nat.mod_eq_of_lt hp, command_accepted hfree, ← ha]
  simp only [← ho]
  rw [if_neg hfits]
  simp only [← hh, ← hn, if_neg hlong, ← hl, hcheck]

end Load

theorem cmpUnload_used (hp : p < 32) (ha : a = s.accepted CMP_CMD (2 + 16 * p)) (hused : a.progUsed p = true) :
    s.cmpUnload p = a.cmpRefuse (qBUSY, 0) := by
  rw [State.cmpUnload, Nat.mod_eq_of_lt hp, command_accepted hfree, ← ha]
  exact if_pos hused

theorem cmpUnload_unused (hp : p < 32) (ha : a = s.accepted CMP_CMD (2 + 16 * p)) (hused : a.progUsed p = false)
    (hb : b = { a with eng := { a.eng with code := a.eng.code.filter (fun c => c.prog ≠ p) }
                       cmp := { a.cmp with progs := merase p a.cmp.progs } }) :
    s.cmpUnload p = (((b.wr (CMP_PROG0 p) 0).wr (CMP_PROG1 p) 0).lockRefresh).setStat CMP_CMD stDONE := by
  subst hb
  rw [State.cmpUnload, Nat.mod_eq_of_lt hp, command_accepted hfree, ← ha]
  exact if_neg (by simp [hused])

theorem cmpArm_ok {nx : Bool} (ha : a = s.accepted CMP_CMD (3 + if nx then 512 else 0)) (hcheck : a.armCheck nx = none) :
    s.cmpArm nx = ((a.setAll [(CMP_STAT_ARMPEND, 1), (CMP_STAT_ARMNEXT, if nx then 1 else 0),
      (CMP_STAT_ATSEQ, if nx then 0 else getBits (a.rd CMP_ARG0) 0 16)]).lockRefresh).setStat CMP_CMD stDONE := by
  rw [State.cmpArm, command_accepted hfree, ← ha]
  simp only [hcheck]

theorem cmpArm_refused {nx : Bool} {r : Nat × Nat} (ha : a = s.accepted CMP_CMD (3 + if nx then 512 else 0))
    (hcheck : a.armCheck nx = some r) (hr : r.1 ≠ qLATE) : s.cmpArm nx = a.cmpRefuse r := by
  rw [State.cmpArm, command_accepted hfree, ← ha]
  simp only [hcheck, if_neg hr]

theorem cmpDisarm_accepted (ha : a = s.accepted CMP_CMD 4) :
    s.cmpDisarm = ((a.wr CMP_STAT 0).lockRefresh).setStat CMP_CMD stDONE := by
  rw [State.cmpDisarm, command_accepted hfree, ← ha]

end Commands

/-- The code of a program stands in every powered engine, and its index reads LOADED (R252). -/
theorem progLoaded_eq {i : Nat} {g : Prog} {code : List Byte} {d : State}
    (hb : b = { s with eng := { s.eng with code := s.eng.code ++ [⟨i, g.base, code⟩] } })
    (hd : d = ((List.range 64).filter b.engOn).foldl (fun (x : State) e => x.putBytes (lsBase e + g.base) code) b) :
    s.progLoaded i g code = ((({ d with cmp := { d.cmp with loading := none
                                                            progs := minsert i g (merase i d.cmp.progs) } } : State).showProg i
      (some g)).lockRefresh).setStat CMP_CMD stDONE := by
  subst hb hd
  rfl

theorem exec_programLoadDone_loading {i : Nat} {g : Prog} {code : List Byte} (hrun : s.running = true) (hhead : s.head = true)
    (hload : s.cmp.loading = some (i, g, code)) :
    exec .programLoadDone s = .next (s.progLoaded i g code).settle := by
  change execProgramLoadDone s = _
  simp [execProgramLoadDone, hload, hrun, hhead, settled_next]

/-- Settles O47. -/
theorem programAndRecordCommandsAct : Obligations.ProgramAndRecordCommandsAct := by
  intro s hrun hhead
  have hguard : (s.running && s.head) = true := by rw [hrun, hhead]; rfl
  refine ⟨fun hfree => ⟨?load, ?unload, ?arm, ?disarm⟩, ?done⟩
  case load =>
    exact fun p a h n l o hp ha ho hup hh hn hin hsize hl =>
      ⟨fun c hcheck => settled_of_guard_eq hguard (cmpLoad_ok hfree hp ha ho hup hh hn hin hsize hl hcheck),
        fun r hcheck => settled_of_guard_eq hguard (cmpLoad_error hfree hp ha ho hup hh hn hin hsize hl hcheck)⟩
  case unload =>
    exact fun p a hp ha => ⟨fun hused => settled_of_guard_eq hguard (cmpUnload_used hfree hp ha hused),
      fun b hused hb => settled_of_guard_eq hguard (cmpUnload_unused hfree hp ha hused hb)⟩
  case arm =>
    exact fun nx a ha => ⟨fun hcheck => settled_of_guard_eq hguard (cmpArm_ok hfree ha hcheck),
      fun r hcheck hr => settled_of_guard_eq hguard (cmpArm_refused hfree ha hcheck hr)⟩
  case disarm => exact fun a ha => settled_of_guard_eq hguard (cmpDisarm_accepted hfree ha)
  case done =>
    intro i g code b d hload hb hd
    rw [exec_programLoadDone_loading hrun hhead hload, progLoaded_eq hb hd]

end Sys2Proof.Machine
end

section
/-! Frames and credit on Skidline ports (R286-R304), the intake of a tile, discovery and enumeration (R307-R319):
O48, O49 and O50. -/

namespace Sys2Proof.Machine

variable {s a b : State} {p : Nat}

/-! ### Credit and frames -/

section Credit

variable {u : List Byte}

theorem tally_good (hkind : numAt u 0 1 = 2) (hlen : u.length = 32) (hcrc : crc16 (u.take 30) = numAt u 30 2)
    (hreset : numAt u 12 1 % 2 = 0) : s.tally p u = s.setPort p { s.port p with
      cumB := numAt u 2 3, cumC := numAt u 5 3, bufB := numAt u 8 2, bufC := numAt u 10 2, seq := numAt u 1 1 } := by
  simp [State.tally, hkind, hlen, hcrc, hreset]

theorem tally_reset (hkind : numAt u 0 1 = 2) (hlen : u.length = 32) (hcrc : crc16 (u.take 30) = numAt u 30 2)
    (hreset : numAt u 12 1 % 2 = 1) : s.tally p u = s.setPort p { s.port p with
      sentB := 0, sentC := 0, cumB := numAt u 2 3, cumC := numAt u 5 3, bufB := numAt u 8 2, bufC := numAt u 10 2
      seq := numAt u 1 1 } := by
  simp [State.tally, hkind, hlen, hcrc, hreset]

theorem tally_bad (h : numAt u 0 1 ≠ 2 ∨ u.length ≠ 32 ∨ crc16 (u.take 30) ≠ numAt u 30 2) :
    s.tally p u = s.bump (SKD_TALLYERR p) := if_pos h

end Credit

section Reception

variable {r : RxFrame} {at0 : Nat}

theorem receive_headerCrc (hcrc : headerCrcOk r.hdr = false) : s.receive p r at0 =
    ((s.setPort p { s.port p with last := s.now }).bump (SKD_HCRC p)).disc p (parseHeader r.hdr).1.typ dHCRC
      (parseHeader r.hdr).1.src := by
  simp [State.receive, hcrc]

theorem receive_badHeader (hcrc : headerCrcOk r.hdr = true) (hok : headerOk r.hdr = false) : s.receive p r at0 =
    ((s.setPort p { s.port p with last := s.now }).bump (SKD_BADHDR p)).disc p (parseHeader r.hdr).1.typ dBADHDR
      (parseHeader r.hdr).1.src := by
  simp [State.receive, hcrc, hok]

/-- A whole frame that the unit consumes and forwards nowhere is counted and reaches the unit that uses it (R296). -/
theorem receive_consumed {f : Frame} (hcrc : headerCrcOk r.hdr = true) (hok : headerOk r.hdr = true)
    (hf : f = { (parseHeader r.hdr).1 with pay := r.data.take (parseHeader r.hdr).2 })
    (hend : rxEnd r (parseHeader r.hdr).2 (crc32c (r.hdr ++ f.pay)) = .ok) (ha : a = s.setPort p { s.port p with last := s.now })
    (hroute : a.route p f = ⟨true, none, false⟩) (hsync : s.head = true ∨ f.isSync = false) :
    s.receive p r at0 = (a.countEnd p f .ok).consume p f at0 true := by
  have hhead : (a.countEnd p f .ok).head = s.head := by subst ha; exact State.bump_head _ _
  have htile : (!s.head && f.isSync) = false := by cases hsync with
    | inl h => simp [h]
    | inr h => simp [h]
  have hpay : f.pay = r.data.take (parseHeader r.hdr).2 := by rw [hf]
  rw [hpay] at hend
  simp [State.receive, ← hf, hcrc, hok, hend, ← ha, hroute, hhead, htile]

end Reception

/-- Settles O48. -/
theorem framesAndCreditMove : Obligations.FramesAndCreditMove := by
  intro s p hp hactive
  have hguard : (decide (p < s.portCount) && s.active p) = true := by rw [hactive, decide_eq_true hp]; rfl
  refine ⟨?good, ?reset, ?bad, ?header, ?tx⟩
  case good => exact fun u hkind hlen hcrc hreset => settled_of_guard_eq hguard (tally_good hkind hlen hcrc hreset)
  case reset => exact fun u hkind hlen hcrc hreset => settled_of_guard_eq hguard (tally_reset hkind hlen hcrc hreset)
  case bad => exact fun u hbad => settled_of_guard_eq hguard (tally_bad hbad)
  case header =>
    intro r hrun hen
    have hrx : (s.running && decide (p < s.portCount) && s.active p && s.bit (SKD_PORT_CFG_EN p)) = true := by
      simp [hrun, hp, hactive, hen]
    have hfree (h : (s.port p).held = false) : s.frameRx p r = s.receive p r s.tm.wall := if_neg (by simp [h])
    exact ⟨fun hheld => settled_of_guard_eq hrx (if_pos hheld),
      fun hheld hcrc => settled_of_guard_eq hrx ((hfree hheld).trans (receive_headerCrc hcrc)),
      fun hheld hcrc hok => settled_of_guard_eq hrx ((hfree hheld).trans (receive_badHeader hcrc hok)),
      fun f a hheld hcrc hok hf hend ha hroute hsync =>
        settled_of_guard_eq hrx ((hfree hheld).trans (receive_consumed hcrc hok hf hend ha hroute hsync))⟩
  case tx =>
    intro n a hcal ha
    have hsend : (decide (p < s.portCount) && s.active p && decide ((s.port p).calTx ≤ s.now)) = true := by
      rw [hguard, decide_eq_true hcal]; rfl
    exact ⟨fun hnone => settled_of_guard_eq hsend (by simp only [State.frameTx, ← ha, hnone]),
      fun i hi => settled_of_guard_eq hsend (by simp only [State.frameTx, ← ha, hi])⟩

/-! ### The intake of a tile and discovery -/

section Intake

variable {i : RxItem} {l : List RxItem}

theorem intake_taken (hrx : (s.port p).rx = i :: l) (hok : s.intakeOk i.f = true)
    (ha : a = s.setPort p { s.port p with rx := l, held := false }) (hb : b = if i.owed then a.freeUnits (some p) i.f else a) :
    s.intake p = if i.f.typ = fPIX then b.takePix p i.f else b.takeCmt i.f := by
  subst ha hb
  simp only [State.intake, hrx, hok, if_true]

theorem intake_held (hrx : (s.port p).rx = i :: l) (hok : s.intakeOk i.f = false) (hheld : (s.port p).held = false) :
    s.intake p = (s.setPort p { s.port p with held := true }).bump (SKD_HOLD p) := by
  simp [State.intake, hrx, hok, hheld]

theorem frontType_cons (hrx : (s.port p).rx = i :: l) : s.frontType p = i.f.typ := by
  simp only [State.frontType, hrx]

/-- PIX_RX and CMT_RX hand a tile's front frame of their type to the intake. -/
theorem exec_intake {c : Instr} {t : Nat} (hready : s.ready = true) (htile : s.head = false) (hp : p < 4)
    (hheld : (s.port p).held = false) (hfront : s.frontType p = t) (hc : t = fPIX ∧ c = .pixRx p ∨ t = fCMT ∧ c = .cmtRx p) :
    exec c s = .next (s.intake p).settle := by
  obtain ⟨rfl, rfl⟩ | ⟨rfl, rfl⟩ := hc
  · exact settled_of_guard (by simp [hready, htile, hp, hheld, hfront])
  · exact settled_of_guard (by simp [hready, htile, hp, hheld, hfront])

theorem exec_pixHoldRelease_room (hready : s.ready = true) (htile : s.head = false) (hp : p < 4)
    (hheld : (s.port p).held = true) (hrx : (s.port p).rx = i :: l) (hok : s.intakeOk i.f = true) :
    exec (.pixHoldRelease p) s = .next ((s.intake p).releaseBehind p).settle := by
  change execPixHoldRelease p s = _
  simp [execPixHoldRelease, hready, htile, hp, hheld, hrx, hok, settled_next]

end Intake

section Received

variable {i : RxItem} {r : State}

theorem exec_ackRx_tile (hrun : s.running = true) (hp : p < s.portCount)
    (htake : s.takeRx p (fun f => f.typ = fACK) = some (i, r)) (htile : r.head = false) :
    exec (.ackRx p) s = .next r.settle := by
  change execAckRx p s = _
  simp [execAckRx, hrun, hp, htake, htile, settled_next]

theorem exec_discoverRx_taken (hrun : s.running = true) (htile : s.head = false) (hp : p < 4)
    (htake : s.takeRx p (fun f => f.typ = fDIS && f.fld 10 1 % 2 = 0) = some (i, r)) :
    exec (.discoverRx p) s = .next (if p % 2 = 1 then r.bump SKD_CH_REVDISC
      else r.discovered p (i.f.fld 11 1 % 64) (i.f.src / 64 * 64) (i.f.fld 12 2)).settle := by
  change execDiscoverRx p s = _
  rw [execDiscoverRx, if_pos (by simp [hrun, htile, hp]), htake]
  exact settled_next _

theorem exec_reportRx_taken (hrun : s.running = true) (hhead : s.head = true) (hp : p < 16)
    (htake : s.takeRx p (fun f => f.typ = fDIS && f.fld 10 1 % 2 = 1) = some (i, r)) :
    exec (.reportRx p) s = .next (r.report p i.f).settle := by
  change execReportRx p s = _
  rw [execReportRx, if_pos (by simp [hrun, hhead, hp]), htake]
  exact settled_next _

end Received

/-- Settles O49. -/
theorem tileIntakeAndDiscoveryAct : Obligations.TileIntakeAndDiscoveryAct := by
  intro s p hrun hp htile
  refine ⟨?intake, ?release, ?ack, ?discover⟩
  case intake =>
    intro i l t c hready hrx hc ht hheld
    subst ht
    have hexec := exec_intake hready htile hp hheld (frontType_cons hrx) hc
    exact ⟨fun hok => by rw [hexec, intake_taken hrx hok rfl rfl], fun hok => by rw [hexec, intake_held hrx hok hheld]⟩
  case release => exact fun i l hready hrx hheld hok => exec_pixHoldRelease_room hready htile hp hheld hrx hok
  case ack =>
    have hcount : p < s.portCount := by simpa [State.portCount, htile] using hp
    exact fun i r htake htile => exec_ackRx_tile hrun hcount htake htile
  case discover =>
    intro i r htake
    rw [exec_discoverRx_taken hrun htile hp htake]
    exact ⟨fun hdown => by rw [if_pos hdown], fun hup => by rw [if_neg (by omega)]⟩

/-! ### Enumeration -/

/-! A frame queued leaves local time as it is. -/

/-- What each step of a fold keeps, the fold keeps. -/
theorem foldl_keeps {α β : Type} (g : State → β) {f : State → α → State} (h : ∀ t x, g (f t x) = g t) (l : List α) :
    g (l.foldl f s) = g s := by
  induction l generalizing s with
  | nil => rfl
  | cons x l ih => exact (ih (s := f s x)).trans (h s x)

theorem freeUnits_now (q : Option Nat) (f : Frame) : (s.freeUnits q f).now = s.now := by
  unfold State.freeUnits
  split
  · rfl
  · split <;> rfl

theorem txDrop_now (f : Frame) : (s.txDrop p f).now = s.now := by
  simp only [State.txDrop, State.disc, State.setAll_now, State.bump_now]

theorem setPortState_now (st : Nat) : (s.setPortState p st).now = s.now :=
  foldl_keeps State.now (fun _ _ => State.set_now _ _ _) _

theorem lcmdEnd_now (ls : List Nat) (op st : Nat) : (s.lcmdEnd ls op st).now = s.now :=
  foldl_keeps State.now (fun _ _ => by split <;> rfl) _

theorem wakePort_now : (s.wakePort p).now = s.now := by
  unfold State.wakePort
  split
  · exact setPortState_now _
  · split
    · exact lcmdEnd_now _ _ _
    · rfl

theorem queueItem_now (i : TxItem) : (s.queueItem p i).now = s.now := by
  unfold State.queueItem
  split
  · rw [freeUnits_now]
    split
    · exact txDrop_now _
    · rfl
  · exact wakePort_now

theorem enumerate_now (l : List Nat) : (s.enumerate l).now = s.now := by
  unfold State.enumerate
  split
  · rfl
  · exact foldl_keeps State.now (fun _ _ => queueItem_now _) _

section Enumeration

variable {all : Bool} {l : List Nat}

theorem skdEnumCmd_refused (hp : p < 16) (hfree : s.busy SKD_ENUM = false)
    (ha : a = s.accepted SKD_ENUM (1 + 16 * p + (if all then 256 else 0)))
    (hl : l = (if all then List.range 16 else [p]).filter (fun q => a.role q = rCHAIN)) (h : a.head = false ∨ l = []) :
    s.skdEnumCmd p all = a.setStat SKD_ENUM stREFUSED := by
  rw [State.skdEnumCmd, Nat.mod_eq_of_lt hp, command_accepted hfree, ← ha]
  simp only [← hl]
  exact if_pos (by simpa using h)

theorem skdEnumCmd_accepted (hp : p < 16) (hfree : s.busy SKD_ENUM = false)
    (ha : a = s.accepted SKD_ENUM (1 + 16 * p + (if all then 256 else 0)))
    (hl : l = (if all then List.range 16 else [p]).filter (fun q => a.role q = rCHAIN)) (hhead : a.head = true) (hne : l ≠ [])
    (hb : b = a.enumerate l) : s.skdEnumCmd p all =
      ({ b with skd := { b.skd with enumPend := some (b.now, l) } } : State).setStat SKD_ENUM stBUSY := by
  rw [State.skdEnumCmd, Nat.mod_eq_of_lt hp, command_accepted hfree, ← ha]
  simp only [← hl]
  rw [if_neg (by simp [hhead, hne]), ← hb, ← enumerate_now (s := a) l, ← hb]
  rfl

theorem exec_enumDone_over {t : Nat} (hpend : s.skd.enumPend = some (t, l))
    (hover : (l.all (fun p => s.reported (if s.isTwin p then p - 8 else p)) || decide (t + 10000000 ≤ s.now)) = true) :
    exec .enumDone s = .next (({ s with skd := { s.skd with enumPend := none } } : State).setStat SKD_ENUM stDONE).settle := by
  change execEnumDone s = _
  rw [execEnumDone, hpend]
  simp only [hover, if_true]
  exact settled_next _

end Enumeration

section HeadNumber

variable {v : Word}

theorem headNumWrite_refused (h : s.head = false ∨ s.power = psSTANDBY ∨ s.power = psSHOW) :
    s.headNumWrite v = s.answer rSTATE := by
  obtain hhead | hpower := h
  · exact if_pos (by simp [hhead])
  · have hstate : (s.power ≠ psHALT && s.power ≠ psREADY) = true := by
      obtain h | h := hpower
      · rw [h]; decide
      · rw [h]; decide
    rw [State.headNumWrite, if_pos hstate, ite_self]

/-- In HALT and READY a head takes the number written (R312). -/
theorem headNumWrite_accepted (hhead : s.head = true) (hpower : s.power = psHALT ∨ s.power = psREADY) :
    s.headNumWrite v = if getBits v 0 6 = s.headNum then s.answer rOK
      else ((s.answer rOK).setHeadNum (getBits v 0 6)).enumerate (List.range 16) := by
  have hstate : ¬(s.power ≠ psHALT && s.power ≠ psREADY) = true := by
    obtain h | h := hpower
    · rw [h]; decide
    · rw [h]; decide
  rw [State.headNumWrite, if_neg (by simp [hhead]), if_neg hstate]

end HeadNumber

/-- A REPORT with the OVERLONG flag marks its chain and nothing else (R316). -/
theorem report_overlong {f : Frame} (h : numAt f.pay 23 1 % 2 = 1) :
    s.report p f = s.set (SKD_CH_STAT_OVERLONG (if s.isTwin p then p - 8 else p)) 1 := if_pos h

/-- Settles O50. -/
theorem enumerationActs : Obligations.EnumerationActs := by
  intro s hrun
  refine ⟨?enum, ?late, ?reported, ?refused, ?number, ?report⟩
  case enum =>
    exact fun p all a l hp hfree ha hl =>
      ⟨fun h => settled_running_of_eq hrun (skdEnumCmd_refused hp hfree ha hl h),
        fun b hhead hne hb => settled_running_of_eq hrun (by rw [skdEnumCmd_accepted hp hfree ha hl hhead hne hb])⟩
  case late => exact fun t l hpend hlate => exec_enumDone_over hpend (by simp [hlate])
  case reported => exact fun t l hpend hall => exec_enumDone_over hpend (by rw [hall]; rfl)
  case refused => exact fun v h => settled_running_of_eq hrun (headNumWrite_refused h)
  case number =>
    intro v hhead hpower
    have hnum := headNumWrite_accepted (v := v) hhead hpower
    exact ⟨fun hsame => settled_running_of_eq hrun (hnum.trans (if_pos hsame)),
      fun hne => settled_running_of_eq hrun (hnum.trans (if_neg hne))⟩
  case report =>
    intro p i r hhead hp htake
    rw [exec_reportRx_taken hrun hhead hp htake]
    exact ⟨fun hlong => by rw [report_overlong hlong], fun _ => rfl⟩

end Sys2Proof.Machine
end

section
/-! Wall commands (R328-R333) and images down the chains (R334, R335, R471): O51, O52 and O53. -/

namespace Sys2Proof.Machine

variable {s a b : State}

/-! ### The coordinator -/

section Coordinator

variable {j : WcJob}

theorem wcIssue_refused (hfree : s.busy SKD_WC_CMD = false) (ha : a = s.accepted SKD_WC_CMD 1)
    (h : a.head = false ∨ a.issueRefused a.newJob = true) : s.wcIssue = a.setStat SKD_WC_CMD stREFUSED := by
  rw [State.wcIssue, command_accepted hfree, ← ha]
  exact if_pos (by simpa using h)

theorem wcIssue_accepted {d : State} (hfree : s.busy SKD_WC_CMD = false) (ha : a = s.accepted SKD_WC_CMD 1)
    (hhead : a.head = true) (hok : a.issueRefused a.newJob = false) (hj : j = a.newJob)
    (hb : b = ((({ a with wc := { a.wc with jobs := a.wc.jobs ++ [j], nextId := a.wc.nextId % 65535 + 1 } } : State).setAll
      [(SKD_WC_STAT_PHASE, wpARMING), (SKD_WC_STAT_CMDID, j.id), (SKD_WC_NFAIL_FAILED, 0), (SKD_WC_NFAIL_NODONE, 0)]).setStat
      SKD_WC_CMD stDONE))
    (hd : d = j.heads.foldl (fun (x : State) h => x.toHead j woARM h)
      ((List.range 64).foldl (fun (x : State) i => x.wr (SKD_WC_FAIL i) 0) b)) :
    s.wcIssue = ((d.showCount j).armSection j).wcAdvance j.id j.coord := by
  rw [State.wcIssue, command_accepted hfree, ← ha, hd, hb, hj]
  exact if_neg (by simp [hhead, hok])

theorem wcCancel_found (hfree : s.busy SKD_WC_CMD = false) (ha : a = s.accepted SKD_WC_CMD 2)
    (hj : a.wc.jobs.find? (fun j => a.coordinates j && j.dec.isNone) = some j) :
    s.wcCancel = (a.wcDecide j false).setStat SKD_WC_CMD stDONE := by
  rw [State.wcCancel, command_accepted hfree, ← ha]
  simp only [hj]

theorem wcCancel_none (hfree : s.busy SKD_WC_CMD = false) (ha : a = s.accepted SKD_WC_CMD 2)
    (hj : a.wc.jobs.find? (fun j => a.coordinates j && j.dec.isNone) = none) :
    s.wcCancel = a.setStat SKD_WC_CMD stREFUSED := by
  rw [State.wcCancel, command_accepted hfree, ← ha]
  simp only [hj]

/-- The job whose repetition is due is repeated, unless this head gives it up (R333). -/
theorem exec_wallcmdRepeat_due (hrun : s.running = true) (hhead : s.head = true)
    (hj : s.wc.jobs.find? (fun j => decide (j.next ≤ s.now)) = some j) :
    exec .wallcmdRepeat s = .next (if j.dec.isNone && !s.coordinates j && decide (j.dead + wSec ≤ s.tm.wall)
      then s.jobEnds j false else s.repeatJob j).settle := by
  change execWallcmdRepeat s = _
  simp only [execWallcmdRepeat, hrun, hhead, hj]
  exact settled_next _

theorem exec_hreportDeadline_due (hrun : s.running = true) (hhead : s.head = true)
    (hj : s.wc.jobs.find? (fun j => !s.coordinates j && j.told.isNone && j.dec.isNone &&
      decide (j.dead ≤ s.tm.wall + 10 ^ 6 * wNs)) = some j) :
    exec .hreportDeadline s = .next (s.sendHreport j true).settle := by
  change execHreportDeadline s = _
  simp only [execHreportDeadline, hrun, hhead, hj]
  exact settled_next _

theorem exec_armDeadline_due (hrun : s.running = true) (hhead : s.head = true)
    (hj : s.wc.jobs.find? (fun j => s.coordinates j && j.dec.isNone && decide (j.dead ≤ s.tm.wall)) = some j) :
    exec .armDeadline s = .next ((s.noReplies j).wcDecide j j.best).settle := by
  change execArmDeadline s = _
  simp only [execArmDeadline, hrun, hhead, hj]
  exact settled_next _

theorem exec_wallcmdRevert_due {x : WcArm} (hrun : s.running = true)
    (hx : s.wc.arms.find? (fun a => decide (a.dead + wSec ≤ s.tm.wall)) = some x) : exec .wallcmdRevert s =
      .next ((((s.unstage x).armGone x 3).bump SKD_WC_REVERTS).notify nWCREVERT (x.id + 2 ^ 16 * x.typ)).settle := by
  change execWallcmdRevert s = _
  simp only [execWallcmdRevert, hrun, hx]
  exact settled_next _

end Coordinator

/-- Settles O51. -/
theorem wallCommandsAreCoordinated : Obligations.WallCommandsAreCoordinated := by
  intro s hrun
  refine ⟨fun hfree => ⟨fun a ha => ⟨?refused, ?issued⟩, fun a ha => ⟨?cancel, ?noCancel⟩⟩, ?again, ?hreport, ?deadline, ?revert⟩
  case refused => exact fun h => settled_running_of_eq hrun (wcIssue_refused hfree ha h)
  case issued =>
    exact fun j b d hhead hok hj hb hd => settled_running_of_eq hrun (wcIssue_accepted hfree ha hhead hok hj hb hd)
  case cancel => exact fun j hj => settled_running_of_eq hrun (wcCancel_found hfree ha hj)
  case noCancel => exact fun hj => settled_running_of_eq hrun (wcCancel_none hfree ha hj)
  case again =>
    intro j hhead hj
    rw [exec_wallcmdRepeat_due hrun hhead hj]
    refine ⟨fun h => ?_, fun hown hdec hlate => ?_⟩
    · have hkeep : ¬(j.dec.isNone && !s.coordinates j && decide (j.dead + wSec ≤ s.tm.wall)) = true := by
        obtain h | h := h
        · simp [h]
        · simp [Option.isNone_eq_false_iff.2 (Option.isSome_iff_ne_none.2 h)]
      rw [if_neg hkeep]
    · rw [if_pos (by simp [hown, hdec, hlate])]
  case hreport => exact fun j hhead hj => exec_hreportDeadline_due hrun hhead hj
  case deadline => exact fun j hhead hj => exec_armDeadline_due hrun hhead hj
  case revert => exact fun x hx => exec_wallcmdRevert_due hrun hx

/-! ### A unit's side -/

section Unit

variable {m : WcMsg} {x : WcArm} {src : Nat}

/-- What a unit answered to an ARM it met (R330). -/
def answeredArm (m : WcMsg) (x : Nat × Nat × Nat × Nat) : Bool := x.1 = m.id && x.2.1 = m.coord && x.2.2.1 = m.typ

/-- An ARM that was answered is answered the same again, and has no other effect (R330). -/
theorem unitArm_known {x : Nat × Nat × Nat × Nat} (h : s.wc.said.find? (answeredArm m) = some x) :
    s.unitArm src m = (x.2.2.2, s) := by
  have h' : s.wc.said.find? (fun x => x.1 = m.id && x.2.1 = m.coord && x.2.2.1 = m.typ) = some x := h
  simp only [State.unitArm, h']

/-- The answer to an ARM stands first among those the unit remembers. -/
theorem unitArm_said : (s.unitArm src m).2.wc.said.find? (answeredArm m) =
    some (m.id, m.coord, m.typ, (s.unitArm src m).1) ∨ (s.unitArm src m).2 = s ∧
      ∃ x, s.wc.said.find? (answeredArm m) = some x ∧ (s.unitArm src m).1 = x.2.2.2 := by
  cases hsaid : s.wc.said.find? (answeredArm m) with
  | some x => exact .inr (by rw [unitArm_known hsaid]; exact ⟨rfl, x, rfl, rfl⟩)
  | none =>
    have h' : s.wc.said.find? (fun x => x.1 = m.id && x.2.1 = m.coord && x.2.2.1 = m.typ) = none := hsaid
    left
    simp only [State.unitArm, h', State.wcSet]
    exact List.find?_cons_of_pos (by simp [answeredArm])

theorem unitArm_again {t : State} {r : Nat} (h : s.unitArm src m = (r, t)) : t.unitArm src m = (r, t) := by
  have hr : (s.unitArm src m).1 = r := by rw [h]
  have ht : (s.unitArm src m).2 = t := by rw [h]
  obtain hnew | ⟨hsame, -⟩ := unitArm_said (s := s) (src := src) (m := m)
  · rw [ht, hr] at hnew
    exact unitArm_known hnew
  · rw [← ht, hsame, h, ← ht, hsame]

theorem unitDecide_unarmed {id typ : Nat} {c : Bool} (h : s.armOf id typ = none) :
    s.unitDecide id typ c = (woNOTARMED, wrNOTARMED, s) := by
  simp only [State.unitDecide, h]

theorem unitDecide_commit {id typ q : Nat} {t : State} (h : s.armOf id typ = some x) (hq : s.unitCommit x = (q, t)) :
    s.unitDecide id typ true = (woDONE, q, t) := by
  simp only [State.unitDecide, h, hq, if_true]

theorem unitDecide_abort {id typ : Nat} (h : s.armOf id typ = some x) :
    s.unitDecide id typ false = (woDONE, 0, (s.unstage x).armGone x 0) := by
  simp only [State.unitDecide, h]
  rfl

end Unit

section Messages

variable {p : Nat} {i : RxItem} {m : WcMsg}

theorem exec_wallcmdArmRx_taken (hrun : s.running = true) (hp : p < s.portCount)
    (htake : s.takeRx p (isWc [woARM]) = some (i, b)) :
    exec (.wallcmdArmRx p) s = .next (if b.head then b.memberArm i.f (readWc (svcPay i.f))
      else b.tileArm i.f (readWc (svcPay i.f))).settle := by
  change execWallcmdArmRx p s = _
  rw [execWallcmdArmRx, if_pos (by simp [hrun, hp]), htake]
  exact settled_next _

/-- COMMIT and ABORT messages are decisions. -/
theorem exec_decision {k : Instr} {c : Bool} (hrun : s.running = true) (hp : p < s.portCount)
    (h : s.takeRx p (isWc [woCOMMIT]) = some (i, b) ∧ k = .wallcmdCommitRx p ∧ c = true ∨
      s.takeRx p (isWc [woABORT]) = some (i, b) ∧ k = .wallcmdAbortRx p ∧ c = false) :
    exec k s = .next (b.decisionRx i.f c).settle := by
  obtain ⟨htake, rfl, rfl⟩ | ⟨htake, rfl, rfl⟩ := h
  · change execWallcmdCommitRx p s = _
    simp [execWallcmdCommitRx, hrun, hp, htake, settled_next]
  · change execWallcmdAbortRx p s = _
    simp [execWallcmdAbortRx, hrun, hp, htake, settled_next]

theorem decisionRx_tile {f : Frame} {c : Bool} {o r : Nat} {t : State} (hm : m = readWc (svcPay f)) (htile : s.head = false)
    (hq : s.unitDecide m.id m.typ c = (o, r, t)) : s.decisionRx f c = t.wcAnswer f.src o m.typ r m.id m.coord := by
  simp only [State.decisionRx, htile, ← hm, hq]
  rfl

theorem decisionRx_noJob {f : Frame} {c : Bool} (hm : m = readWc (svcPay f)) (hhead : s.head = true)
    (hj : s.job m.id m.coord = none) : s.decisionRx f c = s.wcAnswer f.src woNOTARMED m.typ wrNOTARMED m.id m.coord := by
  simp only [State.decisionRx, hhead, ← hm, hj, if_true]

theorem decisionRx_job {f : Frame} {c : Bool} {j : WcJob} (hm : m = readWc (svcPay f)) (hhead : s.head = true)
    (hj : s.job m.id m.coord = some j) : s.decisionRx f c =
      (if j.dec.isNone then s.applyDecision j c else s).wcAnswer f.src woDONE m.typ 0 m.id m.coord := by
  simp only [State.decisionRx, hhead, ← hm, hj, if_true]

section Answer

variable (hrun : s.running = true) (hhead : s.head = true) (hp : p < 16) (hm : m = readWc (svcPay i.f))
  (htake : s.takeRx p (isWc [woARMED, woREFUSED, woDONE, woNOTARMED, woHREPORT]) = some (i, b))
include hrun hhead hp hm htake

theorem exec_wallcmdAnswerRx_noJob (hj : b.job m.id m.coord = none) :
    exec (.wallcmdAnswerRx p) s = .next b.settle := by
  change execWallcmdAnswerRx p s = _
  rw [execWallcmdAnswerRx, if_pos (by simp [hrun, hhead, hp]), htake]
  simp only [← hm, hj, settled_next]

theorem exec_wallcmdAnswerRx_job {j : WcJob} (hj : b.job m.id m.coord = some j) : exec (.wallcmdAnswerRx p) s =
    .next ((if m.op = woHREPORT then b.hreportRx i.f m j else b.answerRx i.f.src m j).wcAdvance m.id m.coord).settle := by
  change execWallcmdAnswerRx p s = _
  rw [execWallcmdAnswerRx, if_pos (by simp [hrun, hhead, hp]), htake]
  simp only [← hm, hj, settled_next]

end Answer

end Messages

/-- Settles O52. -/
theorem wallCommandMessagesAreAnswered : Obligations.WallCommandMessagesAreAnswered := by
  refine ⟨fun s src r m t h => unitArm_again h, fun s p hrun hp => ⟨?arm, ?decision, ?answer⟩⟩
  case arm =>
    intro i b r t htake
    rw [exec_wallcmdArmRx_taken hrun hp htake]
    refine ⟨fun htile harm => ?_, fun hhead => by rw [if_pos hhead]⟩
    rw [if_neg (by simp [htile]), State.tileArm, harm]
  case decision =>
    intro i b m c k hm hk
    rw [exec_decision hrun hp hk]
    refine ⟨fun htile hnone => ?_, fun x q t htile hx hq => ?_, fun hhead hj => ?_, fun j hhead hj => ?_⟩
    · rw [decisionRx_tile hm htile (unitDecide_unarmed hnone)]
    · cases c with
      | true => rw [decisionRx_tile hm htile (unitDecide_commit hx hq)]; rfl
      | false => rw [decisionRx_tile hm htile (unitDecide_abort hx)]; rfl
    · rw [decisionRx_noJob hm hhead hj]
    · rw [decisionRx_job hm hhead hj]
  case answer =>
    intro i b m hhead hm htake
    have hport : p < 16 := by simpa [State.portCount, hhead] using hp
    exact ⟨fun hj => exec_wallcmdAnswerRx_noJob hrun hhead hport hm htake hj,
      fun j hj => exec_wallcmdAnswerRx_job hrun hhead hport hm htake hj⟩

/-! ### Images -/

section Images

theorem imgStart_refused (hfree : s.busy SKD_IMG_CMD = false) (ha : a = s.accepted SKD_IMG_CMD 1)
    (h : a.head = false ∨ a.imgBusy = true ∨ a.dramUp = false ∨ a.imgBytesN = 0 ∨ a.imgPorts = []) :
    s.imgStart = a.setStat SKD_IMG_CMD stREFUSED := by
  rw [State.imgStart, command_accepted hfree, ← ha]
  exact if_pos (by simpa [or_assoc] using h)

theorem imgStart_accepted (hfree : s.busy SKD_IMG_CMD = false) (ha : a = s.accepted SKD_IMG_CMD 1) (hhead : a.head = true)
    (hidle : a.imgBusy = false) (hup : a.dramUp = true) (hbytes : a.imgBytesN ≠ 0) (hports : a.imgPorts ≠ [])
    (hb : b = a.imgPorts.foldl (fun (x : State) p =>
      (((x.svcFrame vIMGANN (x.headNum * 1024 + p * 64) true x.imgAnnounce).2).bcastPorts p).foldl (fun (y : State) q =>
        y.send q (x.svcFrame vIMGANN (x.headNum * 1024 + p * 64) true x.imgAnnounce).1)
        (x.svcFrame vIMGANN (x.headNum * 1024 + p * 64) true x.imgAnnounce).2) a) :
    s.imgStart = (({ b with img := ⟨List.range b.imgPieces, b.now, [], [], []⟩ } : State).setAll
      [(SKD_IMG_STAT_STATE, imPASS), (SKD_IMG_STAT_PASS, 1), (SKD_IMG_STAT_NEXT, 0)]).setStat SKD_IMG_CMD stDONE := by
  rw [State.imgStart, command_accepted hfree, ← ha, hb]
  exact if_neg (by simp [hhead, hidle, hup, hbytes, hports])

theorem imgStop_busy (hfree : s.busy SKD_IMG_CMD = false) (ha : a = s.accepted SKD_IMG_CMD 2) (hhead : a.head = true)
    (hbusy : a.imgBusy = true) : s.imgStop =
      (({ a with img := ⟨[], 0, [], [], []⟩ } : State).set SKD_IMG_STAT_STATE imIDLE).setStat SKD_IMG_CMD stDONE := by
  rw [State.imgStop, command_accepted hfree, ← ha]
  simp only [hhead, hbusy, State.imgSet]
  rfl

theorem exec_imgPieceSend_due {i : Nat} {l : List Nat} {c : List Byte} {d e : State} (hrun : s.running = true)
    (hhead : s.head = true) (hup : s.dramUp = true) (hpass : s.get SKD_IMG_STAT_STATE = imPASS) (hdue : s.img.next ≤ s.now)
    (hneed : s.img.need = i :: l)
    (hread : s.dramRead (pageOff (s.rd SKD_IMG_SRC) + 16384 * i) (pieceLen s.imgBytesN i) = (c, d))
    (he : e = d.imgPorts.foldl (fun (x : State) p => (x.bcastPorts p).foldl (fun (y : State) q => y.send q (y.imgFrame p i c)) x) d) :
    exec .imgPieceSend s = .next (({ e with img := { e.img with need := l, next := e.now + e.get SKD_IMG_CFG_GAP * 1000000 } } :
      State).set SKD_IMG_STAT_NEXT (l.headD e.imgPieces)).settle := by
  change execImgPieceSend s = _
  rw [execImgPieceSend, if_pos (by simp [hrun, hhead, hup, hpass, hdue]), hneed]
  simp only [hread, ← he]
  cases l <;> exact settled_next _

theorem exec_imgPassEnd_sent (hrun : s.running = true) (hhead : s.head = true) (hpass : s.get SKD_IMG_STAT_STATE = imPASS)
    (hneed : s.img.need = []) (hb : b = s.set SKD_IMG_STAT_STATE imQUERY) :
    exec .imgPassEnd s = .next (s.imgTiles.foldl (fun (x : State) a => x.imgQuery a)
      ({ b with img := { b.img with wait := [], miss := [], inc := [] } } : State)).settle := by
  change execImgPassEnd s = _
  rw [execImgPassEnd, if_neg (by simp [hrun, hhead]), if_pos (by simp [hpass, hneed]), ← hb]
  exact settled_next _

theorem exec_imgPassEnd_answered (hrun : s.running = true) (hhead : s.head = true)
    (hquery : s.get SKD_IMG_STAT_STATE = imQUERY) (hwait : s.img.wait = []) : exec .imgPassEnd s = .next s.imgPlan.settle := by
  change execImgPassEnd s = _
  rw [execImgPassEnd, if_neg (by simp [hrun, hhead]), if_neg (by simp [hquery]), if_pos (by simp [hquery, hwait])]
  exact settled_next _

variable {p : Nat} {i : RxItem}

theorem exec_imgannRx_served {t : State} (hrun : s.running = true) (htile : s.head = false) (hp : p < 4)
    (htake : s.takeRx p (isSvc vIMGANN) = some (i, b)) (hserved : b.dlServed = true)
    (hopen : b.dlOpen (numAt (svcPay i.f) 0 4) (numAt (svcPay i.f) 4 4) = .ok t) :
    exec (.imgannRx p) s = .next t.settle := by
  change execImgannRx p s = _
  rw [execImgannRx, if_pos (by simp [hrun, htile, hp]), htake]
  simp only [hopen, hserved, if_true, settled_next]

theorem exec_imgRx_taken (hrun : s.running = true) (htile : s.head = false) (hp : p < 4)
    (htake : s.takeRx p (fun f => f.typ = fIMG) = some (i, b)) : exec (.imgRx p) s = .next (b.imgPiece p i.f).settle := by
  change execImgRx p s = _
  rw [execImgRx, if_pos (by simp [hrun, htile, hp]), htake]
  exact settled_next _

end Images

/-- Settles O53. -/
theorem imageDistributionActs : Obligations.ImageDistributionActs := by
  intro s hrun
  refine ⟨fun hfree => ⟨fun a ha => ⟨?refused, ?start⟩, ?stop⟩, ?piece, ?sent, ?answered, ?announced, ?taken⟩
  case refused => exact fun h => settled_running_of_eq hrun (imgStart_refused hfree ha h)
  case start =>
    exact fun b hhead hidle hup hbytes hports hb =>
      settled_running_of_eq hrun (imgStart_accepted hfree ha hhead hidle hup hbytes hports hb)
  case stop => exact fun a ha hhead hbusy => settled_running_of_eq hrun (imgStop_busy hfree ha hhead hbusy)
  case piece =>
    exact fun i l c d e hhead hup hpass hdue hneed hread he => by
      rw [exec_imgPieceSend_due hrun hhead hup hpass hdue hneed hread he]
      cases l <;> rfl
  case sent => exact fun hhead hpass hneed b hb => exec_imgPassEnd_sent hrun hhead hpass hneed hb
  case answered => exact fun hhead hquery hwait => exec_imgPassEnd_answered hrun hhead hquery hwait
  case announced =>
    exact fun p i b t htile hp htake hserved hopen => exec_imgannRx_served hrun htile hp htake hserved hopen
  case taken => exact fun p i b htile hp htake => exec_imgRx_taken hrun htile hp htake

end Sys2Proof.Machine
end

section
/-! Scan-out (R344-R355, R370) and the records of the lamp board (R359-R366): O54 and O55. -/

namespace Sys2Proof.Machine

variable {s a b : State}

/-! ### What a notification leaves (R440-R442) -/

section Notification

variable {t u : State}

/-- `t` is `s` but for the registers of the global block and the notifications. -/
def BesideNotes (s t : State) : Prop := (∀ x, 0x2000 ≤ x → t.rd x = s.rd x) ∧ ∃ r n, t = { s with regs := r, note := n }

theorem BesideNotes.refl (s : State) : BesideNotes s s := ⟨fun _ _ => rfl, s.regs, s.note, rfl⟩

theorem BesideNotes.trans (h : BesideNotes s t) (h' : BesideNotes t u) : BesideNotes s u := by
  obtain ⟨hrd, r, n, rfl⟩ := h
  obtain ⟨hrd', r', n', rfl⟩ := h'
  exact ⟨fun x hx => (hrd' x hx).trans (hrd x hx), r', n', rfl⟩

theorem BesideNotes.ite {c : Prop} [Decidable c] (ht : BesideNotes s t) (hu : BesideNotes s u) :
    BesideNotes s (if c then t else u) := by
  split
  · exact ht
  · exact hu

theorem besideNotes_wr (s : State) {x : Nat} (v : Word) (h : x < 0x2000) : BesideNotes s (s.wr x v) :=
  ⟨fun _ hy => rd_wr_ne s v (by omega), _, s.note, rfl⟩

theorem besideNotes_set (s : State) {f : Fld} (n : Nat) (h : f.reg < 0x2000) : BesideNotes s (s.set f n) :=
  besideNotes_wr s _ h

theorem besideNotes_bump (s : State) {x : Nat} (h : x + 4 < 0x2000) : BesideNotes s (s.bump x) :=
  .ite ((besideNotes_wr s _ (by omega)).trans (besideNotes_wr _ _ h)) ((besideNotes_wr s _ (by omega)).trans (besideNotes_wr _ _ h))

theorem besideNotes_logRecord (s : State) (r : NRec) : BesideNotes s (s.logRecord r) := by
  have hidx : s.get GLB_NLOGIDX_IDX < 2 ^ 8 := getBits_lt _ _ _
  have hlog : ∀ k < 4, GLB_NLOG (4 * s.get GLB_NLOGIDX_IDX + k) < 0x2000 := by
    intro k hk
    simp only [GLB_NLOG]
    omega
  have hrecord := (((besideNotes_wr s r.w0 (hlog 0 (by decide))).trans (besideNotes_wr _ r.w1 (hlog 1 (by decide)))).trans
    (besideNotes_wr _ r.w2 (hlog 2 (by decide)))).trans (besideNotes_wr _ r.w3 (hlog 3 (by decide)))
  have hnext := hrecord.trans (besideNotes_set _ (f := GLB_NLOGIDX_IDX) ((s.get GLB_NLOGIDX_IDX + 1) % 256) (by decide))
  exact .ite (hnext.trans (besideNotes_set _ (f := GLB_NLOGIDX_WRAP) 1 (by decide))) hnext

theorem besideNotes_queueRecord (s : State) (d : Nat) (r : NRec) : BesideNotes s (s.queueRecord d r) := by
  have hnote (n : NoteSt) : BesideNotes s { s with note := n } := ⟨fun _ _ => rfl, s.regs, n, rfl⟩
  have hdrop (n : NoteSt) : BesideNotes s (State.bump { s with note := n } GLB_NDROP) :=
    (hnote n).trans (besideNotes_bump _ (by decide))
  exact .ite (.refl s) (.ite (.ite (hnote _) (hdrop _)) (.ite (hnote _) (hdrop _)))

/-- A notification leaves every other unit, and the registers above the global block. -/
theorem besideNotes_notify (s : State) (code arg : Nat) : BesideNotes s (s.notify code arg) :=
  .ite (((besideNotes_logRecord s _).trans (besideNotes_queueRecord _ 0 _)).trans (besideNotes_queueRecord _ 1 _))
    ⟨fun _ _ => rfl, s.regs, _, rfl⟩

end Notification

/-! ### Scan-out -/

section ScanOut

theorem lduCommand_accepted {v : Nat} {op : State → State} (hfree : s.busy LDU_CMD = false) (ha : a = s.accepted LDU_CMD v)
    (hlamp : a.lampSide = true) : s.lduCommand v op = op a := by
  rw [State.lduCommand, command_accepted hfree, ← ha]
  exact if_neg (by simp [hlamp])

section Arm

variable (hfree : s.busy LDU_CMD = false)
include hfree

theorem armGeom_bad {r : Nat} (ha : a = s.accepted LDU_CMD 1) (hlamp : a.lampSide = true) (hgeom : a.ldu.geom = none)
    (hgrid : a.gridChanging = false) (hbad : geomBad a.grid (a.rd LDU_GEOM0) (a.rd LDU_GEOM1) = some r) :
    s.armGeom = (a.set LDU_RES_REASON r).setStat LDU_CMD stREFUSED := by
  rw [State.armGeom, lduCommand_accepted hfree ha hlamp]
  simp only [hgeom, hgrid, hbad]
  rfl

theorem armGeom_good (ha : a = s.accepted LDU_CMD 1) (hlamp : a.lampSide = true) (hgeom : a.ldu.geom = none)
    (hgrid : a.gridChanging = false) (hgood : geomBad a.grid (a.rd LDU_GEOM0) (a.rd LDU_GEOM1) = none) :
    s.armGeom = ({ a with ldu := { a.ldu with geom := some (a.rd LDU_GEOM0, a.rd LDU_GEOM1, a.now) } } : State).setStat
      LDU_CMD stDONE := by
  rw [State.armGeom, lduCommand_accepted hfree ha hlamp]
  simp only [hgeom, hgrid, hgood]
  rfl

theorem armDrv_refused (ha : a = s.accepted LDU_CMD 2) (hlamp : a.lampSide = true) (hdrv : a.ldu.drv = none)
    (hline : a.get LDU_GEOM0A_ROWS < a.get LDU_LINE_APPLY) :
    s.armDrv = (a.set LDU_RES_REASON 1).setStat LDU_CMD stREFUSED := by
  rw [State.armDrv, lduCommand_accepted hfree ha hlamp]
  simp only [hdrv, hline]
  rfl

theorem armDrv_armed (ha : a = s.accepted LDU_CMD 2) (hlamp : a.lampSide = true) (hdrv : a.ldu.drv = none)
    (hline : a.get LDU_LINE_APPLY ≤ a.get LDU_GEOM0A_ROWS)
    (hbase : ∀ c, c < 3 → 32 ≤ a.get (LDU_ICUR_BASE c) ∧ a.get (LDU_ICUR_BASE c) ≤ 1536) :
    s.armDrv = ({ a with ldu := { a.ldu with drv := some a.now } } : State).setStat LDU_CMD stDONE := by
  have hin : (List.range 3).any (fun c => decide (a.get (LDU_ICUR_BASE c) < 32 ∨ 1536 < a.get (LDU_ICUR_BASE c))) = false :=
    List.any_eq_false.2 fun c hc => by
      have := hbase c (List.mem_range.1 hc)
      simp only [decide_eq_true_eq]
      omega
  rw [State.armDrv, lduCommand_accepted hfree ha hlamp]
  simp only [hdrv, hin, if_neg (Nat.not_lt.2 hline)]
  rfl

end Arm

variable {c : Scan}

theorem exec_rowStart_due {vled mv : Nat} {vd vg fa fb : Bool} {pins probes : List (Nat × Nat)} (hrun : s.running = true)
    (hc : s.ldu.cur = some c) (hgrid : s.gridRuns = true) (hrow : c.row < c.rows * c.segs) (hdue : c.rowAt c.row ≤ s.tm.wall)
    (hscan : c.rowAt c.row < s.nextScan) : exec (.rowStart vled vd vg fa fb mv pins probes) s =
      .next (s.rowStart c vled vd vg fa fb mv pins probes).settle := by
  change execRowStart vled vd vg fa fb mv pins probes s = _
  simp only [execRowStart, hc]
  rw [if_pos (by simp [hrun, hgrid, hrow, hdue, hscan]), settled_next]

theorem exec_slotPadStart_due {tr : List Int} {re : Nat} (hrun : s.running = true) (hc : s.ldu.cur = some c)
    (hgrid : s.gridRuns = true) (hpad : c.pad = false) (hdue : c.padAt ≤ s.tm.wall) (hscan : c.padAt < s.nextScan) :
    exec (.slotPadStart tr re) s = .next (s.slotPad c tr re).settle := by
  change execSlotPadStart tr re s = _
  simp only [execSlotPadStart, hc]
  rw [if_pos (by simp [hrun, hgrid, hpad, hdue, hscan]), settled_next]

/-- The next scan start follows from the time unit alone. -/
theorem nextScan_congr {t : State} (htm : t.tm = s.tm) (hrd : ∀ x, 0x20000 ≤ x → x < 0x30000 → t.rd x = s.rd x) :
    t.nextScan = s.nextScan := by
  have hget (f : Fld) (hlow : 0x20000 ≤ f.reg) (hhigh : f.reg < 0x30000) : t.get f = s.get f := by
    rw [State.get, State.get, hrd _ hlow hhigh]
  have hgrid : t.grid = s.grid := by
    simp only [State.grid, hget TMU_RATE_NUM (by decide) (by decide), hget TMU_RATE_DEN_DEN (by decide) (by decide),
      hget TMU_SLOTS_SLOTS (by decide) (by decide), hget TMU_GSCLK_CYC (by decide) (by decide)]
  simp only [State.nextScan, State.gridFirst, State.scanOf, htm, hgrid, hget TMU_PHASE_P (by decide) (by decide)]
  rfl

/-- An event of the lamp drive leaves the next scan start. -/
theorem nextScan_lduEvent (e : Nat) : (s.lduEvent e).nextScan = s.nextScan := by
  have hwr := nextScan_congr (s := s) (t := s.wr LDU_EVT (s.rd LDU_EVT ||| BitVec.ofNat 32 (2 ^ e))) rfl
    fun x _ hx => rd_wr_ne s _ (by simp only [LDU_EVT]; omega)
  rw [State.lduEvent]
  split
  · obtain ⟨hrd, r, n, hnote⟩ := besideNotes_notify (s.wr LDU_EVT (s.rd LDU_EVT ||| BitVec.ofNat 32 (2 ^ e))) nLDUEVT (2 ^ e)
    exact (nextScan_congr (by rw [hnote]) fun x hx _ => hrd x (by omega)).trans hwr
  · exact hwr

/-- The slot pad: its event, sinks off, and a calibration piece in what is left of the slot (R345, R352, R374). -/
theorem slotPad_eq {tr : List Int} {re : Nat} (hb : b = s.lduEvent evSOB) : s.slotPad c tr re =
    ({ b with ldu := { b.ldu with cur := some { c with pad := true }, on := [] } } : State).calPiece
      (if c.rows * c.segs * c.rcyc < c.grid.cyc then (s.nextScan - c.padAt) / wNs else 0) tr re := by
  rw [← nextScan_lduEvent (s := s) evSOB, ← hb, State.slotPad, ← hb]
  rfl

theorem exec_hvRecover_due {t : Nat} (hrun : s.running = true) (ht : s.ldu.hvSince = some t) (hdue : t + 10000000 ≤ s.now) :
    exec .hvRecover s = .next ({ s with ldu := { s.ldu with hvOk := true, hvSince := none } } : State).settle := by
  change execHvRecover s = _
  simp [execHvRecover, hrun, ht, hdue, settled_next, State.lduSet]

/-- What closes a sequence, whatever `post` does with the FLIP it is given. -/
theorem flip_posted {q : Nat} {d : State} (post : State → Nat → Nat → Nat → Option Nat × State) (hq : b.flipReady = some q)
    (hd : d = b.putWord (selBase + 20) (w32 (q + 65536))) :
    (match b.flipReady with
    | none => b
    | some q =>
      let s : State := b.putWord (selBase + 20) (w32 (q + 65536))
      let s : State := s.fwSet fun x => { x with cmts := x.cmts.filter (· ≠ q), dones := x.dones.filter fun d => d.1 ≠ q }
      let w := launchTime s.grid (nearSlot s.tm.nextJ q)
      (post s aFLIP (q + 65536 * (q % 8)) (w / wNs * wNs)).2) =
    (post { d with fw := { d.fw with cmts := d.fw.cmts.filter (· ≠ q), dones := d.fw.dones.filter fun x => x.1 ≠ q } } aFLIP
      (q + 65536 * (q % 8)) (launchTime d.grid (nearSlot d.tm.nextJ q) / wNs * wNs)).2 := by
  rw [hq]
  dsimp only
  rw [← hd]
  rfl

theorem exec_flipQueue_ready {q : Nat} {d : State} (hready : s.ready = true) (hlamp : s.lampSide = true) (hb : b = s.fwDrain)
    (hq : b.flipReady = some q) (hd : d = b.putWord (selBase + 20) (w32 (q + 65536))) : exec .flipQueue s =
      .next ((({ d with fw := { d.fw with cmts := d.fw.cmts.filter (· ≠ q), dones := d.fw.dones.filter fun x => x.1 ≠ q } } :
        State).lqPost aFLIP (q + 65536 * (q % 8)) (launchTime d.grid (nearSlot d.tm.nextJ q) / wNs * wNs)).2).settle := by
  change execFlipQueue s = _
  refine settled_of_eq ((if_neg (by simp [hready, hlamp])).trans ?_)
  rw [← hb]
  exact flip_posted State.lqPost hq hd

end ScanOut

/-- On-time and residue share out what a lamp is due (R347): 64 on-times and a residue below 64. -/
theorem onTime_bounds {v f x : Nat} (hv : v < 65536) (hf : f ≤ 65536) (hx : x < 64) :
    64 * (onTime v f x).1 + (onTime v f x).2 = x + (v - v / 1024) * f / 65536 ∧ (onTime v f x).2 < 64 ∧ (onTime v f x).1 ≤ 1023 := by
  have hlevel : (v - v / 1024) * f / 65536 ≤ v - v / 1024 :=
    Nat.div_le_of_le_mul (by rw [Nat.mul_comm 65536]; exact Nat.mul_le_mul_left _ hf)
  simp only [onTime]
  omega

/-- Settles O54. -/
theorem scanOutActs : Obligations.ScanOutActs := by
  intro s hrun
  refine ⟨fun hfree => ⟨?geom, ?drv, ?disarm⟩, ?launch, ?row, ?pad, ?recover, ?flip, ?times⟩
  case geom =>
    exact fun a ha hlamp hgeom hgrid =>
      ⟨fun r hbad => settled_running_of_eq hrun (armGeom_bad hfree ha hlamp hgeom hgrid hbad),
        fun hgood => settled_running_of_eq hrun (armGeom_good hfree ha hlamp hgeom hgrid hgood)⟩
  case drv =>
    exact fun a ha hlamp hdrv => ⟨fun hline => settled_running_of_eq hrun (armDrv_refused hfree ha hlamp hdrv hline),
      fun hline hbase => settled_running_of_eq hrun (armDrv_armed hfree ha hlamp hdrv hline hbase)⟩
  case disarm => exact fun a ha hlamp => settled_running_of_eq hrun (lduCommand_accepted hfree ha hlamp)
  case launch =>
    exact fun hgrid hdue hlq hfirst => ⟨settled_of_guard (by simp [hrun, hgrid, hdue, hlq, hfirst]), rfl⟩
  case row =>
    exact fun c vled vd vg fa fb mv pins probes hc hgrid hrow hdue hscan => exec_rowStart_due hrun hc hgrid hrow hdue hscan
  case pad =>
    intro c tr re b hc hgrid hpad hdue hscan hb
    rw [exec_slotPadStart_due hrun hc hgrid hpad hdue hscan, slotPad_eq hb]
  case recover => exact fun t ht hdue => exec_hvRecover_due hrun ht hdue
  case flip => exact fun q b d hready hlamp hb hq hd => exec_flipQueue_ready hready hlamp hb hq hd
  case times => exact fun v f x hv hf hx => onTime_bounds hv hf hx

/-! ### Records of the lamp board -/

section Records

variable {h l : List Byte}

theorem storeBegin_room {id : Nat} (hroom : s.calRoom id l.length = true) : s.storeBegin id l =
    ({ s with lcr := { s.lcr with store := some ⟨id, l⟩ } } : State).setStat LCR_CMD stBUSY := if_neg (by simp [hroom])

section Command

variable (hfree : s.busy LCR_CMD = false)
include hfree

section Storeset

variable {n : Nat} (ha : a = s.accepted LCR_CMD (1 + 16 * n)) (hup : a.dramUp = true)
  (hh : h = a.bytes (dramBase + a.lcrSrc) 64) (hsize : sizeOk (imgW h) (imgH h) = true)
  (hread : a.dramRead a.lcrSrc (setLen h) = (l, b))
include ha hup hh hsize hread

theorem lcrStoreset_bad (hbad : b.setBad l = true) : s.lcrStoreset n = b.lcrRefuse lrBADIMG 0 := by
  rw [State.lcrStoreset, command_accepted hfree, ← ha, if_neg (by simp [hup])]
  simp only [← hh, hsize, hread, hbad]
  rfl

theorem lcrStoreset_good (hgood : b.setBad l = false) : s.lcrStoreset n = b.storeBegin (recSet n) l := by
  rw [State.lcrStoreset, command_accepted hfree, ← ha, if_neg (by simp [hup])]
  simp only [← hh, hsize, hread, hgood]
  rfl

end Storeset

theorem lcrEraseset_inUse {n : Nat} (ha : a = s.accepted LCR_CMD (2 + 16 * n)) (hin : a.get LCR_STAT_SETINUSE = n) :
    s.lcrEraseset n = a.lcrRefuse lrINUSE 0 := by
  rw [State.lcrEraseset, command_accepted hfree, ← ha, if_pos (by simp [hin])]

theorem lcrEraseset_other {n : Nat} (ha : a = s.accepted LCR_CMD (2 + 16 * n)) (hne : a.get LCR_STAT_SETINUSE ≠ n)
    (hpend : a.bit LCR_SWITCH_PEND = false) :
    s.lcrEraseset n = (a.eraseRec (recSet n)).stage.setStat LCR_CMD stDONE := by
  rw [State.lcrEraseset, command_accepted hfree, ← ha, if_neg (by simp [hne, hpend])]

section Storemap

variable (ha : a = s.accepted LCR_CMD 3) (hup : a.dramUp = true) (hh : h = a.bytes (dramBase + a.lcrSrc) 64)
  (hsize : sizeOk (imgW h) (imgH h) = true) (hread : a.dramRead a.lcrSrc (boardLen h) = (l, b))
include ha hup hh hsize hread

theorem lcrStoremap_refused {r i : Nat} (hbad : boardRefusal l = some (r, i)) : s.lcrStoremap = b.lcrRefuse r i := by
  rw [State.lcrStoremap, command_accepted hfree, ← ha]
  refine (if_neg (by simp [hup])).trans ((if_neg (by simp [← hh, hsize])).trans ?_)
  rw [← hh, hread]
  simp only [hbad]

/-- A board record replaces the one of its BTYPE. -/
theorem lcrStoremap_replaces {x : Nat × List Byte} (hgood : boardRefusal l = none)
    (hx : b.boards.find? (fun x => imgBtype x.2 = imgBtype l) = some x) : s.lcrStoremap = b.storeBegin (recBoard x.1) l := by
  rw [State.lcrStoremap, command_accepted hfree, ← ha]
  refine (if_neg (by simp [hup])).trans ((if_neg (by simp [← hh, hsize])).trans ?_)
  rw [← hh, hread]
  simp only [hgood, hx]

/-- A board record of a new BTYPE takes a free record. -/
theorem lcrStoremap_takesFree {n : Nat} (hgood : boardRefusal l = none)
    (hx : b.boards.find? (fun x => imgBtype x.2 = imgBtype l) = none)
    (hn : (List.range 2).find? (fun n => (b.recData (recBoard n)).isNone) = some n) :
    s.lcrStoremap = b.storeBegin (recBoard n) l := by
  rw [State.lcrStoremap, command_accepted hfree, ← ha]
  refine (if_neg (by simp [hup])).trans ((if_neg (by simp [← hh, hsize])).trans ?_)
  rw [← hh, hread]
  simp only [hgood, hx, hn]

end Storemap

variable {ee : List Byte}

theorem lcrRescan_noLamp (ha : a = s.accepted LCR_CMD 4) (hlamp : a.lampSide = false) :
    s.lcrRescan ee = a.lcrRefuse lrNOLAMP 0 := by
  rw [State.lcrRescan, command_accepted hfree, ← ha, if_pos (by simp [hlamp])]

theorem lcrRescan_lamp (ha : a = s.accepted LCR_CMD 4) (hlamp : a.lampSide = true) :
    s.lcrRescan ee = (a.identity ee).stage.setStat LCR_CMD stDONE := by
  rw [State.lcrRescan, command_accepted hfree, ← ha, if_neg (by simp [hlamp])]

end Command

/-- A record that stands is staged; without a mismatch no set waits to be taken (R363, R364). -/
theorem storeDone_matched {x : Store} (hx : s.lcr.store = some x) (hmis : s.bit LCR_STAT_CALMIS = false)
    (hb : b = s.writeRec x.id x.data) :
    s.storeDone = (({ b with lcr := { b.lcr with store := none } } : State).stage).setStat LCR_CMD stDONE := by
  simp only [State.storeDone, hx, hmis, ← hb]
  rfl

end Records

/-- Settles O55. -/
theorem lampRecordCommandsAct : Obligations.LampRecordCommandsAct := by
  intro s hrun
  refine ⟨fun hfree => ⟨?set, ?erase, ?map, ?rescan⟩, ?done⟩
  case set =>
    intro n a h l b hn ha hup hh hsize hread
    have hguard : (s.running && decide (n < 8)) = true := by rw [hrun, decide_eq_true hn]; rfl
    exact ⟨fun hbad => settled_of_guard_eq hguard (lcrStoreset_bad hfree ha hup hh hsize hread hbad),
      fun hgood hroom => settled_of_guard_eq hguard
        ((lcrStoreset_good hfree ha hup hh hsize hread hgood).trans (storeBegin_room hroom))⟩
  case erase =>
    intro n a hn ha
    have hguard : (s.running && decide (n < 8)) = true := by rw [hrun, decide_eq_true hn]; rfl
    exact ⟨fun hin => settled_of_guard_eq hguard (lcrEraseset_inUse hfree ha hin),
      fun hne hpend => settled_of_guard_eq hguard (lcrEraseset_other hfree ha hne hpend)⟩
  case map =>
    intro a h l b ha hup hh hsize hread
    exact ⟨fun r i hbad => settled_running_of_eq hrun (lcrStoremap_refused hfree ha hup hh hsize hread hbad),
      fun x hgood hx hroom => settled_running_of_eq hrun
        ((lcrStoremap_replaces hfree ha hup hh hsize hread hgood hx).trans (storeBegin_room hroom)),
      fun n hgood hx hn hroom => settled_running_of_eq hrun
        ((lcrStoremap_takesFree hfree ha hup hh hsize hread hgood hx hn).trans (storeBegin_room hroom))⟩
  case rescan =>
    exact fun ee a ha => ⟨fun hlamp => settled_running_of_eq hrun (lcrRescan_noLamp hfree ha hlamp),
      fun hlamp => settled_running_of_eq hrun (lcrRescan_lamp hfree ha hlamp)⟩
  case done => exact fun x b hx hmis hb => settled_running_of_eq hrun (storeDone_matched hx hmis hb)

end Sys2Proof.Machine
end

section
/-! Lamp tests, sensors and the loop engine (R372-R382, R386): O56. -/

namespace Sys2Proof.Machine

variable {s a b : State}

theorem lcrCommand_accepted {v : Nat} {op : State → State} (hfree : s.busy LCR_CMD = false) (ha : a = s.accepted LCR_CMD v)
    (hlamp : a.lampSide = true) : s.lcrCommand v op = op a := by
  rw [State.lcrCommand, command_accepted hfree, ← ha]
  exact if_neg (by simp [hlamp])

section Commands

variable (hfree : s.busy LCR_CMD = false)
include hfree

theorem lcrCal_starts (hidle : s.bit LCR_SCALQ_RUNNING = false) (ha : a = s.accepted LCR_CMD 5) (hlamp : a.lampSide = true) :
    s.lcrCal = ({ a.setAll [(LCR_SCALQ_RUNNING, 1), (LCR_SCALQ_PIECES, 0)] with lcr := { a.lcr with
      calEnd := a.now + 48 * 1600 } } : State).setStat LCR_CMD stBUSY := by
  rw [State.lcrCal, if_neg (by simp [hidle]), lcrCommand_accepted hfree ha hlamp]
  rfl

theorem lcrProbe_dark (ha : a = s.accepted LCR_CMD 6) (hlamp : a.lampSide = true) (hlit : a.bit LDU_STAT_LIT = false) :
    s.lcrProbe = a.lcrRefuse lrSTATE 0 := by
  rw [State.lcrProbe, lcrCommand_accepted hfree ha hlamp]
  exact if_pos (by simp [hlit])

theorem lcrProbe_noWindow (ha : a = s.accepted LCR_CMD 6) (hlamp : a.lampSide = true) (hlit : a.bit LDU_STAT_LIT = true)
    (hfits : a.probeFits = false) : s.lcrProbe = a.lcrRefuse lrWINDOW 0 := by
  rw [State.lcrProbe, lcrCommand_accepted hfree ha hlamp]
  exact (if_neg (by simp [hlit])).trans (if_pos (by simp [hfits]))

theorem lcrProbe_starts (ha : a = s.accepted LCR_CMD 6) (hlamp : a.lampSide = true) (hlit : a.bit LDU_STAT_LIT = true)
    (hfits : a.probeFits = true) (hper : a.get LCR_PROBE_PER ≠ 0) :
    s.lcrProbe = (a.set LCR_PROBEST_REPEATING (a.get LCR_PROBE_REP)).passStart.setStat LCR_CMD stDONE := by
  rw [State.lcrProbe, lcrCommand_accepted hfree ha hlamp]
  exact (if_neg (by simp [hlit])).trans ((if_neg (by simp [hfits])).trans (if_neg hper))

theorem lcrShorttest_lit (ha : a = s.accepted LCR_CMD 8) (hlamp : a.lampSide = true) (hlit : a.bit LDU_STAT_LIT = true) :
    s.lcrShorttest = a.lcrRefuse lrSTATE 0 := by
  rw [State.lcrShorttest, lcrCommand_accepted hfree ha hlamp]
  exact if_pos hlit

theorem lcrShorttest_dark (ha : a = s.accepted LCR_CMD 8) (hlamp : a.lampSide = true) (hlit : a.bit LDU_STAT_LIT = false) :
    s.lcrShorttest = ({ a.set LCR_STAT_SHORTRUN 1 with lcr := { a.lcr with shortEnd := a.now + 1500000 } } : State).setStat
      LCR_CMD stBUSY := by
  rw [State.lcrShorttest, lcrCommand_accepted hfree ha hlamp]
  exact if_neg (by simp [hlit])

end Commands

/-! ### Verdicts forgotten (R381) -/

/-- A lamp with its verdict forgotten. -/
def Lamp.forgotten (x : Lamp) : Lamp := { x with verdict := vUNKNOWN }

/-- The lamps whose record is not the default once their verdicts are forgotten. -/
def forgetVerdicts (l : List (Nat × Lamp)) : List (Nat × Lamp) := l.filterMap fun x =>
  if { x.2 with verdict := vUNKNOWN } = (⟨0, 0, 0, false⟩ : Lamp) then none else some (x.1, { x.2 with verdict := vUNKNOWN })

/-- After CLRFLT no lamp has a verdict (R381). -/
theorem verdict_forgetVerdicts (l : List (Nat × Lamp)) (k : Nat) :
    (mget ⟨0, 0, 0, false⟩ (forgetVerdicts l) k).verdict = vUNKNOWN := by
  induction l with
  | nil => rfl
  | cons x l ih =>
    rw [forgetVerdicts, List.filterMap_cons]
    split
    · exact ih
    next y hy =>
      obtain rfl : (x.1, { x.2 with verdict := vUNKNOWN }) = y := by
        split at hy
        · cases hy
        · exact Option.some.inj hy
      rw [mget]
      split
      · rfl
      · exact ih

/-- The fault list emptied: its words, its count and its overflow bit (R381). -/
def State.emptyFaults (s : State) : State :=
  ((List.range (s.get LCR_FLCNT_COUNT)).foldl (fun (s : State) i => s.wr (LCR_FLIST i) 0) s).setAll
    [(LCR_FLCNT_COUNT, 0), (LCR_FLCNT_OVF, 0)]

theorem clrflt_accepted (hfree : s.busy LCR_CMD = false) (ha : a = s.accepted LCR_CMD 9) (hlamp : a.lampSide = true) :
    s.clrflt = (({ a with lcr := { a.lcr with lamps := forgetVerdicts a.lcr.lamps } } : State).emptyFaults).setStat LCR_CMD
      stDONE := by
  rw [State.clrflt, lcrCommand_accepted hfree ha hlamp]
  rfl

theorem emptyFaults_lcr : s.emptyFaults.lcr = s.lcr := by
  rw [State.emptyFaults, State.setAll_lcr]
  exact foldl_keeps State.lcr (by intros; rfl) _

theorem sameMemory_emptyFaults : SameMemory s s.emptyFaults := by
  refine sameMemory_of_mem ?_ ?_
  · rw [State.emptyFaults, State.setAll_mem]
    exact foldl_keeps State.mem (by intros; rfl) _
  · rw [State.emptyFaults, State.setAll_memc]
    exact foldl_keeps State.memc (by intros; rfl) _

theorem count_zeroed : (s.setAll [(LCR_FLCNT_COUNT, 0), (LCR_FLCNT_OVF, 0)]).get LCR_FLCNT_COUNT = 0 :=
  (get_set_disjoint _ LCR_FLCNT_OVF LCR_FLCNT_COUNT 0 rfl (by decide) (by decide) (.inl (by decide))).trans
    (get_set_same _ LCR_FLCNT_COUNT 0 (by decide))

theorem overflow_zeroed : (s.setAll [(LCR_FLCNT_COUNT, 0), (LCR_FLCNT_OVF, 0)]).get LCR_FLCNT_OVF = 0 :=
  get_set_same _ LCR_FLCNT_OVF 0 (by decide)

theorem emptyFaults_zero : s.emptyFaults.get LCR_FLCNT_COUNT = 0 ∧ s.emptyFaults.get LCR_FLCNT_OVF = 0 :=
  ⟨count_zeroed, overflow_zeroed⟩

theorem get_setStat_ne {x st : Nat} {f : Fld} (h : f.reg ≠ x) : (s.setStat x st).get f = s.get f := by
  rw [State.get, State.get, rd_setStat_ne s st h]

/-- CLRFLT empties the fault list and forgets every verdict, and leaves memory as it is (R381). -/
theorem clrflt_clears (hfree : s.busy LCR_CMD = false) (ha : a = s.accepted LCR_CMD 9) (hlamp : a.lampSide = true) :
    s.clrflt.get LCR_FLCNT_COUNT = 0 ∧ s.clrflt.bit LCR_FLCNT_OVF = false ∧ s.clrflt.stat LCR_CMD = stDONE ∧
      (∀ k, (s.clrflt.lamp k).verdict = vUNKNOWN) ∧ SameMemory s s.clrflt := by
  rw [clrflt_accepted hfree ha hlamp]
  generalize hd : ({ a with lcr := { a.lcr with lamps := forgetVerdicts a.lcr.lamps } } : State) = d
  refine ⟨?count, ?overflow, stat_setStat _ _ _, ?verdicts, ?memory⟩
  case count => exact (get_setStat_ne (by decide)).trans emptyFaults_zero.1
  case overflow =>
    have hovf : (d.emptyFaults.setStat LCR_CMD stDONE).get LCR_FLCNT_OVF = 0 :=
      (get_setStat_ne (by decide)).trans emptyFaults_zero.2
    simp only [State.bit, hovf]
    rfl
  case verdicts =>
    intro k
    have hlamps : (d.emptyFaults.setStat LCR_CMD stDONE).lcr = d.lcr := (State.setStat_lcr ..).trans emptyFaults_lcr
    rw [State.lamp, hlamps, ← hd]
    exact verdict_forgetVerdicts _ _
  case memory =>
    have hsame : SameMemory s d := by rw [← hd, ha]; exact sameMemory_of_mem rfl rfl
    exact fun x => (byte_setStat ..).trans ((sameMemory_emptyFaults x).trans (hsame x))

/-! ### Sensors -/

theorem lbRead_lcr (i : Nat) (t : Int) (ok : Bool) : (s.lbRead i t ok).lcr = s.lcr := by
  rw [State.lbRead]
  split
  · exact State.setAll_lcr _ _
  · exact (State.set_lcr ..).trans (State.setAll_lcr _ _)

theorem ntcConvert_next (l : List Int) : (s.ntcConvert l).lcr.nextNtc = s.now + 10000000 := by
  refine (congrArg LcrSt.nextNtc (foldl_keeps State.lcr (fun t x => ?_) _)).trans rfl
  split
  · exact lbRead_lcr _ _ _
  · rfl

theorem lbSensors_next (l : List (Option Int)) : (s.lbSensors l).lcr.nextDig = s.now + 100000000 := by
  refine (congrArg LcrSt.nextDig (foldl_keeps State.lcr (fun t x => ?_) _)).trans rfl
  split
  · exact lbRead_lcr _ _ _
  · rfl

/-- Settles O56. -/
theorem lampTestsSensorsAndLoopAct : Obligations.LampTestsSensorsAndLoopAct := by
  intro s hrun
  refine ⟨fun hfree => ⟨?cal, ?probe, ?probestop, ?short, ?clear⟩, ?calBusy, ?calDue, ?calEnd, ?again, ?shortDone, ?sensors, ?loop⟩
  case cal => exact fun a hidle ha hlamp => settled_running_of_eq hrun (lcrCal_starts hfree hidle ha hlamp)
  case probe =>
    exact fun a ha hlamp => ⟨fun hlit => settled_running_of_eq hrun (lcrProbe_dark hfree ha hlamp hlit),
      fun hlit hfits => settled_running_of_eq hrun (lcrProbe_noWindow hfree ha hlamp hlit hfits),
      fun hlit hfits hper => settled_running_of_eq hrun (lcrProbe_starts hfree ha hlamp hlit hfits hper)⟩
  case probestop => exact fun a ha hlamp => settled_running_of_eq hrun (lcrCommand_accepted hfree ha hlamp)
  case short =>
    exact fun a ha hlamp => ⟨fun hlit => settled_running_of_eq hrun (lcrShorttest_lit hfree ha hlamp hlit),
      fun hlit => settled_running_of_eq hrun (lcrShorttest_dark hfree ha hlamp hlit)⟩
  case clear =>
    intro a ha hlamp
    obtain ⟨hcount, hovf, hstat, hverdicts, hmem⟩ := clrflt_clears hfree ha hlamp
    exact ⟨s.clrflt.settle, settled_running hrun, hcount, hovf, hstat, hverdicts, hmem.settle⟩
  case calBusy => exact fun hbusy => settled_running_of_eq hrun (if_pos hbusy)
  case calDue =>
    intro hready hlamp htrigger hidle
    have hguard : (s.ready && s.lampSide && s.sinkCalTrigger) = true := by rw [hready, hlamp, htrigger]; rfl
    exact ⟨fun hhold => settled_of_guard_eq hguard ((if_neg (by simp [hidle])).trans (if_pos hhold)),
      fun hmode => settled_of_guard_eq hguard ((if_neg (by simp [hidle])).trans (if_neg hmode))⟩
  case calEnd =>
    exact fun tr re hready hbusy hdark hend => settled_of_guard (by simp [hready, hbusy, hdark, hend])
  case again =>
    intro t hready hlit hrep hpass hlast hdue
    exact settled_of_guard (by simpa [hready, hlit, hrep, hpass, hlast] using hdue)
  case shortDone => exact fun l hshort => settled_of_guard (by rw [hrun, hshort]; rfl)
  case sensors =>
    exact fun hready hlamp => ⟨fun l hdue => ⟨settled_of_guard (by simp [hready, hlamp, hdue]), ntcConvert_next l⟩,
      fun l hdue => ⟨settled_of_guard (by simp [hready, hlamp, hdue]), lbSensors_next l⟩⟩
  case loop =>
    exact fun hruns => ⟨fun hdue hlq => ⟨settled_of_guard (by simp [hruns, hdue, hlq]), rfl⟩,
      fun b hb => settled_of_guard_eq hruns (by rw [hb]; rfl)⟩

end Sys2Proof.Machine
end

section
/-! The states of a redundant pair (R409, R415-R419, R423-R426), its digests and votes (R410-R413, R421): O57 and O58. -/

namespace Sys2Proof.Machine

variable {s a b : State} {p : Nat}

/-! ### Entering a state (R415, R416) -/

theorem trace_rdn (s : State) (ev cls thr e t arg : Nat) : (s.trace ev cls thr e t arg).rdn = s.rdn := by
  rw [State.trace]
  split
  · rfl
  split
  · exact State.bump_rdn _ _
  dsimp only
  split
  · rw [State.set_rdn, State.set_rdn]
  · rw [State.set_rdn]

theorem notify_rdn (code arg : Nat) : (s.notify code arg).rdn = s.rdn := by
  obtain ⟨-, r, n, h⟩ := besideNotes_notify s code arg
  rw [h]

/-- A state newly entered says who feeds and whether the partner is lost; nothing else of the pair changes (R415). -/
theorem rdnEnter_rdn {st : Nat} (hne : s.rdnState ≠ st) : (s.rdnEnter st).rdn = { s.rdn with
    feeds := if st = rdSOLO ∨ st = rdACTIVE then true else if st = rdSWAP then s.rdn.feeds else false
    lost := st = rdSOLO && s.rdnState = rdACTIVE } := by
  rw [State.rdnEnter, if_neg hne]
  exact (notify_rdn _ _).trans (trace_rdn ..)

theorem rdnEnter_installed (st : Nat) : (s.rdnEnter st).rdn.installed = s.rdn.installed := by
  by_cases h : s.rdnState = st
  · rw [State.rdnEnter, if_pos h]
  · rw [rdnEnter_rdn h]

theorem threeMissed_active (h : s.rdnState = rdACTIVE) : s.threeMissed = s.rdnEnter rdSOLO := by
  simp only [State.threeMissed, h]

theorem partnerIn_solo (h : s.rdnState = rdSOLO) :
    s.partnerIn rdSTANDBY = ({ s with rdn := { s.rdn with dual := false } } : State).rdnEnter rdACTIVE := by
  have hst : (s.rdnSet fun r => { r with dual := false }).rdnState = rdSOLO := h
  have hfeeds : ¬(rdSTANDBY = rdSOLO ∨ rdSTANDBY = rdACTIVE) := by decide
  simp only [State.partnerIn, if_neg hfeeds, hst]
  rfl

theorem partnerIn_start (h : s.rdnState = rdSTART) (hmis : s.rdn.pairMis = false) :
    s.partnerIn rdACTIVE = (s.rdnEnter rdSYNC).askFull := by
  simp [State.partnerIn, h, hmis]

/-! ### Heartbeats (R409, R416) -/

/-- What RDN_PATH reads for the frames missed, once a base frame is closed. -/
theorem missed_shown (m x y : Nat) (f : RdnSt → RdnSt) :
    (((s.setAll [(RDN_PATH_PLINK, x), (RDN_PATH_MISS, m), (RDN_PATH_RING, y)]).rdnSet f).bump RDN_HBTMISS).get RDN_PATH_MISS =
      m % 2 ^ 3 := by
  have hbump (t : State) : (t.bump RDN_HBTMISS).get RDN_PATH_MISS = t.get RDN_PATH_MISS := by
    rw [State.get, State.get, rd_bump_ne _ (by decide) (by decide)]
  have hrdn (t : State) : (t.rdnSet f).get RDN_PATH_MISS = t.get RDN_PATH_MISS := rfl
  have hfields : s.setAll [(RDN_PATH_PLINK, x), (RDN_PATH_MISS, m), (RDN_PATH_RING, y)] =
    ((s.set RDN_PATH_PLINK x).set RDN_PATH_MISS m).set RDN_PATH_RING y := rfl
  rw [hbump, hrdn, hfields, get_set_disjoint _ RDN_PATH_RING RDN_PATH_MISS _ rfl (by decide) (by decide) (.inl (by decide)),
    get_set_same _ RDN_PATH_MISS _ (by decide)]

/-- A base frame without a heartbeat is counted; before the third one nothing else follows (R416). -/
theorem closeFrame_missed (hheard : s.rdn.heard = []) (hfew : s.get RDN_PATH_MISS < 2) :
    s.closeFrame.rdn.bf = s.rdn.bf + 1 ∧ s.closeFrame.get RDN_PATH_MISS = s.get RDN_PATH_MISS + 1 := by
  have hmiss : min 7 (s.get RDN_PATH_MISS + 1) = s.get RDN_PATH_MISS + 1 := by omega
  have hthird : ¬3 ≤ s.get RDN_PATH_MISS + 1 := by omega
  have hempty : (s.rdn.heard).isEmpty = true := by rw [hheard]; rfl
  simp only [State.closeFrame, hempty, if_true, hmiss, if_neg hthird]
  refine ⟨?bf, ?miss⟩
  case bf =>
    rw [State.bump_rdn]
    exact congrArg (fun r => r.bf + 1) (State.setAll_rdn s _)
  case miss =>
    rw [missed_shown]
    exact Nat.mod_eq_of_lt (by change _ < 8; omega)

section Received

variable {i : RxItem}

theorem exec_hbtRx_taken {prim rev : Bool} (hrun : s.running = true) (hhead : s.head = true) (hp : p < 16)
    (htake : s.takeRx p (fun f => f.typ = fHBT) = some (i, b)) (hsrc : i.f.src = b.partnerAddr) (hready : b.ready = true)
    (hgrid : b.gridRuns = true) (hon : b.rdnState ≠ rdOFF) :
    exec (.hbtRx p prim rev) s = .next (b.hbtRx p i.f prim rev).settle := by
  change execHbtRx p prim rev s = _
  rw [execHbtRx, if_pos (by simp [hrun, hhead, hp]), htake]
  exact settled_of_guard (by simp [hsrc, hready, hgrid, hon])

theorem exec_swapRx_taken (hrun : s.running = true) (hhead : s.head = true) (hp : p < 16)
    (htake : s.takeRx p (isSvc vSWAP) = some (i, b)) (hready : b.ready = true) (hgrid : b.gridRuns = true)
    (hon : b.rdnState ≠ rdOFF) : exec (.swapRx p) s = .next (b.swapRx (svcPay i.f)).settle := by
  change execSwapRx p s = _
  rw [execSwapRx, if_pos (by simp [hrun, hhead, hp]), htake]
  exact settled_of_guard (by simp [hready, hgrid, hon])

theorem exec_epochRx_taken (hrun : s.running = true) (hhead : s.head = true) (hp : p < 16)
    (htake : s.takeRx p (isSvc vEPOCH) = some (i, b)) (hready : b.ready = true) (hcompares : b.compares = true)
    (hlen : 8 ≤ (svcPay i.f).length) : exec (.epochRx p) s = .next (b.epochRx (svcPay i.f)).settle := by
  change execEpochRx p s = _
  rw [execEpochRx, if_pos (by simp [hrun, hhead, hp]), htake]
  exact settled_of_guard (by simp only [hready, hcompares, decide_eq_true hlen]; rfl)

theorem exec_epreqRx_taken (hrun : s.running = true) (hhead : s.head = true) (hp : p < 16)
    (htake : s.takeRx p (isSvc vEPREQ) = some (i, b)) (hfeeds : b.rdn.feeds = true) (hfull : numAt (svcPay i.f) 2 1 % 2 = 1) :
    exec (.epreqRx p) s = .next ({ b with rdn := { b.rdn with full := true } } : State).settle := by
  change execEpreqRx p s = _
  rw [execEpreqRx, if_pos (by simp [hrun, hhead, hp]), htake]
  exact settled_of_guard (by rw [hfeeds, decide_eq_true hfull]; rfl)

end Received

/-! ### Swaps (R419) -/

section Swap

variable {l : List Byte} {q c d : Nat} {w : Swap} (hq : q = nearSlot s.nextPost (numAt l 0 2))
include hq

/-- A request that comes at or after the pacing tick of its slot is cancelled. -/
theorem swapRx_late {t : Bool} (hc : c = numAt l 3 1) (hd : d = numAt l 4 2) (hkind : numAt l 2 1 = 1)
    (hpart : s.swapPart c = some t) (hlate : s.paceTick q ≤ s.tm.wall) : s.swapRx l = s.sendSwap q 3 c d := by
  simp [State.swapRx, ← hq, ← hc, ← hd, hkind, hpart, hlate]

/-- A request in time is agreed to, and SWAP is entered. -/
theorem swapRx_agrees {t : Bool} (hc : c = numAt l 3 1) (hd : d = numAt l 4 2) (hkind : numAt l 2 1 = 1)
    (hpart : s.swapPart c = some t) (htime : s.tm.wall < s.paceTick q) : s.swapRx l =
      ((s.setSwap (some ⟨q, t, c, d, s.rdnState, true⟩)).rdnEnter rdSWAP).sendSwap q 2 c d := by
  simp [State.swapRx, ← hq, ← hc, ← hd, hkind, hpart, htime]

/-- The partner agrees to this head's request. -/
theorem swapRx_agreed (hkind : numAt l 2 1 = 2) (hw : s.rdn.swap = some w) (hslot : w.slot = q) (hopen : w.agreed = false)
    (htime : s.tm.wall < s.paceTick q) :
    s.swapRx l = (s.setSwap (some { w with agreed := true })).rdnEnter rdSWAP := by
  simp [State.swapRx, ← hq, hkind, hw, hslot, hopen, htime]

/-- The partner cancels the swap. -/
theorem swapRx_cancelled (hkind : numAt l 2 1 = 3) (hw : s.rdn.swap = some w) (hslot : w.slot = q) :
    s.swapRx l = s.swapCancel := by
  simp [State.swapRx, ← hq, hkind, hw, hslot]

end Swap

/-! ### Commands of RDN_CMD -/

section Commands

theorem rdnCommand_accepted {op dur : Nat} {f : State → State} (hfree : s.busy RDN_CMD = false)
    (ha : a = s.accepted RDN_CMD (op + 16 * (dur % 4096))) : s.rdnCommand op dur f = f a := by
  rw [State.rdnCommand, command_accepted hfree, ← ha]

variable {d : Nat} (hfree : s.busy RDN_CMD = false)
include hfree

theorem rdnDrill_refused (hd : d < 4096) (ha : a = s.accepted RDN_CMD (1 + 16 * d))
    (h : a.rdnState ≠ rdACTIVE ∨ a.rdn.vote ≠ none ∨ a.bit CMP_PACE_STAT_CATCHUP = true) :
    s.rdnDrill d = a.setStat RDN_CMD stREFUSED := by
  rw [State.rdnDrill, rdnCommand_accepted hfree (by rw [Nat.mod_eq_of_lt hd, ← ha])]
  refine if_pos ?_
  obtain h | h | h := h
  · simp [h]
  · simp [Option.isSome_iff_ne_none.2 h]
  · simp [h]

theorem rdnDrill_starts (hd : d < 4096) (ha : a = s.accepted RDN_CMD (1 + 16 * d)) (hactive : a.rdnState = rdACTIVE)
    (hvote : a.rdn.vote = none) (hcatch : a.bit CMP_PACE_STAT_CATCHUP = false) (hdur : d ≠ 0) :
    s.rdnDrill d = (a.setStat RDN_CMD stBUSY).swapRequest false 1 d := by
  rw [State.rdnDrill, rdnCommand_accepted hfree (by rw [Nat.mod_eq_of_lt hd, ← ha]), Nat.mod_eq_of_lt hd]
  exact if_neg (by simp [hactive, hvote, hcatch, hdur])

theorem rdnClear_refused (ha : a = s.accepted RDN_CMD 2) (h : a.rdnState ≠ rdFAULTY) :
    s.rdnClear = a.setStat RDN_CMD stREFUSED := by
  rw [State.rdnClear, rdnCommand_accepted hfree ha]
  exact if_pos h

theorem rdnClear_faulty (ha : a = s.accepted RDN_CMD 2) (h : a.rdnState = rdFAULTY) :
    s.rdnClear = (((a.rdnEnter rdSYNC).askFull).placeChanged).setStat RDN_CMD stDONE := by
  rw [State.rdnClear, rdnCommand_accepted hfree ha]
  exact if_neg (by simp [h])

section Resync

variable (ha : a = s.accepted RDN_CMD 3) (hoff : a.rdnState ≠ rdOFF) (hstart : a.rdnState ≠ rdSTART)
  (hfaulty : a.rdnState ≠ rdFAULTY)
include ha hoff hstart hfaulty

theorem rdnResync_feeding (hfeeds : a.rdn.feeds = true) :
    s.rdnResync = ({ a with rdn := { a.rdn with full := true } } : State).setStat RDN_CMD stDONE := by
  rw [State.rdnResync, rdnCommand_accepted hfree ha]
  exact (if_neg (by simp [hoff, hstart, hfaulty])).trans (if_pos hfeeds)

theorem rdnResync_following (hfeeds : a.rdn.feeds = false) : s.rdnResync = a.askFull.setStat RDN_CMD stDONE := by
  rw [State.rdnResync, rdnCommand_accepted hfree ha]
  exact (if_neg (by simp [hoff, hstart, hfaulty])).trans (if_neg (by simp [hfeeds]))

end Resync

end Commands

/-! ### Epochs (R425, R426) -/

theorem enterIf_installed {c : Prop} [Decidable c] (st : Nat) :
    (if c then s.rdnEnter st else s).rdn.installed = s.rdn.installed := by
  split
  · exact rdnEnter_installed _
  · rfl

theorem installEpoch_installed (x : Epoch) : (s.installEpoch x).rdn.installed = true := by
  rw [State.installEpoch]
  exact (enterIf_installed _).trans rfl

theorem epochEnd_full {num : Nat} {l c : List Byte} {items : List Item} (hitems : parseItems (numAt c 8 4) l = some items)
    (hnum : numAt c 0 2 = num) (hcount : items.length = numAt c 8 4) (hlen : l.length = numAt c 12 4)
    (hcrc : crc32c l = numAt c 20 4) (hfull : numAt c 4 1 % 2 = 1) :
    (s.epochEnd num l c).rdn.inst = s.rdn.inst ++ [⟨num, numAt c 2 2, true, items, numAt c 16 2⟩] := by
  simp [State.epochEnd, hitems, hnum, hcount, hlen, hcrc, hfull, State.rdnSet]

/-- Settles O57. -/
theorem pairStatesAct : Obligations.PairStatesAct := by
  intro s hrun hhead
  have hguard : (s.running && s.head) = true := by rw [hrun, hhead]; rfl
  refine ⟨?frames, ?feeds, fun h => threeMissed_active h, fun h => partnerIn_solo h, fun h hmis => partnerIn_start h hmis,
    ?received, ?commands, fun x => installEpoch_installed x,
    fun num l c items hitems hnum hcount hlen hcrc hfull => epochEnd_full hitems hnum hcount hlen hcrc hfull⟩
  case frames =>
    intro hready hgrid hon
    refine ⟨fun hsent => ⟨settled_of_guard (by simp [hhead, hready, hgrid, hon, hsent]), rfl⟩, fun hheard hbf => ⟨?_, ?_⟩, ?_, ?_⟩
    · exact settled_of_guard (by simp [hhead, hready, hgrid, hon, hheard, hbf])
    · exact fun hfew => closeFrame_missed hheard hfew
    · exact fun hstart hmis hwait =>
        settled_of_guard (by simp only [hhead, hready, hgrid, hstart, hmis, decide_eq_true hwait]; rfl)
    · exact fun hfeeds hitems hbf => settled_of_guard (by simp [hhead, hready, hgrid, hfeeds, hon, hitems, hbf])
  case feeds => exact fun st hne => by rw [rdnEnter_rdn hne]
  case received =>
    intro p hp
    refine ⟨?hbt, ?swap, ?epoch, ?epreq⟩
    case hbt =>
      exact fun i b prim rev htake hsrc hready hgrid hon => exec_hbtRx_taken hrun hhead hp htake hsrc hready hgrid hon
    case swap =>
      intro i b l q c d htake hready hgrid hon hl hq hc hd
      subst hl
      rw [exec_swapRx_taken hrun hhead hp htake hready hgrid hon]
      exact ⟨fun t hkind hpart hlate => by rw [swapRx_late hq hc hd hkind hpart hlate],
        fun t hkind hpart htime => by rw [swapRx_agrees hq hc hd hkind hpart htime],
        fun w hkind hw hslot hopen htime => by rw [swapRx_agreed hq hkind hw hslot hopen htime],
        fun w hkind hw hslot => by rw [swapRx_cancelled hq hkind hw hslot]⟩
    case epoch => exact fun i b htake hready hcompares hlen => exec_epochRx_taken hrun hhead hp htake hready hcompares hlen
    case epreq => exact fun i b htake hfeeds hfull => exec_epreqRx_taken hrun hhead hp htake hfeeds hfull
  case commands =>
    intro hfree
    exact ⟨fun d a hd ha => ⟨fun h => settled_of_guard_eq hguard (rdnDrill_refused hfree hd ha h),
        fun hactive hvote hcatch hdur => settled_of_guard_eq hguard (rdnDrill_starts hfree hd ha hactive hvote hcatch hdur)⟩,
      fun a ha => ⟨fun h => settled_of_guard_eq hguard (rdnClear_refused hfree ha h),
        fun h => settled_of_guard_eq hguard (rdnClear_faulty hfree ha h)⟩,
      fun a ha hoff hstart hfaulty =>
        ⟨fun hfeeds => settled_of_guard_eq hguard (rdnResync_feeding hfree ha hoff hstart hfaulty hfeeds),
          fun hfeeds => settled_of_guard_eq hguard (rdnResync_following hfree ha hoff hstart hfaulty hfeeds)⟩⟩

/-! ### Digests and votes (R410-R413, R421) -/

section Votes

variable {i : RxItem} {l : List Byte} {v : Vote}

theorem exec_digRx_taken (hrun : s.running = true) (hhead : s.head = true) (hp : p < 16)
    (htake : s.takeRx p (fun f => f.typ = fDIG) = some (i, b)) (hcompares : b.compares = true) (hsrc : i.f.src = b.partnerAddr) :
    exec (.digRx p) s = .next (b.digRx p i.f).settle := by
  change execDigRx p s = _
  rw [execDigRx, if_pos (by simp [hrun, hhead, hp]), htake]
  exact settled_of_guard (by rw [hcompares, decide_eq_true hsrc]; rfl)

theorem exec_votereqRx_taken (hrun : s.running = true) (hhead : s.head = true) (hp : p < 16)
    (htake : s.takeRx p (isSvc vVOTEREQ) = some (i, b)) (hl : l = svcPay i.f) (hfeeds : b.rdn.feeds = true)
    (hvote : b.rdn.vote = none) (hon : b.rdnState ≠ rdOFF) : exec (.votereqRx p) s =
      .next (b.voteStart (numAt l 0 2) (numAt l 2 1 % 16) (numAt l 4 2)).settle := by
  change execVotereqRx p s = _
  rw [execVotereqRx, if_pos (by simp [hrun, hhead, hp]), htake, hl]
  exact settled_of_guard (by simp [hfeeds, hvote, hon])

theorem exec_verdictRx_taken (hrun : s.running = true) (hhead : s.head = true) (hp : p < 16)
    (htake : s.takeRx p (isSvc vVERDICT) = some (i, b)) (hl : l = svcPay i.f) (hv : b.rdn.vote = some v)
    (htile : v.tile = numAt l 0 2) (hslice : v.slice = numAt l 2 1 % 16) (hseq : v.seq = numAt l 4 2) :
    exec (.verdictRx p) s = .next (({ b with rdn := { b.rdn with
      vote := some { v with theirs := some (numAt l 6 1 = 1) } } } : State).judge).settle := by
  change execVerdictRx p s = _
  rw [execVerdictRx, if_pos (by simp [hrun, hhead, hp]), htake]
  simp only [hv, ← hl]
  rw [if_pos ⟨htile, hslice, hseq⟩, settled_next]
  rfl

theorem compareDeadline_late {r : SlotRun} (hr : s.cmp.slots.reverse.find? (fun r =>
      decide (launchTime s.grid (r.j + 1) ≤ s.tm.wall) && s.ringEnds.any (fun p => !r.digOut.contains p)) = some r) :
    s.compareDeadline = (s.ringEnds.foldl (fun s p => match s.runOf (r.j % 65536) with
      | some x => s.compareRing x p true
      | none => s) s).stillsRefresh := by
  simp only [State.compareDeadline, hr] <;> rfl

theorem recomputed_verdict {d : Nat} {r : SlotRun} {x : Nat × Nat × Nat} (hv : s.rdn.vote = some v) (hd : v.dig = some d)
    (hmine : v.mine = none) (hr : s.runOf v.seq = some r) (hx : r.digs.find? (fun x => x.1 = v.tile && x.2.1 = v.slice) = some x) :
    s.recomputed = ((if x.2.2 = d then s else s.set RDN_STAT_SELFBAD 1).sendVerdict { v with mine := some (decide (x.2.2 = d)) }
      (decide (x.2.2 = d))).judge := by
  simp only [State.recomputed, hv, hd, hmine, hr, hx, decide_eq_true_eq]

theorem exec_voteTimeout_due (hrun : s.running = true) (hhead : s.head = true) (hv : s.rdn.vote = some v)
    (hdue : v.start + 4 ≤ s.frameNow) : exec .voteTimeout s = .next (s.voteEnd 6).settle := by
  change execVoteTimeout s = _
  rw [execVoteTimeout, hv]
  exact settled_of_guard (by simp [hrun, hhead, hdue])

/-- Both heads found the slice good: the heads disagree (R421). -/
theorem judge_bothGood (hv : s.rdn.vote = some v) (hmine : v.mine = some true) (htheirs : v.theirs = some true)
    (hfeeds : s.rdn.feeds = true) : s.judge = (s.voteEnd 4).set RDN_STAT_DISAGREE 1 := by
  simp [State.judge, hv, hmine, htheirs, hfeeds]

/-- Both heads found the slice bad: the feeding head goes on alone (R421). -/
theorem judge_bothBad (hv : s.rdn.vote = some v) (hmine : v.mine = some false) (htheirs : v.theirs = some false)
    (hfeeds : s.rdn.feeds = true) : s.judge = if (s.voteEnd 5).rdnState = rdACTIVE then (s.voteEnd 5).rdnEnter rdSOLO
      else s.voteEnd 5 := by
  simp [State.judge, hv, hmine, htheirs, hfeeds]

theorem voteEnd_vote {n : Nat} (hv : s.rdn.vote = some v) : (s.voteEnd n).rdn.vote = none := by
  simp only [State.voteEnd, hv]
  rfl

end Votes

/-- Settles O58. -/
theorem digestsAndVotesAct : Obligations.DigestsAndVotesAct := by
  intro s hrun hhead
  refine ⟨fun p hp => ⟨?dig, ?votereq, ?verdict⟩, ?deadline, ?recompute, ?timeout, ?judge, fun v hv => voteEnd_vote hv⟩
  case dig => exact fun i b htake hcompares hsrc => exec_digRx_taken hrun hhead hp htake hcompares hsrc
  case votereq =>
    exact fun i b l htake hl hfeeds hvote hon => exec_votereqRx_taken hrun hhead hp htake hl hfeeds hvote hon
  case verdict =>
    exact fun i b l v htake hl hv htile hslice hseq => exec_verdictRx_taken hrun hhead hp htake hl hv htile hslice hseq
  case deadline =>
    exact fun r hready hcompares hr =>
      settled_of_guard_eq (by simp [hhead, hready, hcompares]) (compareDeadline_late hr)
  case recompute =>
    exact fun v d r x hv hd hmine hr hx =>
      settled_of_guard_eq (by rw [hrun, hhead]; rfl) (recomputed_verdict hv hd hmine hr hx)
  case timeout => exact fun v hv hdue => exec_voteTimeout_due hrun hhead hv hdue
  case judge =>
    intro v m t hv hmine htheirs hfeeds
    refine ⟨fun hm ht => ?_, fun hm ht => ?_⟩
    · subst hm ht
      exact judge_bothGood hv hmine htheirs hfeeds
    · subst hm ht
      exact judge_bothBad hv hmine htheirs hfeeds

end Sys2Proof.Machine
end

section
/-! Power steps, core voltage, temperature levels and supplies (R486-R501): O60. -/

namespace Sys2Proof.Machine

variable {s a b : State}

/-! ### Power commands and steps (R488-R490) -/

theorem powerRefusal_range {t : Nat} (h : psSHOW < t) : s.powerRefusal t = some prRANGE := if_pos h

section PowerCommand

variable {t : Nat} (hfree : s.busy PWR_CMD = false) (ha : a = s.accepted PWR_CMD t)
include hfree ha

theorem powerCommand_refused {r : Nat} (hr : a.powerRefusal t = some r) :
    s.powerCommand t = (a.set PWR_STAT_REASON r).setStat PWR_CMD stREFUSED := by
  rw [State.powerCommand, command_accepted hfree, ← ha]
  simp only [hr]

theorem powerCommand_starts (hok : a.powerRefusal t = none) (hne : t ≠ a.power) :
    s.powerCommand t = (a.powerTo t).setStat PWR_CMD stBUSY := by
  rw [State.powerCommand, command_accepted hfree, ← ha]
  simp only [hok]
  exact if_neg (by simp [hne])

end PowerCommand

/-- A power step of a transition in progress waits, or goes toward the target (R489). -/
theorem exec_powerStep {f : StepFacts} (hrun : s.running = true) (htrans : s.bit PWR_STAT_TRANS = true)
    (hb : b = s.stepStat stBUSY) : exec (.powerStep f) s = .next (if s.stepBlocked then s.stepStat stDEFERRED
      else if b.power < b.get PWR_STAT_TARGET then b.stepUp f else b.stepDown).settle := by
  subst hb
  exact settled_of_eq (if_neg (by simp [hrun, htrans]))

/-! ### Core voltage (R493) -/

/-- Between multiples of 5 mV a step moves by 5 mV toward its target and not past it. -/
theorem nextStep_moves {t c : Nat} (hc : c % 5 = 0) (ht : t % 5 = 0) (hne : t ≠ c) :
    (nextStep t c = c + 5 ∨ nextStep t c + 5 = c) ∧ nextStep t c % 5 = 0 ∧ (c < t → nextStep t c ≤ t) ∧
      (t < c → t ≤ nextStep t c) := by
  rw [nextStep]
  split
  · omega
  · omega

section VoltageCommand

variable {v : Nat} (hfree : s.busy PWR_VCMD = false) (ha : a = s.accepted PWR_VCMD v)
include hfree ha

theorem voltageCommand_accepted (hlow : 700 ≤ v) (hhigh : v ≤ 800) (hstep : v % 5 = 0) : s.voltageCommand v =
    ({ a with pwr := { a.pwr with vcmd := some (v, s.setPoint, a.now) } } : State).setStat PWR_VCMD stBUSY := by
  rw [State.voltageCommand, command_accepted hfree, ← ha]
  exact if_neg (by omega)

theorem voltageCommand_refused (h : v < 700 ∨ 800 < v ∨ v % 5 ≠ 0) :
    s.voltageCommand v = (a.set PWR_STAT_REASON prRANGE).setStat PWR_VCMD stREFUSED := by
  rw [State.voltageCommand, command_accepted hfree, ← ha]
  exact if_pos h

end VoltageCommand

section VoltageStep

variable {t c u m : Nat} {k : Bool} (hv : s.pwr.vcmd = some (t, c, u)) (hb : b = s.set PWR_VMEAS_MV (min 1023 m))
include hv hb

theorem exec_voltageStep_reached (hlow : m ≤ c + 10) (hhigh : c ≤ m + 10) (htarget : t = c) :
    exec (.voltageStep m k) s = .next (b.voltageEnd stDONE t).settle := by
  change execVoltageStep m k s = _
  simp only [execVoltageStep, hv, ← hb, hlow, hhigh, htarget]
  exact settled_next _

theorem exec_voltageStep_late (hfar : ¬(m ≤ c + 10 ∧ c ≤ m + 10)) (hlate : u + 5000000 ≤ b.now) :
    exec (.voltageStep m k) s = .next (b.voltageEnd stFAILED c).settle := by
  change execVoltageStep m k s = _
  simp only [execVoltageStep, hv, ← hb, hfar, hlate]
  exact settled_next _

variable (hlow : m ≤ c + 10) (hhigh : c ≤ m + 10) (hne : t ≠ c)
  (hdue : u * max 1 (b.get PWR_VCFG_SLEW) + 5000000 ≤ b.now * max 1 (b.get PWR_VCFG_SLEW))
include hlow hhigh hne hdue

/-- Once the output has settled and the slew rate allows it, the next step is due: it is sent, or the command fails. -/
theorem exec_voltageStep_due : exec (.voltageStep m k) s = .next (if k then ({ b.sendStep (nextStep t c) with
    pwr := { (b.sendStep (nextStep t c)).pwr with vcmd := some (t, nextStep t c, b.now) } } : State)
      else b.voltageEnd stFAILED c).settle := by
  change execVoltageStep m k s = _
  simp only [execVoltageStep, hv, ← hb]
  refine settled_of_eq ((if_pos (decide_eq_true ⟨hlow, hhigh⟩)).trans
    ((if_neg hne).trans ((if_neg (Nat.not_lt.2 hdue)).trans ?_)))
  cases k with
  | true => exact (if_neg Bool.false_ne_true).trans (if_pos rfl).symm
  | false => exact (if_pos rfl).trans (if_neg Bool.false_ne_true).symm

end VoltageStep

/-! ### Temperature (R495-R501) -/

/-- Two samples at the trip level trip a unit that was warned (R500). -/
theorem thmAct_trips {n : Nat} {t : Int} (hlevel : reached (s.sensorHist n) 1920 = true) (hup : s.bit THM_STAT_TRIPPED = false)
    (hwarn : s.thm.warn = true) : s.thmAct n t = ((s.tripNow n t).riseCheck n t).warnClear n t := by
  have hwarned : (if reached (s.sensorHist n) 1600 = true then s.warnAt n t else s) = s := by
    rw [show s.warnAt n t = s from if_pos hwarn, ite_self]
  simp only [State.thmAct, hwarned, hlevel, hup]
  rfl

theorem gridRuns_set {f : Fld} {n : Nat} (h : TMU_SRV_STAT ≠ f.reg) : (s.set f n).gridRuns = s.gridRuns := by
  simp only [State.gridRuns, State.servo, get_set_ne s f TMU_SRV_STAT_STATE n h]
  rfl

theorem exec_stopFactorZero_due {t : Nat} (hrun : s.running = true) (hstop : s.thm.stopAt = some t) (hin : s.inStop = true)
    (hzero : s.thm.zero = false) (hdue : t + 200000000 ≤ s.now) (hgrid : s.gridRuns = true)
    (hb : b = ({ s with thm := { s.thm with zero := true } } : State).set THM_STAT_STOPF 0) :
    exec .stopFactorZero s = .next ({ b with cmp := { b.cmp with next := none } } : State).settle := by
  have hruns : b.gridRuns = true := by rw [hb, gridRuns_set (by decide)]; exact hgrid
  change execStopFactorZero s = _
  have hb' : (s.thmSet fun k => { k with zero := true }).set THM_STAT_STOPF 0 = b := hb.symm
  simp only [execStopFactorZero, hstop]
  rw [if_neg (by simp [hrun, hin, hzero, hdue])]
  simp only [hb']
  exact settled_of_guard_eq hruns rfl

theorem exec_tripOffCheck_hot {t : Nat} {x : Nat × Int} {q : State} (hrun : s.running = true) (htrip : s.thm.tripAt = some t)
    (hdue : t + 1000000000 ≤ s.now) (hb : b = ({ s with thm := { s.thm with tripAt := none } } : State))
    (hx : b.readings.find? (fun x => decide (1920 ≤ x.2)) = some x) (hq : q = (b.thermal 9 x.1 x.2).allOff) :
    exec .tripOffCheck s = .next (({ q with pins := { q.pins with faultN := true } } : State).set PWR_STAT_LASTAUTO 4).settle := by
  have hb' : s.thmSet (fun k => { k with tripAt := none }) = b := hb.symm
  change execTripOffCheck s = _
  simp only [execTripOffCheck, htrip]
  rw [if_neg (by simp [hrun, hdue])]
  simp only [hb', hx, ← hq, settled_next]

/-- A round while the core voltage is being moved reads the supplies and leaves PWR_VMEAS to the steps (R493, R496). -/
theorem housekeeping_whileMoving {mv : List Nat} (hvcmd : s.pwr.vcmd ≠ none)
    (hb : b = ({ s with thm := { s.thm with nextRound := s.now + 50000000 } } : State)) :
    (if (s.thmSet fun k => { k with nextRound := s.now + 50000000 }).pwr.vcmd.isNone then
      (s.thmSet fun k => { k with nextRound := s.now + 50000000 }).set PWR_VMEAS_MV (min 1023 (mv.headD 0))
      else s.thmSet fun k => { k with nextRound := s.now + 50000000 }) = b := by
  rw [if_neg (by simpa [State.thmSet] using hvcmd), hb]
  rfl

/-- Settles O60. -/
theorem powerVoltageAndTemperatureAct : Obligations.PowerVoltageAndTemperatureAct := by
  refine ⟨fun t c hc ht hne => nextStep_moves hc ht hne, fun s hrun => ?_⟩
  refine ⟨?command, fun t ht => powerRefusal_range ht, ?step, ?vcmd, ?voltage, ?sample, fun n t => thmAct_trips, ?stop, ?trip, ?round⟩
  case command =>
    intro t a ht hfree ha
    have hmod : t % 8 = t := Nat.mod_eq_of_lt ht
    exact ⟨fun r hr => settled_running_of_eq hrun (by rw [hmod, powerCommand_refused hfree ha hr]),
      fun hok hne => settled_running_of_eq hrun (by rw [hmod, powerCommand_starts hfree ha hok hne])⟩
  case step =>
    intro htrans f b hb
    rw [exec_powerStep hrun htrans hb]
    exact ⟨fun hblocked => by rw [if_pos hblocked],
      fun hfree hup => by rw [if_neg (by simp [hfree]), if_pos hup],
      fun hfree hdown => by rw [if_neg (by simp [hfree]), if_neg (Nat.not_lt.2 hdown)]⟩
  case vcmd =>
    intro v a hv hfree ha
    have hmod : v % 1024 = v := Nat.mod_eq_of_lt hv
    exact ⟨fun hlow hhigh hstep => settled_running_of_eq hrun (by rw [hmod, voltageCommand_accepted hfree ha hlow hhigh hstep]),
      fun h => settled_running_of_eq hrun (by rw [hmod, voltageCommand_refused hfree ha h])⟩
  case voltage =>
    intro t c u m b hv hb
    exact ⟨fun hlow hhigh htarget k => exec_voltageStep_reached hv hb hlow hhigh htarget,
      fun hfar hlate k => exec_voltageStep_late hv hb hfar hlate,
      fun hlow hhigh hne hdue => ⟨exec_voltageStep_due hv hb hlow hhigh hne hdue, exec_voltageStep_due hv hb hlow hhigh hne hdue⟩⟩
  case sample => exact fun n t hvalid hdue => settled_of_guard (by rw [hrun, hvalid, hdue]; rfl)
  case stop =>
    exact fun t b hstop hin hzero hdue hgrid hb => exec_stopFactorZero_due hrun hstop hin hzero hdue hgrid hb
  case trip => exact fun t x b q htrip hdue hb hx hq => exec_tripOffCheck_hot hrun htrip hdue hb hx hq
  case round =>
    exact fun mv b hdue hlen hvcmd hb => settled_of_guard_eq (by simp [hrun, hdue, hlen])
      (by dsimp only; rw [housekeeping_whileMoving hvcmd hb])

end Sys2Proof.Machine
end

section
/-! The result of an instruction that goes on at the next one (R145, R169, R173, R174, R201): what the count of an issue
leaves of the other slots, of registers and of memory, the arithmetic forms over the enabled lanes, and O34 and O35. -/

namespace Sys2Proof.Machine

variable {s b q : State} {e t f u : Nat} {i : KIns} {x y : Slot} {l : List Nat}

/-! ### Slots -/

theorem slot_setSlot (s : State) (e t f u : Nat) (x : Slot) :
    (s.setSlot e t x).slot f u = if 8 * f + u = 8 * e + t then x else s.slot f u := by
  by_cases h : 8 * f + u = 8 * e + t
  · simp only [State.slot, State.setSlot, h, mget_mput_same, if_true]
  · simp only [State.slot, State.setSlot, mget_mput_ne _ _ _ _ h, h, if_false]

@[simp] theorem slot_bump (s : State) (a e t : Nat) : (s.bump a).slot e t = s.slot e t := by
  simp only [State.slot, State.bump_eng]

@[simp] theorem slot_bumpN (s : State) (a n e t : Nat) : (s.bumpN a n).slot e t = s.slot e t := by
  simp only [State.slot, State.bumpN_eng]

/-! ### Registers -/

theorem rd_bumpN_ne (s : State) {a c : Nat} (n : Nat) (h : c ≠ a) (h4 : c ≠ a + 4) : (s.bumpN a n).rd c = s.rd c := by
  simp only [State.bumpN]
  split <;> rw [rd_wr_ne _ _ h4, rd_wr_ne _ _ h]

theorem sameRegisters_bumpN (s : State) (a n : Nat) : SameRegisters s (s.bumpN a n) [a, a + 4] := fun c hc => by
  simp only [List.mem_cons, List.not_mem_nil, or_false, not_or] at hc
  exact rd_bumpN_ne s n hc.1 hc.2

@[simp] theorem byte_bumpN (s : State) (a n c : Nat) : (s.bumpN a n).byte c = s.byte c := by simp [State.byte]

/-! ### The count of an issue (R145, R171, R201) -/

theorem Slot.unyielded_unyielded (x : Slot) (t : Nat) : (x.unyielded t).unyielded t = x.unyielded t := by
  simp [Slot.unyielded]

theorem Slot.unyielded_of_nil (h : x.yld = []) : x.unyielded t = x := by
  cases x
  simp_all [Slot.unyielded]

/-- Slot `u` of the engine no longer waits for slot `t`. -/
def State.unyieldSlot (s : State) (e t u : Nat) : State :=
  if (s.slot e u).yld = [] then s else s.setSlot e u ((s.slot e u).unyielded t)

theorem unyield_eq_foldl (s : State) (e t : Nat) :
    s.unyield e t = (List.range 8).foldl (fun r v => r.unyieldSlot e t v) s := rfl

theorem slot_unyieldSlot (s : State) (e t v f u : Nat) : (s.unyieldSlot e t v).slot f u =
    if 8 * f + u = 8 * e + v then (s.slot f u).unyielded t else s.slot f u := by
  have hslot : 8 * f + u = 8 * e + v → s.slot f u = s.slot e v := fun h => by rw [State.slot, State.slot, h]
  rw [State.unyieldSlot]
  split
  next hnil =>
    split
    next hkey => rw [Slot.unyielded_of_nil (by rw [hslot hkey, hnil])]
    next => rfl
  next =>
    rw [slot_setSlot]
    split
    next hkey => rw [hslot hkey]
    next => rfl

theorem slot_foldl_unyieldSlot (l : List Nat) (s : State) (e t f u : Nat) :
    (l.foldl (fun r v => r.unyieldSlot e t v) s).slot f u =
      if ∃ v ∈ l, 8 * f + u = 8 * e + v then (s.slot f u).unyielded t else s.slot f u := by
  induction l generalizing s with
  | nil => simp
  | cons v l ih =>
    rw [List.foldl_cons, ih, slot_unyieldSlot]
    by_cases hv : 8 * f + u = 8 * e + v
    · simp [hv, Slot.unyielded_unyielded]
    · simp [hv]

/-- No slot of the engine waits for the slot that issued, and the other engines' slots stand. -/
theorem slot_issued_eq (s : State) (e t f : Nat) (hu : u < 8) :
    (s.issued e t).slot f u = if f = e then (s.slot f u).unyielded t else s.slot f u := by
  have hkey : (∃ v ∈ List.range 8, 8 * f + u = 8 * e + v) ↔ f = e := by
    constructor
    · rintro ⟨v, hv, h⟩
      have := List.mem_range.1 hv
      omega
    · exact fun h => ⟨u, List.mem_range.2 hu, by rw [h]⟩
  rw [State.issued, unyield_eq_foldl, slot_foldl_unyieldSlot]
  simp only [hkey, slot_bump]
  rfl

theorem unyield_eq (s : State) (e t : Nat) : ∃ m, s.unyield e t = { s with eng := { s.eng with slots := m } } := by
  refine List.foldlRecOn (motive := fun r : State => ∃ m, r = { s with eng := { s.eng with slots := m } }) _ _
    ⟨s.eng.slots, rfl⟩ ?_
  rintro r ⟨m, rfl⟩ v -
  dsimp only
  split
  · exact ⟨m, rfl⟩
  · exact ⟨_, rfl⟩

/-- The threads' records stand. -/
@[simp] theorem thread_issued (s : State) (e t n : Nat) : (s.issued e t).thread n = s.thread n := by
  obtain ⟨m, hm⟩ := unyield_eq ((s.setCrew (e / 8) { s.crew (e / 8) with
    lastIssue := lset (s.crew (e / 8)).lastIssue (e % 8) t }).bump (ENG_ISSUED e)) e t
  rw [State.issued, hm, State.thread, State.bump_eng]
  rfl

@[simp] theorem byte_issued (s : State) (e t c : Nat) : (s.issued e t).byte c = s.byte c := by
  obtain ⟨m, hm⟩ := unyield_eq ((s.setCrew (e / 8) { s.crew (e / 8) with
    lastIssue := lset (s.crew (e / 8)).lastIssue (e % 8) t }).bump (ENG_ISSUED e)) e t
  rw [State.issued, hm]
  exact byte_bump _ _ _

theorem rd_issued (s : State) (e t : Nat) {c : Nat} (h : c ≠ ENG_ISSUED e) (h4 : c ≠ ENG_ISSUED e + 4) :
    (s.issued e t).rd c = s.rd c := by
  rw [State.issued, rd_unyield, rd_bump_ne _ h h4]
  rfl

/-! ### What issues -/

/-- An engine issues from one of its eight slots. -/
theorem pick_lt (h : s.pick e = some t) : t < 8 := by
  refine List.foldlRecOn (motive := fun b => ∀ v, b = some v → v < 8) _ _ (fun v hv => absurd hv (by simp)) ?_ t h
  intro b hb v hv w hw
  have hv8 : v < 8 := by
    obtain ⟨k, -, rfl⟩ := List.mem_map.1 (List.mem_filter.1 hv).1
    omega
  cases b with
  | none => simp_all
  | some a =>
    have := hb a rfl
    dsimp only at hw
    split at hw <;> simp_all

theorem State.Issues.slot_lt (h : s.Issues e t i) : t < 8 := pick_lt h.slot

theorem State.Issues.engine_lt (h : s.Issues e t i) : e < 64 := by
  have hon := h.engine
  simp only [State.engIssues, State.engOn, Bool.and_eq_true, decide_eq_true_eq] at hon
  omega

theorem State.Issues.slot_issued_self (h : s.Issues e t i) : (s.issued e t).slot e t = (s.slot e t).unyielded t := by
  rw [slot_issued_eq s e t e h.slot_lt, if_pos rfl]

/-- The result of a completed issue from the state `q` that the instruction's effect leaves. -/
theorem State.Issues.slotResult (h : s.Issues e t i) (hslot : q.slot e t = y)
    (hothers : ∀ f u, 8 * f + u ≠ 8 * e + t → q.slot f u = (s.issued e t).slot f u)
    (hregs : SameRegisters (s.issued e t) q l) : SlotResult s ((s.issued e t).past q e t).settle e t y l where
  slot := by
    change ((s.issued e t).past q e t).slot e t = _
    rw [State.past, slot_setSlot_same, hslot, pc_issued]
  others f u hu hne := by
    have hkey : 8 * f + u ≠ 8 * e + t := by have := h.slot_lt; omega
    change ((s.issued e t).past q e t).slot f u = _
    rw [State.past, slot_setSlot, if_neg hkey, hothers f u hkey, slot_issued_eq s e t f hu]
  registers c hc := by
    simp only [List.mem_cons, not_or] at hc
    obtain ⟨hi, hi4, hl⟩ := hc
    exact (hregs c hl).trans (rd_issued s e t hi hi4)

theorem sameMemory_past (h : SameMemory s q) (b : State) (e t : Nat) : SameMemory s (b.past q e t).settle :=
  SameMemory.settle h

/-! ### Arithmetic results (R169, R174) -/

/-- What an arithmetic result leaves before the program counter advances. -/
def State.arithLeft (b : State) (e t : Nat) (z : Slot × Bool) : State :=
  if z.2 then (b.setSlot e t { z.1 with sat := true }).bump (ENG_SATCNT e) else b.setSlot e t z.1

theorem arithDone_eq (b : State) (e t : Nat) (z : Slot × Bool) : b.arithDone e t z = .next (b.arithLeft e t z) := by
  rw [State.arithDone, State.arithLeft]
  split <;> rfl

theorem slot_arithLeft (b : State) (e t : Nat) (z : Slot × Bool) :
    (b.arithLeft e t z).slot e t = { z.1 with sat := z.1.sat || z.2 } := by
  rw [State.arithLeft]
  split
  next h => simp [h]
  next h => simp [h]

theorem slot_arithLeft_ne (b : State) (z : Slot × Bool) (h : 8 * f + u ≠ 8 * e + t) :
    (b.arithLeft e t z).slot f u = b.slot f u := by
  rw [State.arithLeft]
  split
  · rw [slot_bump, slot_setSlot, if_neg h]
  · rw [slot_setSlot, if_neg h]

theorem sameRegisters_arithLeft (b : State) (e t : Nat) (z : Slot × Bool) :
    SameRegisters b (b.arithLeft e t z) [ENG_SATCNT e, ENG_SATCNT e + 4] := by
  rw [State.arithLeft]
  split
  · exact sameRegisters_bumpN (b.setSlot e t _) (ENG_SATCNT e) 1
  · exact SameRegisters.refl _ _

theorem byte_arithLeft (b : State) (e t : Nat) (z : Slot × Bool) (c : Nat) : (b.arithLeft e t z).byte c = b.byte c := by
  rw [State.arithLeft]
  split
  · exact byte_bump _ _ _
  · rfl

section Rows

variable {row : KIns → Bool} {eff : State → Nat → Nat → KIns → KRes}

/-- A row whose effect is the arithmetic result `z`. -/
theorem State.Issues.settled_arithDone {z : Slot × Bool} (h : s.Issues e t i) (hrow : row i = true)
    (heff : eff (s.issued e t) e t i = (s.issued e t).arithDone e t z) : ∃ r, settled (s.kerf e t row eff) = .next r ∧
      SlotResult s r e t { z.1 with sat := z.1.sat || z.2 } [ENG_SATCNT e, ENG_SATCNT e + 4] ∧ SameMemory s r := by
  refine ⟨_, h.settled_kerf hrow (heff.trans (arithDone_eq _ e t z)) rfl, ?_, ?_⟩
  · exact h.slotResult (slot_arithLeft _ e t z) (fun f u hne => slot_arithLeft_ne _ z hne) (sameRegisters_arithLeft _ e t z)
  · exact sameMemory_past (fun c => (byte_arithLeft _ e t z c).trans (byte_issued s e t c)) _ e t

/-- A row without effect on the slot but its program counter. -/
theorem State.Issues.settled_next_same (h : s.Issues e t i) (hrow : row i = true)
    (heff : eff (s.issued e t) e t i = .next (s.issued e t)) : ∃ r, settled (s.kerf e t row eff) = .next r ∧
      SlotResult s r e t ((s.slot e t).unyielded t) l ∧ SameMemory s r := by
  refine ⟨_, h.settled_kerf hrow heff rfl, ?_, sameMemory_past (byte_issued s e t) _ e t⟩
  exact h.slotResult h.slot_issued_self (fun _ _ _ => rfl) (SameRegisters.refl _ _)

end Rows

/-! ### The enabled lanes of a vector register (R174) -/

theorem mem_lanesOn {m : Half} {n : Nat} : n ∈ lanesOn m ↔ n < 16 ∧ laneOn m n = true := by
  rw [lanesOn, List.mem_filter, List.mem_range]

theorem vreg_setV_same (x : Slot) (d n : Nat) (w : Word) : (x.setV d n w).vreg d n = w := mget_mput_same _ _ _ _

theorem vreg_setV_ne (x : Slot) {d n c k : Nat} (w : Word) (hn : n < 16) (hk : k < 16) (h : c ≠ d ∨ k ≠ n) :
    (x.setV d n w).vreg c k = x.vreg c k := mget_mput_ne _ _ _ _ (by omega)

/-- One enabled lane of a vector result. -/
def laneWrite (d : Nat) (g : Nat → SatWord) (y : Slot × Bool) (n : Nat) : Slot × Bool := (y.1.setV d n (g n).1, y.2 || (g n).2)

section LaneFold

variable {d : Nat} {g : Nat → SatWord}

theorem foldl_laneWrite_lane (l : List Nat) (hl : ∀ n ∈ l, n < 16) (y : Slot × Bool) {k : Nat} (hk : k < 16) :
    (l.foldl (laneWrite d g) y).1.vreg d k = if k ∈ l then (g k).1 else y.1.vreg d k := by
  induction l generalizing y with
  | nil => simp
  | cons n l ih =>
    obtain ⟨hn, hl⟩ := List.forall_mem_cons.1 hl
    rw [List.foldl_cons, ih hl]
    by_cases hkn : k = n
    · subst hkn
      simp [laneWrite, vreg_setV_same]
    · simp [laneWrite, vreg_setV_ne _ _ hn hk (.inr hkn), hkn]

theorem foldl_laneWrite_other (l : List Nat) (hl : ∀ n ∈ l, n < 16) (y : Slot × Bool) {c k : Nat} (hk : k < 16) (hc : c ≠ d) :
    (l.foldl (laneWrite d g) y).1.vreg c k = y.1.vreg c k := by
  induction l generalizing y with
  | nil => rfl
  | cons n l ih =>
    obtain ⟨hn, hl⟩ := List.forall_mem_cons.1 hl
    rw [List.foldl_cons, ih hl]
    exact vreg_setV_ne _ _ hn hk (.inl hc)

theorem foldl_laneWrite_sat (l : List Nat) (y : Slot × Bool) :
    (l.foldl (laneWrite d g) y).2 = (y.2 || l.any fun n => (g n).2) := by
  induction l generalizing y with
  | nil => simp
  | cons n l ih => rw [List.foldl_cons, ih, List.any_cons, laneWrite, Bool.or_assoc]

theorem foldl_laneWrite_rest (l : List Nat) (y : Slot × Bool) :
    (l.foldl (laneWrite d g) y).1 = { y.1 with v := (l.foldl (laneWrite d g) y).1.v } := by
  induction l generalizing y with
  | nil => rfl
  | cons n l ih => exact ih _

end LaneFold

section VecWrite

variable (x : Slot) (m : Half) (d : Nat) (g : Nat → SatWord)

theorem vecWrite_eq_foldl : x.vecWrite m d g = (lanesOn m).foldl (laneWrite d g) (x, false) := rfl

theorem lanesOn_lt : ∀ n ∈ lanesOn m, n < 16 := fun _ h => (mem_lanesOn.1 h).1

theorem vreg_vecWrite {k : Nat} (hk : k < 16) :
    (x.vecWrite m d g).1.vreg d k = if laneOn m k then (g k).1 else x.vreg d k := by
  rw [vecWrite_eq_foldl, foldl_laneWrite_lane _ (lanesOn_lt m) _ hk]
  simp only [mem_lanesOn, hk, true_and]

theorem vreg_vecWrite_ne {c k : Nat} (hk : k < 16) (hc : c ≠ d) : (x.vecWrite m d g).1.vreg c k = x.vreg c k :=
  foldl_laneWrite_other _ (lanesOn_lt m) _ hk hc

theorem vecWrite_saturates : (x.vecWrite m d g).2 = (List.range 16).any fun n => laneOn m n && (g n).2 := by
  rw [vecWrite_eq_foldl, foldl_laneWrite_sat, Bool.false_or, lanesOn, List.any_filter]

theorem vecWrite_rest : (x.vecWrite m d g).1 = { x with v := (x.vecWrite m d g).1.v } := foldl_laneWrite_rest _ _

end VecWrite

/-! ### The two kinds of arithmetic forms (R174, R176) -/

/-- A row whose effect writes `g` to the enabled lanes of vD computes that form. -/
theorem vectorForm_of_vecWrite {c : Nat → Nat → Instr} {op : Nat} {ok : KIns → Prop} {g : KIns → Slot → Nat → SatWord}
    {row : KIns → Bool} {eff : State → Nat → Nat → KIns → KRes}
    (hexec : ∀ s e t, exec (c e t) s = settled (s.kerf e t row eff)) (hrow : ∀ i : KIns, i.op = op → row i = true)
    (hg : ∀ i x t, g i (x.unyielded t) = g i x)
    (heff : ∀ (b : State) e t (i : KIns), i.op = op → ok i → eff b e t i =
      b.arithDone e t ((b.slot e t).vecWrite (i.mask (b.slot e t)) i.d (g i (b.slot e t)))) : VectorForm c op ok g := by
  intro s e t i h hop hok
  have hslot := h.slot_issued_self
  have hmask : i.mask ((s.slot e t).unyielded t) = i.mask (s.slot e t) := rfl
  obtain ⟨r, hr, hres, hmem⟩ := h.settled_arithDone (hrow i hop) (heff (s.issued e t) e t i hop hok)
  rw [hslot, hg, hmask] at hres
  refine ⟨r, _, (hexec s e t).trans hr, hres, hmem, fun k hk => vreg_vecWrite _ _ _ _ hk,
    fun n k hk hn => vreg_vecWrite_ne _ _ _ _ hk hn, ?_, ?_⟩
  · rw [vecWrite_saturates, vecWrite_rest]
    rfl
  · rw [vecWrite_rest]

/-- A row whose effect writes one result to sD, unless the guard is zero, computes that form. -/
theorem scalarForm_of_setS {c : Nat → Nat → Instr} {op : Nat} {ok : KIns → Prop}
    {g : State → Nat → Nat → KIns → Slot → SatWord} {row : KIns → Bool} {eff : State → Nat → Nat → KIns → KRes}
    (hexec : ∀ s e t, exec (c e t) s = settled (s.kerf e t row eff)) (hrow : ∀ i : KIns, i.op = op → row i = true)
    (hg : ∀ (s : State) e t i, s.Issues e t i → g (s.issued e t) e t i ((s.slot e t).unyielded t) = g s e t i (s.slot e t))
    (heff : ∀ (b : State) e t (i : KIns), i.op = op → ok i → eff b e t i =
      if i.mask (b.slot e t) = 0 then .next b
      else b.arithDone e t ((b.slot e t).setS i.d (g b e t i (b.slot e t)).1, (g b e t i (b.slot e t)).2)) :
    ScalarForm c op ok g := by
  intro s e t i h hop hok
  have hslot := h.slot_issued_self
  have hmask : i.mask ((s.slot e t).unyielded t) = i.mask (s.slot e t) := rfl
  have hres := heff (s.issued e t) e t i hop hok
  rw [hslot, hg s e t i h, hmask] at hres
  by_cases hm : i.mask (s.slot e t) = 0
  · rw [if_pos hm] at hres
    obtain ⟨r, hr, hslotr, hmem⟩ := h.settled_next_same (l := [ENG_SATCNT e, ENG_SATCNT e + 4]) (hrow i hop) hres
    exact ⟨r, _, (hexec s e t).trans hr, hslotr, hmem, fun _ => rfl, fun hne => absurd hm hne⟩
  · rw [if_neg hm] at hres
    obtain ⟨r, hr, hslotr, hmem⟩ := h.settled_arithDone (hrow i hop) hres
    exact ⟨r, _, (hexec s e t).trans hr, hslotr, hmem, fun hz => absurd hz hm,
      fun _ => ⟨mget_mput_same _ _ _ _, fun n hn => mget_mput_ne _ _ _ _ hn, rfl, rfl⟩⟩

/-! ### The forms of each instruction (R179-R183, R193) -/

theorem arith_vector {g : Word → Word → Word → Word → SatWord} (h : i.op < 0x20) : b.arith e t i g =
    b.arithDone e t ((b.slot e t).vecWrite (i.mask (b.slot e t)) i.d fun n => g ((b.slot e t).vreg i.a n)
      (i.vecB (b.slot e t) n) ((b.slot e t).vreg i.c n) ((b.slot e t).vreg i.d n)) := if_pos h

theorem arith_scalar {g : Word → Word → Word → Word → SatWord} (h : ¬i.op < 0x20) : b.arith e t i g =
    if i.mask (b.slot e t) = 0 then .next b
    else b.arithDone e t ((b.slot e t).setS i.d (g ((b.slot e t).sreg i.a) (i.scaB (b.slot e t)) ((b.slot e t).sreg i.c)
      ((b.slot e t).sreg i.d)).1, (g ((b.slot e t).sreg i.a) (i.scaB (b.slot e t)) ((b.slot e t).sreg i.c)
      ((b.slot e t).sreg i.d)).2) := if_neg h

section OfArith

variable {c : Nat → Nat → Instr} {v n : Nat} {ok : KIns → Prop} {eff : State → Nat → Nat → KIns → KRes}
  {g : KIns → Word → Word → Word → Word → SatWord}

theorem opRow_of_eq (h : i.op = v ∨ i.op = n) : opRow v n i = true := by
  rcases h with h | h <;> simp [opRow, h]

/-- A vector opcode whose effect is an arithmetic form. -/
theorem vectorForm_of_arith (hv : v < 0x20) (hexec : ∀ s e t, exec (c e t) s = settled (s.kerf e t (opRow v n) eff))
    (heff : ∀ b e t i, ok i → eff b e t i = b.arith e t i (g i)) :
    VectorForm c v ok fun i x k => g i (x.vreg i.a k) (i.vecB x k) (x.vreg i.c k) (x.vreg i.d k) :=
  vectorForm_of_vecWrite hexec (fun _ hop => opRow_of_eq (.inl hop)) (fun _ _ _ => rfl)
    fun b e t i hop hok => (heff b e t i hok).trans (arith_vector (by omega))

/-- A scalar opcode whose effect is an arithmetic form. -/
theorem scalarForm_of_arith (hn : ¬n < 0x20) (hexec : ∀ s e t, exec (c e t) s = settled (s.kerf e t (opRow v n) eff))
    (heff : ∀ b e t i, ok i → eff b e t i = b.arith e t i (g i)) :
    ScalarForm c n ok fun _ _ _ i x => g i (x.sreg i.a) (i.scaB x) (x.sreg i.c) (x.sreg i.d) :=
  scalarForm_of_setS hexec (fun _ hop => opRow_of_eq (.inr hop)) (fun _ _ _ _ _ => rfl)
    fun b e t i hop hok => (heff b e t i hok).trans (arith_scalar (by omega))

end OfArith

theorem not_isPred_of_lt {n : Nat} (h : n < 6) : isPred n = false := by
  simp [isPred]
  omega

theorem kAdd_arith (h : i.fn < 6) : b.kAdd e t i = b.arith e t i fun x y _ _ => noSat (addForm i.fn x y) := by
  rw [State.kAdd]
  refine (if_neg (by simp [not_isPred_of_lt h])).trans (if_pos (by omega))

theorem kCvt_lane (h : i.fn < 5 ∨ i.fn = 9) : b.kCvt e t i = b.arith e t i fun x y _ _ => cvtForm i.fn i.imm x y := by
  have hform : i.fn = 0 ∨ i.fn = 1 ∨ i.fn = 2 ∨ i.fn = 3 ∨ i.fn = 4 ∨ i.fn = 9 := by omega
  rcases hform with hfn | hfn | hfn | hfn | hfn | hfn <;> simp only [State.kCvt, hfn]

theorem kCvt_splat (h : i.fn = 5) : b.kCvt e t i = b.arithDone e t ((b.slot e t).vecWrite (i.mask (b.slot e t)) i.d
    fun _ => noSat ((b.slot e t).sreg i.a)) := by simp only [State.kCvt, h]

theorem kCvt_laneOut (h : i.fn = 6) : b.kCvt e t i = if i.mask (b.slot e t) = 0 then .next b
    else b.arithDone e t ((b.slot e t).setS i.d (noSat ((b.slot e t).vreg i.a (i.imm % 16))).1, false) := by
  simp only [State.kCvt, h]
  rfl

theorem kCvt_iota (h : i.fn = 7) : b.kCvt e t i = b.arithDone e t ((b.slot e t).vecWrite (i.mask (b.slot e t)) i.d
    fun n => noSat ((b.slot e t).sreg i.a + BitVec.ofNat 32 n * i.immW)) := by simp only [State.kCvt, h]

theorem kCvt_immediate (h : i.fn = 8) : b.kCvt e t i = b.arith e t i fun _ _ _ _ => noSat i.immW := by
  simp only [State.kCvt, h]

theorem kCvt_system (h : i.fn = 10) : b.kCvt e t i =
    b.arith e t i fun _ _ _ _ => noSat (BitVec.ofNat 32 (b.sysValue e t i.imm)) := by simp only [State.kCvt, h]

/-! ### What CVT.SYS reads (R183) -/

theorem rd_pace_issued (h : s.Issues e t i) (c : Nat) : (s.issued e t).rd (CMP_CREW_PACE c) = s.rd (CMP_CREW_PACE c) := by
  have := h.engine_lt
  exact rd_issued s e t (by simp only [CMP_CREW_PACE, ENG_ISSUED]; omega) (by simp only [CMP_CREW_PACE, ENG_ISSUED]; omega)

theorem glbPace_issued (h : s.Issues e t i) : (s.issued e t).glbPace = s.glbPace := by
  simp only [State.glbPace, State.slowest, State.bit, State.get, rd_pace_issued h] <;> rfl

theorem sysValue_issued (h : s.Issues e t i) (k : Nat) : (s.issued e t).sysValue e t k = s.sysValue e t k := by
  simp only [State.sysValue, h.slot_issued_self, glbPace_issued h, thread_issued, Slot.unyielded]

/-! ### O34, O35 -/

/-- Settles O34: each row's effect writes its form to the enabled lanes. -/
theorem vectorFormsComputeEachEnabledLane : Obligations.VectorFormsComputeEachEnabledLane := by
  refine ⟨?add, ?adds, ?mul, ?mac, ?min, ?max, ?clmp, ?shl, ?shr, ?cvt, ?splat, ?iota, ?imm, ?blnd⟩
  case add =>
    exact vectorForm_of_arith (g := fun i x y _ _ => noSat (addForm i.fn x y)) (by decide) (fun _ _ _ => rfl)
      fun _ _ _ _ => kAdd_arith
  case adds =>
    exact vectorForm_of_arith (g := fun i x y _ _ => addsForm i.fn x y) (by decide) (fun _ _ _ => rfl)
      fun _ _ _ _ _ => rfl
  case mul =>
    exact vectorForm_of_arith (g := fun i x y _ _ => mulForm i.fn i.c x y) (by decide) (fun _ _ _ => rfl)
      fun _ _ _ _ _ => rfl
  case mac =>
    exact vectorForm_of_arith (g := fun i x y _ z => macForm i.fn i.c x y z) (by decide) (fun _ _ _ => rfl)
      fun _ _ _ _ _ => rfl
  case min =>
    exact vectorForm_of_arith (g := fun i x y _ _ => noSat (minForm i.fn x y)) (by decide) (fun _ _ _ => rfl)
      fun _ _ _ _ _ => rfl
  case max =>
    exact vectorForm_of_arith (g := fun i x y _ _ => noSat (maxForm i.fn x y)) (by decide) (fun _ _ _ => rfl)
      fun _ _ _ _ _ => rfl
  case clmp =>
    exact vectorForm_of_arith (g := fun i x y z _ => noSat (clmpForm i.fn x y z)) (by decide) (fun _ _ _ => rfl)
      fun _ _ _ _ _ => rfl
  case shl =>
    exact vectorForm_of_arith (g := fun i x y _ _ => shlForm i.fn x y) (by decide) (fun _ _ _ => rfl)
      fun _ _ _ _ _ => rfl
  case shr =>
    exact vectorForm_of_arith (g := fun i x y _ _ => noSat (shrForm i.fn x y)) (by decide) (fun _ _ _ => rfl)
      fun _ _ _ _ _ => rfl
  case cvt =>
    exact vectorForm_of_arith (g := fun i x y _ _ => cvtForm i.fn i.imm x y) (by decide) (fun _ _ _ => rfl)
      fun _ _ _ _ => kCvt_lane
  case imm =>
    exact vectorForm_of_arith (g := fun i _ _ _ _ => noSat i.immW) (by decide) (fun _ _ _ => rfl)
      fun _ _ _ _ => kCvt_immediate
  case splat =>
    exact vectorForm_of_vecWrite (fun _ _ _ => rfl) (fun _ hop => opRow_of_eq (.inl hop)) (fun _ _ _ => rfl)
      fun _ _ _ _ _ hfn => kCvt_splat hfn
  case iota =>
    exact vectorForm_of_vecWrite (fun _ _ _ => rfl) (fun _ hop => opRow_of_eq (.inl hop)) (fun _ _ _ => rfl)
      fun _ _ _ _ _ hfn => kCvt_iota hfn
  case blnd =>
    exact vectorForm_of_vecWrite (fun _ _ _ => rfl) (fun _ hop => decide_eq_true hop) (fun _ _ _ => rfl)
      fun _ _ _ _ _ _ => rfl

/-- Settles O35: each row's effect writes one result to sD under a guard that is not zero. -/
theorem scalarFormsComputeOneResult : Obligations.ScalarFormsComputeOneResult := by
  refine ⟨?add, ?adds, ?mul, ?mac, ?min, ?max, ?clmp, ?shl, ?shr, ?cvt, ?imm, ?lane, ?sys⟩
  case add =>
    exact scalarForm_of_arith (g := fun i x y _ _ => noSat (addForm i.fn x y)) (by decide) (fun _ _ _ => rfl)
      fun _ _ _ _ => kAdd_arith
  case adds =>
    exact scalarForm_of_arith (g := fun i x y _ _ => addsForm i.fn x y) (by decide) (fun _ _ _ => rfl)
      fun _ _ _ _ _ => rfl
  case mul =>
    exact scalarForm_of_arith (g := fun i x y _ _ => mulForm i.fn i.c x y) (by decide) (fun _ _ _ => rfl)
      fun _ _ _ _ _ => rfl
  case mac =>
    exact scalarForm_of_arith (g := fun i x y _ z => macForm i.fn i.c x y z) (by decide) (fun _ _ _ => rfl)
      fun _ _ _ _ _ => rfl
  case min =>
    exact scalarForm_of_arith (g := fun i x y _ _ => noSat (minForm i.fn x y)) (by decide) (fun _ _ _ => rfl)
      fun _ _ _ _ _ => rfl
  case max =>
    exact scalarForm_of_arith (g := fun i x y _ _ => noSat (maxForm i.fn x y)) (by decide) (fun _ _ _ => rfl)
      fun _ _ _ _ _ => rfl
  case clmp =>
    exact scalarForm_of_arith (g := fun i x y z _ => noSat (clmpForm i.fn x y z)) (by decide) (fun _ _ _ => rfl)
      fun _ _ _ _ _ => rfl
  case shl =>
    exact scalarForm_of_arith (g := fun i x y _ _ => shlForm i.fn x y) (by decide) (fun _ _ _ => rfl)
      fun _ _ _ _ _ => rfl
  case shr =>
    exact scalarForm_of_arith (g := fun i x y _ _ => noSat (shrForm i.fn x y)) (by decide) (fun _ _ _ => rfl)
      fun _ _ _ _ _ => rfl
  case cvt =>
    exact scalarForm_of_arith (g := fun i x y _ _ => cvtForm i.fn i.imm x y) (by decide) (fun _ _ _ => rfl)
      fun _ _ _ _ => kCvt_lane
  case imm =>
    exact scalarForm_of_arith (g := fun i _ _ _ _ => noSat i.immW) (by decide) (fun _ _ _ => rfl)
      fun _ _ _ _ => kCvt_immediate
  case lane =>
    exact scalarForm_of_setS (fun _ _ _ => rfl) (fun _ hop => opRow_of_eq (.inl hop)) (fun _ _ _ _ _ => rfl)
      fun _ _ _ _ _ hfn => kCvt_laneOut hfn
  case sys =>
    exact scalarForm_of_setS (fun _ _ _ => rfl) (fun _ hop => opRow_of_eq (.inr hop))
      (fun s e t i h => congrArg (fun k => noSat (BitVec.ofNat 32 k)) (sysValue_issued h i.imm))
      fun _ _ _ _ hop hfn => (kCvt_system hfn).trans (arith_scalar (by omega))

end Sys2Proof.Machine
end

section
/-! Predicates (R174, R179): the bits of a masked predicate and of the compares over the lanes, and O36. -/

namespace Sys2Proof.Machine

variable {s b : State} {e t : Nat} {i : KIns} {x : Slot}

/-! ### Lanes as bits (R174) -/

theorem laneOn_eq_getLsbD (m : Half) (k : Nat) : laneOn m k = m.getLsbD k := BitVec.testBit_toNat m

theorem getLsbD_maskBits (m v old : Half) {k : Nat} (hk : k < 16) :
    (maskBits m v old).getLsbD k = if laneOn m k then v.getLsbD k else old.getLsbD k := by
  rw [laneOn_eq_getLsbD, maskBits, BitVec.getLsbD_or, BitVec.getLsbD_and, BitVec.getLsbD_and, BitVec.getLsbD_not,
    decide_eq_true hk]
  cases m.getLsbD k <;> simp

/-- The number whose bit `k` is the condition of lane `k`, as the compares build it. -/
theorem testBit_foldl_range (c : Nat → Bool) (n : Nat) :
    (List.range n).foldl (fun a k => if c k then a + 2 ^ k else a) 0 < 2 ^ n ∧
      ∀ j, j < n → ((List.range n).foldl (fun a k => if c k then a + 2 ^ k else a) 0).testBit j = c j := by
  induction n with
  | zero => exact ⟨Nat.one_pos, fun j hj => absurd hj (Nat.not_lt_zero j)⟩
  | succ n ih =>
    obtain ⟨hlt, hbits⟩ := ih
    rw [List.range_succ, List.foldl_append]
    generalize (List.range n).foldl (fun a k => if c k then a + 2 ^ k else a) 0 = a at hlt hbits
    simp only [List.foldl_cons, List.foldl_nil]
    refine ⟨by split <;> omega, fun j hj => ?_⟩
    by_cases hjn : j = n
    · subst hjn
      split
      next hc => rw [Nat.add_comm, Nat.testBit_two_pow_add_eq, Nat.testBit_lt_two_pow hlt, hc]; rfl
      next hc => rw [Nat.testBit_lt_two_pow hlt, Bool.eq_false_iff.2 hc]
    · have hlow : j < n := by omega
      split
      · rw [Nat.add_comm, Nat.testBit_two_pow_add_gt hlow, hbits j hlow]
      · exact hbits j hlow

theorem getLsbD_lanes (c : Nat → Bool) {k : Nat} (hk : k < 16) :
    (BitVec.ofNat 16 ((List.range 16).foldl (fun a k => if c k then a + 2 ^ k else a) 0)).getLsbD k = c k := by
  rw [BitVec.getLsbD_ofNat, decide_eq_true hk, Bool.true_and, (testBit_foldl_range c 16).2 k hk]

/-! ### Predicate registers (R144) -/

theorem preg_setP_same {d : Nat} (w : Half) (h : d ≠ 0) : (x.setP d w).preg d = w := by
  rw [Slot.setP, if_neg h, Slot.preg, if_neg h]
  exact mget_mput_same _ _ _ _

/-- A write leaves the other predicates, and one to p0 has no effect. -/
theorem preg_setP_ne {d n : Nat} (w : Half) (h : n ≠ d ∨ d = 0) : (x.setP d w).preg n = x.preg n := by
  by_cases hd : d = 0
  · rw [Slot.setP, if_pos hd]
  · have hother : mget 0 (mput 0 x.p d w) n = mget 0 x.p n := mget_mput_ne _ _ _ _ (h.resolve_right hd)
    rw [Slot.setP, if_neg hd, Slot.preg, Slot.preg, hother]

theorem setP_rest (x : Slot) (d : Nat) (w : Half) : x.setP d w = { x with p := (x.setP d w).p } := by
  rw [Slot.setP]
  split <;> rfl

/-! ### ADD's predicate forms and compares (R179) -/

theorem kAdd_pred (h : isPred i.fn = true) : b.kAdd e t i = .next (b.setSlot e t ((b.slot e t).setP i.d
    (maskBits (i.mask (b.slot e t)) (predForm i.fn i.x2 ((b.slot e t).preg i.a) ((b.slot e t).preg i.b))
      ((b.slot e t).preg i.d)))) := if_pos h

theorem not_isPred_of_compare {n : Nat} (hlo : 8 ≤ n) (hhi : n ≤ 13) : ¬isPred n = true := by
  simp only [isPred, Bool.or_eq_true, decide_eq_true_eq]
  omega

theorem kAdd_compare_vector (hlo : 8 ≤ i.fn) (hhi : i.fn ≤ 13) (hop : i.op < 0x20) : b.kAdd e t i =
    .next (b.setSlot e t ((b.slot e t).setP i.d (maskBits (i.mask (b.slot e t)) (BitVec.ofNat 16 ((List.range 16).foldl
      (fun n k => if cmpForm i.fn ((b.slot e t).vreg i.a k) (i.vecB (b.slot e t) k) then n + 2 ^ k else n) 0))
      ((b.slot e t).preg i.d)))) :=
  (if_neg (not_isPred_of_compare hlo hhi)).trans ((if_neg (Nat.not_lt.2 hlo)).trans (if_pos hop))

theorem kAdd_compare_scalar (hlo : 8 ≤ i.fn) (hhi : i.fn ≤ 13) (hop : i.op = 0x20) : b.kAdd e t i =
    if i.mask (b.slot e t) = 0 then .next b else .next (b.setSlot e t ((b.slot e t).setP i.d
      (if cmpForm i.fn ((b.slot e t).sreg i.a) (i.scaB (b.slot e t)) then 0xFFFF else 0))) :=
  (if_neg (not_isPred_of_compare hlo hhi)).trans ((if_neg (Nat.not_lt.2 hlo)).trans (if_neg (by omega)))

section Rows

variable {row : KIns → Bool} {eff : State → Nat → Nat → KIns → KRes}

@[simp] theorem byte_setSlot (s : State) (e t : Nat) (x : Slot) (c : Nat) : (s.setSlot e t x).byte c = s.byte c := rfl

@[simp] theorem rd_setSlot (s : State) (e t : Nat) (x : Slot) (c : Nat) : (s.setSlot e t x).rd c = s.rd c := rfl

/-- A row whose effect is a new value of its slot alone. -/
theorem State.Issues.settled_setSlot {y : Slot} (h : s.Issues e t i) (hrow : row i = true)
    (heff : eff (s.issued e t) e t i = .next ((s.issued e t).setSlot e t y)) : ∃ r, settled (s.kerf e t row eff) = .next r ∧
      SlotResult s r e t y [] ∧ SameMemory s r := by
  refine ⟨_, h.settled_kerf hrow heff rfl, ?_,
    sameMemory_past (fun c => (byte_setSlot _ e t y c).trans (byte_issued s e t c)) _ e t⟩
  exact h.slotResult (slot_setSlot_same _ _ _ _) (fun f u hne => by rw [slot_setSlot, if_neg hne])
    (fun c _ => rd_setSlot _ e t y c)

/-- A row that writes `w` to pD, `c` being its bits on the enabled lanes. -/
theorem State.Issues.settled_setP {w : Half} {c : Nat → Bool} (h : s.Issues e t i) (hrow : row i = true)
    (heff : eff (s.issued e t) e t i =
      .next ((s.issued e t).setSlot e t (((s.slot e t).unyielded t).setP i.d w)))
    (hw : ∀ k, k < 16 → w.getLsbD k =
      if laneOn (i.mask (s.slot e t)) k then c k else ((s.slot e t).preg i.d).getLsbD k) :
    ∃ r y, settled (s.kerf e t row eff) = .next r ∧ SlotResult s r e t y [] ∧ SameMemory s r ∧
      (i.d ≠ 0 → ∀ k, k < 16 → (y.preg i.d).getLsbD k =
        if laneOn (i.mask (s.slot e t)) k then c k else ((s.slot e t).preg i.d).getLsbD k) ∧
      (∀ n, n ≠ i.d ∨ i.d = 0 → y.preg n = (s.slot e t).preg n) ∧ y = { (s.slot e t).unyielded t with p := y.p } := by
  obtain ⟨r, hr, hres, hmem⟩ := h.settled_setSlot hrow heff
  refine ⟨r, _, hr, hres, hmem, fun hd k hk => ?_, fun n hn => preg_setP_ne w hn, setP_rest _ _ _⟩
  rw [preg_setP_same w hd, hw k hk]

end Rows

/-! ### O36 -/

/-- Settles O36: each form writes its bits under the guard to pD and nothing else. -/
theorem predicateFormsWriteEachEnabledLane : Obligations.PredicateFormsWriteEachEnabledLane := by
  intro s e t i h
  have hslot := h.slot_issued_self
  refine ⟨fun c hc => ?_, fun hop hlo hhi hm => ?_, fun hop hlo hhi hm => ?_⟩
  · rcases hc with ⟨hop, hpred, hc⟩ | ⟨hop, hlo, hhi, hc⟩ | ⟨hop, hlo, hhi, hm, hc⟩
    · refine h.settled_setP (opRow_of_eq (.inl hop)) ((kAdd_pred hpred).trans (by rw [hslot])) fun k hk => ?_
      rw [getLsbD_maskBits _ _ _ hk, hc k hk]
      rfl
    · refine h.settled_setP (opRow_of_eq (.inl hop)) ((kAdd_compare_vector hlo hhi (by omega)).trans (by rw [hslot])) fun k hk => ?_
      rw [getLsbD_maskBits _ _ _ hk, hc k hk, getLsbD_lanes _ hk]
      rfl
    · have hguard : ¬i.mask ((s.issued e t).slot e t) = 0 := by
        rw [hslot]
        exact fun h0 => absurd (hm.symm.trans h0) (by decide)
      refine h.settled_setP (opRow_of_eq (.inr hop)) ((kAdd_compare_scalar hlo hhi hop).trans
        ((if_neg hguard).trans (by rw [hslot]))) fun k hk => ?_
      have hon : laneOn (i.mask (s.slot e t)) k = true := by
        rw [laneOn_eq_getLsbD, hm]
        exact (by decide : ∀ j, j < 16 → (0xFFFF#16).getLsbD j = true) k hk
      rw [if_pos hon, hc k hk]
      change BitVec.getLsbD (if cmpForm i.fn ((s.slot e t).sreg i.a) (i.scaB (s.slot e t)) = true then 0xFFFF#16 else 0#16) k = _
      split
      next hcmp => rw [hcmp]; exact (by decide : ∀ j, j < 16 → (0xFFFF#16).getLsbD j = true) k hk
      next hcmp => rw [Bool.eq_false_iff.2 hcmp]; exact BitVec.getLsbD_zero
  · have hguard : i.mask ((s.issued e t).slot e t) = 0 := by
      rw [hslot]
      exact hm
    exact h.settled_next_same (opRow_of_eq (.inr hop)) ((kAdd_compare_scalar hlo hhi hop).trans (if_pos hguard))
  · have hguard : ¬i.mask ((s.issued e t).slot e t) = 0 := by
      rw [hslot]
      exact hm
    obtain ⟨r, hr, hres, hmem⟩ := h.settled_setSlot (opRow_of_eq (.inr hop))
      ((kAdd_compare_scalar hlo hhi hop).trans ((if_neg hguard).trans (by rw [hslot])))
    exact ⟨r, hr, hmem, hres⟩

end Sys2Proof.Machine
end

section
/-! The local store (R153, R155, R184, R185): words stored and read back, the lanes of an access, and O38. -/

namespace Sys2Proof.Machine

variable {s b q : State} {e t : Nat} {i : KIns} {x : Slot}

/-! ### Words of memory -/

@[simp] theorem word_issued (s : State) (e t a : Nat) : (s.issued e t).word a = s.word a := by
  simp only [State.word, byte_issued]

theorem byte_putWord_outside (s : State) {a c : Nat} (v : Word) (h : c < a ∨ a + 4 ≤ c) : (s.putWord a v).byte c = s.byte c :=
  byte_putBytes_outside s a (wordBytes v) h

/-- A word just stored reads as stored. -/
theorem word_putWord_same (s : State) (a : Nat) (v : Word) : (s.putWord a v).word a = v := by
  have hbyte : ∀ k, k < 4 → (s.putWord a v).byte (a + k) = (wordBytes v).getD k 0 := fun k hk =>
    byte_putBytes_inside s a (wordBytes v) hk
  have h0 : (s.putWord a v).byte a = BitVec.ofNat 8 v.toNat := hbyte 0 (by decide)
  have h1 : (s.putWord a v).byte (a + 1) = BitVec.ofNat 8 (v.toNat / 2 ^ 8) := hbyte 1 (by decide)
  have h2 : (s.putWord a v).byte (a + 2) = BitVec.ofNat 8 (v.toNat / 2 ^ 16) := hbyte 2 (by decide)
  have h3 : (s.putWord a v).byte (a + 3) = BitVec.ofNat 8 (v.toNat / 2 ^ 24) := hbyte 3 (by decide)
  refine BitVec.eq_of_toNat_eq ?_
  rw [State.word, h0, h1, h2, h3]
  simp only [BitVec.toNat_ofNat]
  omega

/-- A store of one aligned word leaves every other. -/
theorem word_putWord_ne (s : State) {a c : Nat} (v : Word) (ha : a % 4 = 0) (hc : c % 4 = 0) (h : c ≠ a) :
    (s.putWord a v).word c = s.word c := by
  have hbyte : ∀ k, k < 4 → (s.putWord a v).byte (c + k) = s.byte (c + k) := fun k hk =>
    byte_putWord_outside s v (by omega)
  have h0 : (s.putWord a v).byte c = s.byte c := hbyte 0 (by decide)
  rw [State.word, State.word, h0, hbyte 1 (by decide), hbyte 2 (by decide), hbyte 3 (by decide)]

/-! ### A store of several words (R184) -/

/-- The words of a list stored in its order, each at its address. -/
def State.putLanes {α : Type} (s : State) (adr : α → Nat) (val : α → Word) (l : List α) : State :=
  l.foldl (fun r p => r.putWord (adr p) (val p)) s

section PutLanes

variable {α : Type} {adr : α → Nat} {val : α → Word}

theorem putLanes_append (s : State) (l m : List α) :
    s.putLanes adr val (l ++ m) = (s.putLanes adr val l).putLanes adr val m := List.foldl_append

theorem putLanes_cons (s : State) (p : α) (l : List α) :
    s.putLanes adr val (p :: l) = (s.putWord (adr p) (val p)).putLanes adr val l := rfl

@[simp] theorem putLanes_eng (s : State) (l : List α) : (s.putLanes adr val l).eng = s.eng :=
  foldl_keeps State.eng (fun _ _ => State.putBytes_eng _ _ _) l

@[simp] theorem putLanes_regs (s : State) (l : List α) : (s.putLanes adr val l).regs = s.regs :=
  foldl_keeps State.regs (fun _ _ => State.putBytes_regs _ _ _) l

@[simp] theorem putLanes_head (s : State) (l : List α) : (s.putLanes adr val l).head = s.head :=
  foldl_keeps State.head (fun _ _ => State.putBytes_head _ _ _) l

theorem byte_putLanes_outside (l : List α) (s : State) {c : Nat} (h : ∀ p ∈ l, c < adr p ∨ adr p + 4 ≤ c) :
    (s.putLanes adr val l).byte c = s.byte c := by
  induction l generalizing s with
  | nil => rfl
  | cons p l ih =>
    obtain ⟨hp, hl⟩ := List.forall_mem_cons.1 h
    rw [putLanes_cons, ih _ hl, byte_putWord_outside s _ hp]

theorem word_putLanes_ne (l : List α) (s : State) {c : Nat} (hadr : ∀ p ∈ l, adr p % 4 = 0) (hc : c % 4 = 0)
    (h : ∀ p ∈ l, c ≠ adr p) : (s.putLanes adr val l).word c = s.word c := by
  induction l generalizing s with
  | nil => rfl
  | cons p l ih =>
    obtain ⟨hp, hl⟩ := List.forall_mem_cons.1 h
    obtain ⟨hap, hal⟩ := List.forall_mem_cons.1 hadr
    rw [putLanes_cons, ih _ hal hl, word_putWord_ne s _ hap hc hp]

end PutLanes

/-- Of lanes in rising order, the highest one that names a word gives its value. -/
theorem word_putLanes_highest {adr : Nat × Nat → Nat} {val : Nat × Nat → Word} {l : List (Nat × Nat)}
    (hsorted : l.Pairwise fun p q => p.1 < q.1) (hadr : ∀ p ∈ l, adr p % 4 = 0) {p : Nat × Nat} (hp : p ∈ l)
    (hlast : ∀ q ∈ l, adr q = adr p → q.1 ≤ p.1) (s : State) : (s.putLanes adr val l).word (adr p) = val p := by
  obtain ⟨l₁, l₂, rfl⟩ := List.append_of_mem hp
  have hlater : ∀ q ∈ l₂, p.1 < q.1 := (List.pairwise_cons.1 (List.pairwise_append.1 hsorted).2.1).1
  have hmem : ∀ q ∈ l₂, q ∈ l₁ ++ p :: l₂ := fun q hq => List.mem_append_right l₁ (List.mem_cons_of_mem p hq)
  rw [putLanes_append, putLanes_cons, word_putLanes_ne l₂ _ (fun q hq => hadr q (hmem q hq)) (hadr p hp), word_putWord_same]
  intro q hq heq
  exact absurd (hlast q (hmem q hq) heq.symm) (Nat.not_le.2 (hlater q hq))

/-! ### The lanes of an access (R153, R184) -/

theorem lsLanes_scalar (h : i.fn = 0) (x : Slot) :
    i.lsLanes x = if i.mask x = 0 then [] else [(0, (x.sreg i.a + i.immW).toNat)] := by simp only [KIns.lsLanes, h]

/-- A vector access has one address for each enabled lane. -/
theorem lsLanes_vector (h : i.fn ≠ 0) (x : Slot) : ∃ adr : Nat → Nat, i.lsLanes x = (lanesOn (i.mask x)).map fun k => (k, adr k) := by
  by_cases h1 : i.fn = 1
  · exact ⟨fun k => (x.sreg i.a + i.immW + BitVec.ofNat 32 (4 * k)).toNat, by simp only [KIns.lsLanes, h1]⟩
  · refine ⟨fun k => (x.vreg i.a k + i.immW).toNat, ?_⟩
    rw [KIns.lsLanes]
    split
    next h0 => exact absurd h0 h
    next h1' => exact absurd h1' h1
    next => rfl

theorem lsLanes_sorted (i : KIns) (x : Slot) : (i.lsLanes x).Pairwise fun p q => p.1 < q.1 := by
  by_cases h : i.fn = 0
  · rw [lsLanes_scalar h]
    split
    · exact .nil
    · exact List.pairwise_singleton _ _
  · obtain ⟨adr, hadr⟩ := lsLanes_vector h x
    rw [hadr, List.pairwise_map]
    exact List.Pairwise.filter _ List.pairwise_lt_range

/-- An address without a fault names an aligned word. -/
theorem lsAddr_aligned {a : Nat} {st : Bool} (h : s.lsFault e a st = none) : lsAddr e a % 4 = 0 := by
  have hal : a % 4 = 0 := by
    refine Decidable.byContradiction fun hne => ?_
    simp only [State.lsFault, if_pos hne] at h
    split at h <;> exact absurd h (by simp)
  simp only [lsAddr, lsTarget, lsBase]
  omega

/-- The faults of an access do not depend on the count of the issue. -/
theorem lsFault_issued (s : State) (e t a : Nat) (st : Bool) : (s.issued e t).lsFault e a st = s.lsFault e a st := by
  have hcode : ∀ k, (s.issued e t).codeBytes k = s.codeBytes k := fun k => by
    rw [State.codeBytes, State.codeBytes, State.get, State.get, rd_issued s e t (by simp only [ENG_CFG, ENG_ISSUED]; omega)
      (by simp only [ENG_CFG, ENG_ISSUED]; omega)]
  have hgate : ∀ k, (s.issued e t).bit (ENG_STAT_GATED k) = s.bit (ENG_STAT_GATED k) := fun k => by
    rw [State.bit, State.bit, State.get, State.get, rd_issued s e t (by simp only [ENG_STAT, ENG_ISSUED]; omega)
      (by simp only [ENG_STAT, ENG_ISSUED]; omega)]
  simp only [State.lsFault, hcode, hgate]

/-! ### LD (R184) -/

/-- The slot after the words of the lanes are loaded. -/
def State.loaded (b : State) (e : Nat) (i : KIns) (x : Slot) : Slot :=
  (i.lsLanes x).foldl (fun y p =>
    if i.fn = 0 then y.setS i.d (b.word (lsAddr e p.2)) else y.setV i.d p.1 (b.word (lsAddr e p.2))) x

theorem kLd_faults {c : Nat} (h : (i.lsLanes (b.slot e t)).findSome? (fun p => b.lsFault e p.2 false) = some c) :
    b.kLd e t i = .fault c := by simp only [State.kLd, h]

theorem kLd_loads (h : (i.lsLanes (b.slot e t)).findSome? (fun p => b.lsFault e p.2 false) = none) : b.kLd e t i =
    .next ((b.setSlot e t (b.loaded e i (b.slot e t))).bumpN (ENG_LSCONF e)
      (extraPasses ((i.lsLanes (b.slot e t)).map fun p => lsAddr e p.2))) := by
  simp only [State.kLd, h]
  rfl

theorem loaded_scalar (h : i.fn = 0) : (∀ n, (b.loaded e i x).sreg n =
      if n = i.d ∧ i.lsLanes x ≠ [] then b.word (lsAddr e (x.sreg i.a + i.immW).toNat) else x.sreg n) ∧
    b.loaded e i x = { x with s := (b.loaded e i x).s } := by
  have hlanes := lsLanes_scalar h x
  by_cases hm : i.mask x = 0
  · rw [if_pos hm] at hlanes
    simp [State.loaded, hlanes]
  · rw [if_neg hm] at hlanes
    have hloaded : b.loaded e i x = x.setS i.d (b.word (lsAddr e (x.sreg i.a + i.immW).toNat)) := by
      simp [State.loaded, hlanes, h]
    rw [hloaded, hlanes]
    refine ⟨fun n => ?_, rfl⟩
    by_cases hn : n = i.d
    · subst hn
      rw [sreg_setS_same, if_pos ⟨rfl, List.cons_ne_nil _ _⟩]
    · rw [sreg_setS_ne _ _ hn, if_neg (fun hand => hn hand.1)]

/-- A vector load is a vector result that never saturates. -/
theorem foldl_setV_eq_laneWrite (d : Nat) (g : Nat → Word) (l : List Nat) (y : Slot) (f : Bool) :
    l.foldl (fun y k => y.setV d k (g k)) y = (l.foldl (laneWrite d fun k => noSat (g k)) (y, f)).1 := by
  induction l generalizing y f with
  | nil => rfl
  | cons k l ih => exact ih _ _

theorem loaded_vector (h : i.fn ≠ 0) : (∀ p ∈ i.lsLanes x, (b.loaded e i x).vreg i.d p.1 = b.word (lsAddr e p.2)) ∧
    (∀ n k, k < 16 → n ≠ i.d ∨ laneOn (i.mask x) k = false → (b.loaded e i x).vreg n k = x.vreg n k) ∧
    b.loaded e i x = { x with v := (b.loaded e i x).v } := by
  obtain ⟨adr, hadr⟩ := lsLanes_vector h x
  have hloaded : b.loaded e i x = (x.vecWrite (i.mask x) i.d fun k => noSat (b.word (lsAddr e (adr k)))).1 := by
    simp only [State.loaded, hadr, List.foldl_map, h, if_false]
    exact foldl_setV_eq_laneWrite _ _ _ _ _
  rw [hloaded]
  refine ⟨fun p hp => ?_, fun n k hk hn => ?_, vecWrite_rest _ _ _ _⟩
  · rw [hadr] at hp
    obtain ⟨k, hk, rfl⟩ := List.mem_map.1 hp
    obtain ⟨hk16, hon⟩ := mem_lanesOn.1 hk
    rw [vreg_vecWrite _ _ _ _ hk16, if_pos hon]
    rfl
  · by_cases hne : n = i.d
    · subst hne
      rw [vreg_vecWrite _ _ _ _ hk, if_neg (by simp [hn.resolve_left (not_not_intro rfl)])]
    · exact vreg_vecWrite_ne _ _ _ _ hk hne

/-! ### ST (R184) -/

/-- The value that lane `p` of a store gives. -/
def KIns.stored (i : KIns) (x : Slot) (p : Nat × Nat) : Word := if i.fn = 0 then x.sreg i.d else x.vreg i.d p.1

/-- Memory after the words of the lanes are stored. -/
def State.stores (b : State) (e : Nat) (i : KIns) (x : Slot) : State :=
  b.putLanes (fun p => lsAddr e p.2) (i.stored x) (i.lsLanes x)

@[simp] theorem slot_stores (b : State) (e : Nat) (i : KIns) (x : Slot) (f u : Nat) : (b.stores e i x).slot f u = b.slot f u := by
  simp only [State.slot, State.stores, putLanes_eng]

@[simp] theorem rd_stores (b : State) (e : Nat) (i : KIns) (x : Slot) (c : Nat) : (b.stores e i x).rd c = b.rd c := by
  simp only [State.rd, State.stores, putLanes_regs, putLanes_head]

theorem byte_stores_outside (b : State) {a : Nat} (h : ∀ p ∈ i.lsLanes x, a < lsAddr e p.2 ∨ lsAddr e p.2 + 4 ≤ a) :
    (b.stores e i x).byte a = b.byte a := byte_putLanes_outside _ b h

theorem word_stores (b : State) (hok : ∀ p ∈ i.lsLanes x, s.lsFault e p.2 true = none) {p : Nat × Nat}
    (hp : p ∈ i.lsLanes x) (hlast : ∀ q ∈ i.lsLanes x, lsAddr e q.2 = lsAddr e p.2 → q.1 ≤ p.1) :
    (b.stores e i x).word (lsAddr e p.2) = i.stored x p :=
  word_putLanes_highest (lsLanes_sorted i x) (fun q hq => lsAddr_aligned (hok q hq)) hp hlast b

theorem kSt_faults {c : Nat} (h : (i.lsLanes (b.slot e t)).findSome? (fun p => b.lsFault e p.2 true) = some c) :
    b.kSt e t i = .fault c := by simp only [State.kSt, h]

theorem kSt_stores (h : (i.lsLanes (b.slot e t)).findSome? (fun p => b.lsFault e p.2 true) = none) : b.kSt e t i =
    .next ((b.stores e i (b.slot e t)).bumpN (ENG_LSCONF e)
      (extraPasses ((i.lsLanes (b.slot e t)).map fun p => lsAddr e p.2))) := by
  simp only [State.kSt, h]
  rfl

section Rows

variable {row : KIns → Bool} {eff : State → Nat → Nat → KIns → KRes}

/-- A row whose effect leaves `q` and counts at `a`, `q` holding `y` in the slot and no other change of slots and registers. -/
theorem State.Issues.settled_bumpN {y : Slot} {a n : Nat} (h : s.Issues e t i) (hrow : row i = true)
    (heff : eff (s.issued e t) e t i = .next (q.bumpN a n)) (hslot : q.slot e t = y)
    (hothers : ∀ f u, 8 * f + u ≠ 8 * e + t → q.slot f u = (s.issued e t).slot f u)
    (hregs : ∀ c, q.rd c = (s.issued e t).rd c) : ∃ r, settled (s.kerf e t row eff) = .next r ∧
      SlotResult s r e t y [a, a + 4] ∧ ∀ c, r.byte c = q.byte c := by
  refine ⟨_, h.settled_kerf hrow heff rfl, ?_, fun c => ?_⟩
  · exact h.slotResult ((slot_bumpN q a n e t).trans hslot) (fun f u hne => (slot_bumpN q a n f u).trans (hothers f u hne))
      fun c hc => (sameRegisters_bumpN q a n c hc).trans (hregs c)
  · exact (byte_settle _ c).trans ((byte_setSlot (q.bumpN a n) e t _ c).trans (byte_bumpN q a n c))

end Rows

/-! ### O38 -/

/-- No lane of an access that does not fault faults once the issue is counted. -/
theorem findSome?_lsFault_issued (s : State) (e t : Nat) (st : Bool) (l : List (Nat × Nat)) :
    l.findSome? (fun p => (s.issued e t).lsFault e p.2 st) = l.findSome? (fun p => s.lsFault e p.2 st) := by
  simp only [lsFault_issued]

/-- Settles O38: a load is a vector or scalar result of the words named, a store the words of its lanes in rising order. -/
theorem loadsAndStoresReachTheNamedWords : Obligations.LoadsAndStoresReachTheNamedWords := by
  intro s e t i h
  have hslot := h.slot_issued_self
  have hlanes : i.lsLanes ((s.issued e t).slot e t) = i.lsLanes (s.slot e t) := by rw [hslot]; rfl
  have hfaults : ∀ st, (i.lsLanes ((s.issued e t).slot e t)).findSome? (fun p => (s.issued e t).lsFault e p.2 st) =
      (i.lsLanes (s.slot e t)).findSome? (fun p => s.lsFault e p.2 st) := fun st => by
    rw [findSome?_lsFault_issued, hlanes]
  refine ⟨fun hop hok => ?load, fun hop hok => ?store, fun c => ⟨fun hop hc => ?loadFault, fun hop hc => ?storeFault⟩⟩
  case load =>
    have hnone := (hfaults false).trans (List.findSome?_eq_none_iff.2 hok)
    obtain ⟨r, hr, hres, hbytes⟩ := h.settled_bumpN (row := fun i => i.op = 0x30) (decide_eq_true hop) (kLd_loads hnone)
      (slot_setSlot_same _ _ _ _) (fun f u hne => by rw [slot_setSlot, if_neg hne]) (fun c => rd_setSlot _ _ _ _ c)
    rw [hslot] at hres
    refine ⟨r, _, hr, fun c => (hbytes c).trans ((byte_setSlot _ e t _ c).trans (byte_issued s e t c)), hres, fun hfn => ?_, fun hfn => ?_⟩
    · obtain ⟨hregs, hrest⟩ := loaded_scalar (b := s.issued e t) (e := e) (x := (s.slot e t).unyielded t) hfn
      exact ⟨fun n => (hregs n).trans (by rw [word_issued]; rfl), hrest⟩
    · obtain ⟨hlane, hother, hrest⟩ := loaded_vector (b := s.issued e t) (e := e) (x := (s.slot e t).unyielded t) hfn
      exact ⟨fun p hp => (hlane p hp).trans (word_issued s e t _), hother, hrest⟩
  case store =>
    have hnone := (hfaults true).trans (List.findSome?_eq_none_iff.2 hok)
    obtain ⟨r, hr, hres, hbytes⟩ := h.settled_bumpN (row := fun i => i.op = 0x31) (decide_eq_true hop) (kSt_stores hnone)
      ((slot_stores _ _ _ _ e t).trans hslot) (fun f u _ => slot_stores _ _ _ _ f u) (fun c => rd_stores _ _ _ _ c)
    rw [hslot] at hbytes
    refine ⟨r, hr, hres, fun a ha => ?_, fun p hp hlast => ?_⟩
    · exact (hbytes a).trans ((byte_stores_outside _ ha).trans (byte_issued s e t a))
    · have hword : r.word (lsAddr e p.2) = ((s.issued e t).stores e i ((s.slot e t).unyielded t)).word (lsAddr e p.2) := by
        simp only [State.word, hbytes]
      exact hword.trans (word_stores (s := s) (x := (s.slot e t).unyielded t) _ hok hp hlast)
  case loadFault =>
    exact h.settled_kerf (row := fun i => i.op = 0x30) (decide_eq_true hop)
      (kLd_faults ((hfaults false).trans hc)) (by rw [pc_issued]; rfl)
  case storeFault =>
    exact h.settled_kerf (row := fun i => i.op = 0x31) (decide_eq_true hop)
      (kSt_faults ((hfaults true).trans hc)) (by rw [pc_issued]; rfl)

end Sys2Proof.Machine
end

section
/-! Flume instructions (R148, R186, R187, R196): the effect of PULL, PUSH and RELO in each case, their releases, and O39. -/

namespace Sys2Proof.Machine

variable {s b : State} {e t c f : Nat} {i : KIns} {x : Slot}

/-! ### The ends of an issue (R148, R149, R173) -/

section Rows

variable {row : KIns → Bool} {eff : State → Nat → Nat → KIns → KRes}

theorem State.Issues.settled_past {r : State} (h : s.Issues e t i) (hrow : row i = true)
    (hk : eff (s.issued e t) e t i = .next r) : settled (s.kerf e t row eff) = .next ((s.issued e t).past r e t).settle :=
  h.settled_kerf hrow hk rfl

theorem State.Issues.settled_waits {r : State} {st : SlotSt} {w : Blocked} (h : s.Issues e t i) (hrow : row i = true)
    (hk : eff (s.issued e t) e t i = .wait r st w) : settled (s.kerf e t row eff) = .next (r.waits e t st w).settle :=
  h.settled_kerf hrow hk rfl

theorem State.Issues.settled_faults (h : s.Issues e t i) (hrow : row i = true)
    (hk : eff (s.issued e t) e t i = .fault c) : settled (s.kerf e t row eff) =
      .next ((s.issued e t).threadFault e t c (s.kword e ((s.issued e t).slot e t).pc)).settle :=
  h.settled_kerf hrow hk (by rw [pc_issued]; rfl)

end Rows

/-! ### A guard of zero, and a context that is not the thread's -/

theorem kPull_masked (h : i.mask (b.slot e t) = 0) : b.kPull e t i = .next b := if_pos h

theorem kPush_masked (h : i.mask (b.slot e t) = 0) : b.kPush e t i = .next b := if_pos h

theorem kRelo_masked (h : i.mask (b.slot e t) = 0) : b.kRelo e t i = .next b := if_pos h

section Enabled

variable (hx : x = b.slot e t) (hc : c = (x.sreg i.a).toNat) (hf : f = c * 16 + i.imm) (hm : i.mask x ≠ 0)
include hx hc hm

section Unbound

variable (hbound : b.ctxBound e t c = false)
include hbound

theorem kPull_unbound : b.kPull e t i = .fault 6 := by
  subst hx hc
  exact (if_neg hm).trans (if_pos (by rw [hbound]; rfl))

theorem kPush_unbound : b.kPush e t i = .fault 6 := by
  subst hx hc
  exact (if_neg hm).trans (if_pos (by rw [hbound]; rfl))

theorem kRelo_unbound : b.kRelo e t i = .fault 6 := by
  subst hx hc
  exact (if_neg hm).trans (if_pos (by rw [hbound]; rfl))

end Unbound

/-! ### PULL, PUSH and RELO of a bound context -/

variable (hbound : b.ctxBound e t c = true)
include hf hbound

theorem kPull_finds (hok : b.pullOk f = true) : b.kPull e t i =
    .next (if i.x1 = 1 then (b.pullInto e t f i.d).setOutcome e t i.b true else b.pullInto e t f i.d) := by
  subst hx hc hf
  exact (if_neg hm).trans ((if_neg (by rw [hbound]; decide)).trans (if_pos hok))

theorem kPull_empty (hno : b.pullOk f = false) : b.kPull e t i =
    if i.x1 = 1 then .next (b.setOutcome e t i.b false) else .wait b .flumewait (.pull f i.d) := by
  subst hx hc hf
  exact (if_neg hm).trans ((if_neg (by rw [hbound]; decide)).trans (if_neg (by rw [hno]; decide)))

theorem kPush_room {r : State} (hroom : b.flumeFull f = false)
    (hr : r = b.pushFrom e t f (x.sreg i.d) (x.sreg (i.d + 1)) (x.sreg (i.d + 2)) (x.sreg (i.d + 3))) :
    b.kPush e t i = .next (if i.x1 = 1 then r.setOutcome e t i.b true else r) := by
  subst hx hc hf hr
  exact (if_neg hm).trans ((if_neg (by rw [hbound]; decide)).trans (if_pos (by rw [hroom]; rfl)))

theorem kPush_full (hfull : b.flumeFull f = true) : b.kPush e t i =
    if i.x1 = 1 then .next (b.setOutcome e t i.b false) else .wait b .flumewait
      (.push f (x.sreg i.d) (x.sreg (i.d + 1)) (x.sreg (i.d + 2)) (x.sreg (i.d + 3))) := by
  subst hx hc hf
  exact (if_neg hm).trans ((if_neg (by rw [hbound]; decide)).trans (if_neg (by rw [hfull]; decide)))

theorem kRelo_room (hroom : b.flumeFull f = false) : b.kRelo e t i =
    .next (b.reloFrom e t f (x.sreg i.d) (x.sreg (i.d + 1)) (x.sreg (i.d + 2)) (x.sreg (i.d + 3)) (x.sreg i.b)
      (if i.x1 = 1 then some i.c else none)) := by
  subst hx hc hf
  exact (if_neg hm).trans ((if_neg (by rw [hbound]; decide)).trans (if_neg (by rw [hroom]; decide)))

theorem kRelo_full (hfull : b.flumeFull f = true) : b.kRelo e t i =
    .wait b .flumewait (.relo f (x.sreg i.d) (x.sreg (i.d + 1)) (x.sreg (i.d + 2)) (x.sreg (i.d + 3)) (x.sreg i.b)
      (if i.x1 = 1 then some i.c else none)) := by
  subst hx hc hf
  exact (if_neg hm).trans ((if_neg (by rw [hbound]; decide)).trans (if_pos hfull))

end Enabled

/-! ### The release of a thread that waits (R148) -/

section Release

variable (hready : s.ready = true) (hst : (s.slot e t).st = .flumewait) (hcan : s.flumeReady e t = true)
include hready hst hcan

theorem exec_flumewaitRelease {r : State} (h : s.flumeRelease e t = r) : exec (.flumewaitRelease e t) s = .next r.settle :=
  settled_of_guard_eq (by simp [hready, hst, hcan]) h

end Release

theorem flumeRelease_pull {d : Nat} {r : State} (h : (s.slot e t).blk = some (.pull f d))
    (hr : r = (s.pullInto e t f d).trace 0x11 3 (s.slot e t).thr e t f) :
    s.flumeRelease e t = r.setSlot e t (r.slot e t).released := by
  simp only [State.flumeRelease, h, hr]

theorem flumeRelease_push {w0 w1 w2 w3 : Word} {r : State} (h : (s.slot e t).blk = some (.push f w0 w1 w2 w3))
    (hr : r = (s.pushFrom e t f w0 w1 w2 w3).trace 0x11 3 (s.slot e t).thr e t f) :
    s.flumeRelease e t = r.setSlot e t (r.slot e t).released := by
  simp only [State.flumeRelease, h, hr]

theorem flumeRelease_relo {w0 w1 w2 w3 g : Word} {p : Option Nat} {r : State}
    (h : (s.slot e t).blk = some (.relo f w0 w1 w2 w3 g p))
    (hr : r = (s.reloFrom e t f w0 w1 w2 w3 g p).trace 0x11 3 (s.slot e t).thr e t f) :
    s.flumeRelease e t = r.setSlot e t (r.slot e t).released := by
  simp only [State.flumeRelease, h, hr]

/-! ### O39 -/

/-- Settles O39: each instruction's result is its effect's lemma under the issue. -/
theorem flumeInstructionsAct : Obligations.FlumeInstructionsAct := by
  refine fun s e t => ⟨fun i h => ⟨fun hm => ⟨?pullMasked, ?pushMasked, ?reloMasked⟩,
    fun hm hb => ⟨?pullUnbound, ?pushUnbound, ?reloUnbound⟩, fun hm hb => ⟨?pull, ?pullX, ?pullWait, ?pullNo, ?push, ?pushWait,
      ?pushNo, ?relo⟩⟩, fun hready hst hcan f => ⟨fun d hblk => ?freePull, fun w0 w1 w2 w3 hblk => ?freePush,
        fun w0 w1 w2 w3 g p hblk => ?freeRelo⟩⟩
  case pullMasked => exact fun hop => h.settled_past (decide_eq_true hop) (kPull_masked hm)
  case pushMasked => exact fun hop => h.settled_past (decide_eq_true hop) (kPush_masked hm)
  case reloMasked => exact fun hop => h.settled_past (decide_eq_true hop) (kRelo_masked hm)
  case pullUnbound => exact fun hop => h.settled_faults (decide_eq_true hop) (kPull_unbound rfl rfl hm hb)
  case pushUnbound => exact fun hop => h.settled_faults (decide_eq_true hop) (kPush_unbound rfl rfl hm hb)
  case reloUnbound => exact fun hop => h.settled_faults (decide_eq_true hop) (kRelo_unbound rfl rfl hm hb)
  case pull =>
    exact fun hop hok hx1 => h.settled_past (decide_eq_true hop)
      ((kPull_finds rfl rfl rfl hm hb hok).trans (congrArg KRes.next (if_neg (by omega))))
  case pullX =>
    exact fun hop hok hx1 => h.settled_past (decide_eq_true hop)
      ((kPull_finds rfl rfl rfl hm hb hok).trans (congrArg KRes.next (if_pos hx1)))
  case pullWait =>
    exact fun hop hno hx1 => h.settled_waits (decide_eq_true hop)
      ((kPull_empty rfl rfl rfl hm hb hno).trans (if_neg (by omega)))
  case pullNo =>
    exact fun hop hno hx1 => h.settled_past (decide_eq_true hop) ((kPull_empty rfl rfl rfl hm hb hno).trans (if_pos hx1))
  case push => exact fun hop hroom => h.settled_past (decide_eq_true hop) (kPush_room rfl rfl rfl hm hb hroom rfl)
  case pushWait =>
    exact fun hop hfull hx1 => h.settled_waits (decide_eq_true hop)
      ((kPush_full rfl rfl rfl hm hb hfull).trans (if_neg (by omega)))
  case pushNo =>
    exact fun hop hfull hx1 => h.settled_past (decide_eq_true hop) ((kPush_full rfl rfl rfl hm hb hfull).trans (if_pos hx1))
  case relo =>
    exact fun hop => ⟨fun hroom => h.settled_past (decide_eq_true hop) (kRelo_room rfl rfl rfl hm hb hroom),
      fun hfull => h.settled_waits (decide_eq_true hop) (kRelo_full rfl rfl rfl hm hb hfull)⟩
  case freePull => exact exec_flumewaitRelease hready hst hcan (flumeRelease_pull hblk rfl)
  case freePush => exact exec_flumewaitRelease hready hst hcan (flumeRelease_push hblk rfl)
  case freeRelo => exact exec_flumewaitRelease hready hst hcan (flumeRelease_relo hblk rfl)

end Sys2Proof.Machine
end

section
/-! Sampler and event instructions (R147, R159, R188-R195): the effect of each in its cases, the releases, and O40. -/

namespace Sys2Proof.Machine

variable {s a b : State} {e t : Nat} {i : KIns}

/-! ### A guard of zero -/

section Masked

variable (h : i.mask (b.slot e t) = 0)
include h

theorem kLut3_masked : b.kLut3 e t i = .next b := if_pos h

theorem kSclvOpen_masked : b.kSclvOpen e t i = .next b := if_pos h

theorem kSclvRun_masked : b.kSclvRun e t i = .next b := if_pos h

theorem kSclvClose_masked : b.kSclvClose e t i = .next b := if_pos h

theorem kSclh_masked : b.kSclh e t i = .next b := if_pos h

theorem kWaitf_masked : b.kWaitf e t i = .next b := if_pos h

theorem kSigf_masked : b.kSigf e t i = .next b := if_pos h

end Masked

/-! ### Requests to the samplers (R147) -/

/-- The request of slot (e, t) in its crew's queue. -/
def State.requested (a : State) (e t : Nat) (k : SmpKind) : State :=
  (a.enqueue e t k).setCrew (e / 8) ((a.enqueue e t k).crew (e / 8)).settle

theorem sample_third {k : SmpKind} (h : 2 ≤ a.smpOut e t) : a.sample e t k = .wait a .smpwait (.third k) := if_pos h

theorem sample_sends {k : SmpKind} (h : a.smpOut e t < 2) : a.sample e t k =
    if a.holdsThread e t k then .wait (a.requested e t k) .smpwait .sampler else .next (a.requested e t k) :=
  if_neg (Nat.not_le.2 h)

section Rows

variable {row : KIns → Bool} {eff : State → Nat → Nat → KIns → KRes} {k : SmpKind} (h : s.Issues e t i) (hrow : row i = true)
  (hk : eff (s.issued e t) e t i = a.sample e t k)
include h hrow hk

theorem State.Issues.settled_sample_third (hout : 2 ≤ a.smpOut e t) :
    settled (s.kerf e t row eff) = .next (a.waits e t .smpwait (.third k)).settle :=
  h.settled_waits hrow (hk.trans (sample_third hout))

theorem State.Issues.settled_sample_sends (hout : a.smpOut e t < 2) : settled (s.kerf e t row eff) =
    .next (if a.holdsThread e t k then (a.requested e t k).waits e t .smpwait .sampler
      else (s.issued e t).past (a.requested e t k) e t).settle := by
  have hsends := hk.trans (sample_sends hout)
  split
  next hheld => exact h.settled_waits hrow (hsends.trans (if_pos hheld))
  next hfree => exact h.settled_past hrow (hsends.trans (if_neg hfree))

end Rows

section Enabled

variable (h : i.mask (b.slot e t) ≠ 0)
include h

theorem kLut3_sends {n : Nat} (hn : n = if i.x1 = 1 then ((b.slot e t).sreg i.b).toNat else i.imm)
    (ha : a = if lutClips (b.slot e t) i.a (i.mask (b.slot e t)) then
      (b.setSlot e t { b.slot e t with sat := true }).bump (ENG_SATCNT e) else b) : b.kLut3 e t i =
    a.sample e t (.lut ((List.range 16).map ((b.slot e t).vreg i.a)) ((List.range 16).map ((b.slot e t).vreg (i.a + 1)))
      ((List.range 16).map ((b.slot e t).vreg (i.a + 2))) i.d (i.mask (b.slot e t)) (nbits n 0 2) (nbits n 2 3)
      (nbits n 5 1 = 1)) := by
  subst hn ha
  exact if_neg h

theorem kSclvRun_sends : b.kSclvRun e t i = b.sample e t (.srun ((b.slot e t).sreg i.a)) := if_neg h

theorem kSclvClose_sends : b.kSclvClose e t i = b.sample e t .sclose := if_neg h

theorem kSclh_sends : b.kSclh e t i = b.sample e t (.sclh ((b.slot e t).sreg i.a) i.d (i.mask (b.slot e t))) := if_neg h

/-! ### SCLV.OPEN (R162, R190) -/

/-- The address of word `j` of the descriptor. -/
def KIns.descAddr (i : KIns) (x : Slot) (j : Nat) : Nat := (x.sreg i.a + i.immW + BitVec.ofNat 32 (4 * j)).toNat

theorem kSclvOpen_faults {c : Nat}
    (hc : (List.range 8).findSome? (fun j => b.lsFault e (i.descAddr (b.slot e t) j) false) = some c) :
    b.kSclvOpen e t i = .fault c := by
  refine (if_neg h).trans ?_
  simp only [KIns.descAddr] at hc
  simp only [hc]

section Reads

variable (hok : ∀ j, j < 8 → b.lsFault e (i.descAddr (b.slot e t) j) false = none)
include hok

theorem kSclvOpen_reads : b.kSclvOpen e t i =
    match passDesc (fun j => (b.word (lsAddr e (i.descAddr (b.slot e t) j))).toNat) with
    | none => .fault 1
    | some d => b.sample e t (.sopen d) := by
  have hnone : (List.range 8).findSome? (fun j => b.lsFault e (i.descAddr (b.slot e t) j) false) = none :=
    List.findSome?_eq_none_iff.2 fun j hj => hok j (List.mem_range.1 hj)
  refine (if_neg h).trans ?_
  simp only [KIns.descAddr] at hnone
  simp only [hnone] <;> rfl

theorem kSclvOpen_bad (hbad : passDesc (fun j => (b.word (lsAddr e (i.descAddr (b.slot e t) j))).toNat) = none) :
    b.kSclvOpen e t i = .fault 1 := by rw [kSclvOpen_reads h hok, hbad]

theorem kSclvOpen_sends {d : PassDesc}
    (hd : passDesc (fun j => (b.word (lsAddr e (i.descAddr (b.slot e t) j))).toNat) = some d) :
    b.kSclvOpen e t i = b.sample e t (.sopen d) := by rw [kSclvOpen_reads h hok, hd]

end Reads

/-! ### WAITF and SIGF (R194, R195) -/

/-- The WAITF releases at once. -/
def State.waitfReleases (b : State) (e t : Nat) (i : KIns) : Bool :=
  waitRelease (i.fn = 1) (b.thread (b.slot e t).thr).flags ((b.slot e t).sreg i.a)

theorem kWaitf_done (hdone : b.waitfReleases e t i = true ∨ i.x2 = 1) : b.kWaitf e t i =
    .next (b.waitDone e t ((b.slot e t).sreg i.a) (b.waitfReleases e t i && i.x1 = 1) i.d) :=
  (if_neg h).trans (if_pos (by simpa [State.waitfReleases] using hdone))

theorem kWaitf_waits (hrel : b.waitfReleases e t i = false) (hx2 : i.x2 = 0) : b.kWaitf e t i =
    .wait (b.setThread (b.slot e t).thr { b.thread (b.slot e t).thr with
      waiting := true, waitall := i.fn = 1, mask := (b.slot e t).sreg i.a }) .evwait
        (.waitf ((b.slot e t).sreg i.a) (i.fn = 1) (i.x1 = 1) i.d) :=
  (if_neg h).trans (if_neg (by simpa [State.waitfReleases, hx2] using hrel))

theorem kSigf_signals : b.kSigf e t i = .next (b.signal ((b.slot e t).sreg i.a).toNat ((b.slot e t).sreg i.b)) := if_neg h

end Enabled

/-! ### The release of a WAITF, and the samplers' results (R147, R194) -/

theorem exec_evwaitRelease {m : Word} {al clr : Bool} {d : Nat} {r : State} (hready : s.ready = true)
    (hst : (s.slot e t).st = .evwait) (hblk : (s.slot e t).blk = some (.waitf m al clr d))
    (hrel : waitRelease al (s.thread (s.slot e t).thr).flags m = true)
    (ha : a = s.trace 0x12 3 (s.slot e t).thr e t ((s.thread (s.slot e t).thr).flags &&& m).toNat)
    (hr : r = a.waitDone e t m clr d) :
    exec (.evwaitRelease e t) s = .next (r.setSlot e t (r.slot e t).released).settle := by
  have hcan : s.eventReady e t = true := by simp only [State.eventReady, hblk, hrel]
  refine settled_of_guard_eq (by simp [hready, hst, hcan]) ?_
  simp only [State.eventRelease, hblk, ha, hr]

/-! ### O40 -/

/-- Settles O40: the requests by their kind, the rest by their effects' lemmas under the issue. -/
theorem samplerAndEventInstructionsAct : Obligations.SamplerAndEventInstructionsAct := by
  refine fun s e t => ⟨fun i h => ⟨fun hm => ⟨?lut, ?sopen, ?srun, ?sclose, ?sclh, ?waitf, ?sigf⟩, fun hm => ⟨fun k c a hkind => ?request,
    fun hop hfn => ⟨fun c hc => ?openFault, fun hok hbad => ?openBad⟩, fun hop => ⟨fun hdone => ?waitDone, fun hrel hx2 => ?waits⟩,
      fun hop => ?signal⟩⟩, fun m al clr d hready hst hblk hrel => ?freed, fun c lut hready hon => ?result⟩
  case lut => exact fun hop => h.settled_past (decide_eq_true hop) (kLut3_masked hm)
  case sopen => exact fun hop hfn => h.settled_past (by simp [hop, hfn]) (kSclvOpen_masked hm)
  case srun => exact fun hop hfn => h.settled_past (by simp [hop, hfn]) (kSclvRun_masked hm)
  case sclose => exact fun hop hfn => h.settled_past (by simp [hop, hfn]) (kSclvClose_masked hm)
  case sclh => exact fun hop => h.settled_past (decide_eq_true hop) (kSclh_masked hm)
  case waitf => exact fun hop => h.settled_past (decide_eq_true hop) (kWaitf_masked hm)
  case sigf => exact fun hop => h.settled_past (decide_eq_true hop) (kSigf_masked hm)
  case request =>
    have hrow : ∃ row eff, exec c s = settled (s.kerf e t row eff) ∧ row i = true ∧ eff (s.issued e t) e t i = a.sample e t k := by
      rcases hkind with hrun | hclose | hsclh | hlut | hopen
      · obtain ⟨hop, hfn, rfl, rfl, ha⟩ := hrun
        exact ⟨_, _, rfl, by simp [hop, hfn], (kSclvRun_sends hm).trans (by rw [ha])⟩
      · obtain ⟨hop, hfn, rfl, rfl, ha⟩ := hclose
        exact ⟨_, _, rfl, by simp [hop, hfn], (kSclvClose_sends hm).trans (by rw [ha])⟩
      · obtain ⟨hop, rfl, rfl, ha⟩ := hsclh
        exact ⟨_, _, rfl, decide_eq_true hop, (kSclh_sends hm).trans (by rw [ha])⟩
      · obtain ⟨n, hop, hn, rfl, ha, rfl⟩ := hlut
        exact ⟨_, _, rfl, decide_eq_true hop, kLut3_sends hm hn ha⟩
      · obtain ⟨d, hop, hfn, rfl, rfl, ha, hok, hd⟩ := hopen
        exact ⟨_, _, rfl, by simp [hop, hfn], (kSclvOpen_sends hm hok hd).trans (by rw [ha])⟩
    obtain ⟨row, eff, hexec, hrow, hk⟩ := hrow
    rw [hexec]
    exact ⟨h.settled_sample_third hrow hk, h.settled_sample_sends hrow hk⟩
  case openFault => exact h.settled_faults (by simp [hop, hfn]) (kSclvOpen_faults hm hc)
  case openBad => exact h.settled_faults (by simp [hop, hfn]) (kSclvOpen_bad hm hok hbad)
  case waitDone => exact h.settled_past (decide_eq_true hop) (kWaitf_done hm hdone)
  case waits => exact h.settled_waits (decide_eq_true hop) (kWaitf_waits hm hrel hx2)
  case signal => exact h.settled_past (decide_eq_true hop) (kSigf_signals hm)
  case freed => exact exec_evwaitRelease hready hst hblk hrel rfl rfl
  case result => exact settled_of_guard (by simp [hready, hon])

end Sys2Proof.Machine
end
